-- ==== Sys2Proof/Word.lean ====
section
/-! DEFINITION. The one word type of the part: the byte. The companion's frames, pack blocks and request arguments are
bytes; every other quantity of the manual is a number, a name or a record, and is one here too. -/

namespace Sys2Proof

/-- One character of the system link, one byte of a pack block (R48, R181). -/
abbrev Byte := BitVec 8

end Sys2Proof
end

