-- ==== Sys2Proof/Config.lean ====
section
/-! DEFINITION. What the manual leaves open. The manual fixes every value of this part; what it leaves open is only the order
in which two simultaneous evaluations of one step are taken ("in either order"). -/

namespace Sys2Proof.Config

/-- The order of two evaluations that R38 and R90 let one step take in either order: `true` when the SECOND one named goes
first (bay B before bay A; the backlight's reset part before the budget's). A FREE VALUE: it has no body, so nothing can be
proved of it. It is applied to `State.freeIndex`, which advances at each use (assumption 9). -/
opaque secondFirst : Nat → Bool

end Sys2Proof.Config
end

