-- ==== Sys2Proof/Syntax.lean ====
section
/-! DEFINITION. The commands of the companion: one constructor of `Instr` per row of spec/opcode_table.json, with what the
command carries. An event command (an edge, a sample, an expiry) carries what the spec says the event carries; a request
command carries its tag and its argument bytes (R183), so that a request of any argument length can be written. -/

namespace Sys2Proof

/-- The two battery bays (section 1.4). -/
inductive Bay where
  | A
  | B
  deriving DecidableEq, Repr

/-- The other bay. -/
def Bay.other : Bay → Bay
  | .A => .B
  | .B => .A

/-- The eight discrete inputs (R1). -/
inductive Input where
  | presA
  | latchA
  | relA
  | presB
  | latchB
  | relB
  | lid
  | dock
  deriving DecidableEq, Repr

/-- The two ambient light sensors (R101). -/
inductive LightSensor where
  | front
  | rear
  deriving DecidableEq, Repr

/-- The five results of a bay bus transaction, in the order of R49. -/
inductive TxResult where
  | done
  | nak
  | timeout
  | badCheck
  | removed
  deriving DecidableEq, Repr

/-- A set of pack alarms (section 3.2, R15). -/
structure AlarmSet where
  overTemp : Bool
  overCurrent : Bool
  cellFault : Bool
  permanentFail : Bool
  deriving DecidableEq, Repr

/-- The fixed facts of a pack that the bay record keeps (R15, R50). -/
structure Identity where
  serial : Nat
  chemistry : Nat
  cellCount : Nat
  designCapacity : Nat
  designVoltage : Nat
  deriving DecidableEq, Repr

/-- The fields of a telemetry block (section 3.2, R51). -/
structure Telemetry where
  voltage : Nat
  current : Int
  temperature : Int
  charge : Nat
  remainingEnergy : Nat
  fullCapacity : Nat
  cycleCount : Nat
  alarms : AlarmSet
  deriving DecidableEq, Repr

/-- How an identification sequence ends (R55): failed at its third attempt with that attempt's result, or a success with the
identity and the telemetry read. -/
inductive IdOutcome where
  | failed (result : TxResult)
  | success (identity : Identity) (telemetry : Telemetry)
  deriving DecidableEq, Repr

/-- What the addressed device did by the end of a transaction (R48): it refused the code or a byte, or it accepted all, with
the bytes it sent (none for a word write). -/
inductive BusReply where
  | refused
  | accepted (bytes : List Byte)
  deriving DecidableEq, Repr

/-- Why the ICU takes a new filter length (R4, R6). -/
inductive LengthCause where
  | holdStart
  | holdDrop
  | table0
  deriving DecidableEq, Repr

/-- The blocks that receive a table swap (R174, R175). -/
inductive Block where
  | icu
  | ppc
  | bbc
  | cc
  | bu
  | blc
  | shm
  | lu
  deriving DecidableEq, Repr

/-- The commands, in the order of spec/opcode_table.json. -/
inductive Instr where
  | powerOnReset
  | supplySettleEnd
  | rawLevelChange (input : Input) (asserted : Bool)
  | stabilityTimerExpiry (input : Input)
  | filterLengthChange (cause : LengthCause)
  | ppcPresRising (bay : Bay)
  | ppcPresFalling (bay : Bay)
  | ppcLatchRising (bay : Bay)
  | ppcLatchFalling (bay : Bay)
  | ppcRelRising (bay : Bay)
  | ppcRelFalling (bay : Bay)
  | bbcPresFalling (bay : Bay)
  | blcLidEdge (closed : Bool)
  | sourceMonitorReading (vdc va vb vres : Nat)
  | overlapComplete
  | bridgeTargetClose
  | bridgeTimerExpiry
  | releaseHoldTimerExpiry (bay : Bay)
  | graceExpiry
  | releaseLapseExpiry (bay : Bay)
  | ppcShockHoldStart
  | ppcShockHoldEnd
  | ppcIdentificationOutcome (bay : Bay) (outcome : IdOutcome)
  | ppcTelemetry (bay : Bay) (telemetry : Telemetry)
  | ccTelemetry (bay : Bay) (telemetry : Telemetry)
  | transactionEnd (reply : BusReply)
  | transactionTimeout
  | pollTimerExpiry (bay : Bay)
  | deferredExpiry
  | budgetRecompute
  | cappedEvaluation (demand : Nat)
  | blcPublication (powerCap : Nat) (swapFlag : Bool)
  | blcRailChange (on : Bool)
  | lightSample (sensor : LightSensor) (lux : Nat) (saturated : Bool)
  | lightSensorTimeout (sensor : LightSensor)
  | temperatureSample (reading : Int)
  | temperatureSilenceTimeout
  | rampTick
  | accelSample (x y z : Int)
  | settleTimeout
  | sampleSilenceTimeout
  | clockAdvance
  | table0SwapDelivery (block : Block) (changed : List Nat)
  | table3SwapDelivery (block : Block)
  | upstreamLineFree
  | linkSilenceTimeout
  | frameDiscarded (candidate : List Byte)
  | unknownRequest (tag code : Byte) (args : List Byte)
  | identify (tag : Byte) (args : List Byte)
  | stateRead (tag : Byte) (args : List Byte)
  | companionReset (tag : Byte) (args : List Byte)
  | managementReset
  | tableWrite (tag : Byte) (args : List Byte)
  | tableApply (tag : Byte) (args : List Byte)
  | tableDiscard (tag : Byte) (args : List Byte)
  | tableRead (tag : Byte) (args : List Byte)
  | packRead (tag : Byte) (args : List Byte)
  | packWrite (tag : Byte) (args : List Byte)
  | bayRelease (tag : Byte) (args : List Byte)
  | rail (tag : Byte) (args : List Byte)
  | overridePush (tag : Byte) (args : List Byte)
  | overridePop (tag : Byte) (args : List Byte)
  | offsetSet (tag : Byte) (args : List Byte)
  | shockArm (tag : Byte) (args : List Byte)
  | shockDisarm (tag : Byte) (args : List Byte)
  | quiesceRelease (tag : Byte) (args : List Byte)
  | logRead (tag : Byte) (args : List Byte)
  | logClear (tag : Byte) (args : List Byte)
  | logClearAll (tag : Byte) (args : List Byte)
  | logLock (tag : Byte) (args : List Byte)
  | timeSet (tag : Byte) (args : List Byte)
  | packMemoryRead (tag : Byte) (args : List Byte)
  | packForget (tag : Byte) (args : List Byte)
  | packClearShock (tag : Byte) (args : List Byte)
  | shortPayloadRequest (payload : List Byte)
  deriving DecidableEq, Repr

end Sys2Proof
end

