-- ==== Sys2Proof/Decode.lean ====
section
/-! DEFINITION. Reading commands from bits. No row of spec/opcode_table.json gives bits, so no table word spells a command. What
does have an encoding in this part is a request: the payload of a REQUEST frame (R183, section 10.7), read by `decodeRequest` and
written by `encodeRequest`. -/

namespace Sys2Proof

/-- The command a table word spells: none, for no row of the opcode table gives bits. -/
def decodeTableWord (_nbits _w : Nat) : Option Instr := none

/-- The request a code names, with its tag and argument bytes (section 10.7); a code not in the table is UNKNOWN_REQUEST. -/
def requestOf (tag code : Byte) (args : List Byte) : Instr :=
  match code.toNat with
  | 0x01 => .identify tag args
  | 0x02 => .stateRead tag args
  | 0x03 => .companionReset tag args
  | 0x10 => .tableWrite tag args
  | 0x11 => .tableApply tag args
  | 0x12 => .tableDiscard tag args
  | 0x13 => .tableRead tag args
  | 0x20 => .packRead tag args
  | 0x21 => .packWrite tag args
  | 0x22 => .bayRelease tag args
  | 0x23 => .rail tag args
  | 0x30 => .overridePush tag args
  | 0x31 => .overridePop tag args
  | 0x32 => .offsetSet tag args
  | 0x40 => .shockArm tag args
  | 0x41 => .shockDisarm tag args
  | 0x42 => .quiesceRelease tag args
  | 0x50 => .logRead tag args
  | 0x51 => .logClear tag args
  | 0x52 => .logClearAll tag args
  | 0x53 => .logLock tag args
  | 0x54 => .timeSet tag args
  | 0x60 => .packMemoryRead tag args
  | 0x61 => .packForget tag args
  | 0x62 => .packClearShock tag args
  | _ => .unknownRequest tag code args

/-- The command a REQUEST payload spells (R183): total on any bytes. -/
def decodeRequest (payload : List Byte) : Instr :=
  match payload with
  | tag :: code :: args => requestOf tag code args
  | short => .shortPayloadRequest short

/-- The payload of a request; absent for a command that is not one. -/
def encodeRequest : Instr → Option (List Byte)
  | .identify tag args => some (tag :: 0x01 :: args)
  | .stateRead tag args => some (tag :: 0x02 :: args)
  | .companionReset tag args => some (tag :: 0x03 :: args)
  | .tableWrite tag args => some (tag :: 0x10 :: args)
  | .tableApply tag args => some (tag :: 0x11 :: args)
  | .tableDiscard tag args => some (tag :: 0x12 :: args)
  | .tableRead tag args => some (tag :: 0x13 :: args)
  | .packRead tag args => some (tag :: 0x20 :: args)
  | .packWrite tag args => some (tag :: 0x21 :: args)
  | .bayRelease tag args => some (tag :: 0x22 :: args)
  | .rail tag args => some (tag :: 0x23 :: args)
  | .overridePush tag args => some (tag :: 0x30 :: args)
  | .overridePop tag args => some (tag :: 0x31 :: args)
  | .offsetSet tag args => some (tag :: 0x32 :: args)
  | .shockArm tag args => some (tag :: 0x40 :: args)
  | .shockDisarm tag args => some (tag :: 0x41 :: args)
  | .quiesceRelease tag args => some (tag :: 0x42 :: args)
  | .logRead tag args => some (tag :: 0x50 :: args)
  | .logClear tag args => some (tag :: 0x51 :: args)
  | .logClearAll tag args => some (tag :: 0x52 :: args)
  | .logLock tag args => some (tag :: 0x53 :: args)
  | .timeSet tag args => some (tag :: 0x54 :: args)
  | .packMemoryRead tag args => some (tag :: 0x60 :: args)
  | .packForget tag args => some (tag :: 0x61 :: args)
  | .packClearShock tag args => some (tag :: 0x62 :: args)
  | .unknownRequest tag code args => some (tag :: code :: args)
  | .shortPayloadRequest payload => some payload
  | _ => none

end Sys2Proof
end

