-- ==== Sys2Proof/Machine/Records.lean ====
section
/-! DEFINITION. The records the spec's blocks keep, as plain data: table entries, bay and source records, bus records, the
charger session and pack memory, light, shock and drop records, and the frames of the link. `State` is made of these. -/

namespace Sys2Proof.Machine

/-- One value per bay. -/
structure PerBay (α : Type) where
  a : α
  b : α
  deriving DecidableEq, Repr

/-- The value of one bay. -/
def PerBay.get {α : Type} (p : PerBay α) : Bay → α
  | .A => p.a
  | .B => p.b

/-- The pair with one bay's value replaced. -/
def PerBay.set {α : Type} (p : PerBay α) (bay : Bay) (v : α) : PerBay α :=
  match bay with
  | .A => { p with a := v }
  | .B => { p with b := v }

/-! ### Tables (chapter 9) -/

/-- A ternary condition (section 1.5.4), in the order of its codes in table 2 (R190): ANY, YES, NO. -/
inductive Ternary where
  | any
  | yes
  | no
  deriving DecidableEq, Repr

/-- The brightness curve, table 1 (R108): sixteen points (lux, level) and the count in use. -/
structure Curve where
  points : List (Nat × Nat)
  count : Nat
  deriving DecidableEq, Repr

/-- An entry of table 2, drop classification (R152). -/
structure ClassEntry where
  valid : Bool
  heightLow : Nat
  heightHigh : Nat
  peakLow : Nat
  peakHigh : Nat
  fall : Ternary
  lidClosed : Ternary
  docked : Ternary
  dcPresent : Ternary
  bayAOccupied : Ternary
  bayBOccupied : Ternary
  severity : Nat
  log : Bool
  preserve : Bool
  markPacks : Bool
  keepQuiesce : Bool
  deriving DecidableEq, Repr

/-- An entry of table 3, charge profiles (R76). -/
structure Profile where
  valid : Bool
  chemistry : Nat
  capacityLow : Nat
  capacityHigh : Nat
  voltageLow : Nat
  voltageHigh : Nat
  chargeVoltage : Nat
  chargeCurrent : Nat
  terminationCurrent : Nat
  tempLow : Int
  tempHigh : Int
  maxDischarge : Nat
  deriving DecidableEq, Repr

/-- A table's two copies and its apply-pending mark (R169). -/
structure Copies (α : Type) where
  active : α
  staging : α
  pending : Bool
  deriving DecidableEq, Repr

/-- The Table Store: the five tables (R169). Tables 0 and 4 are lists of numbers by index. -/
structure TableStore where
  t0 : Copies (List Int)
  t1 : Copies Curve
  t2 : Copies (List ClassEntry)
  t3 : Copies (List Profile)
  t4 : Copies (List Nat)
  deriving DecidableEq, Repr

/-! ### Discrete inputs (chapter 1) -/

/-- One input: the raw level at its pin, its filtered state, and its stability timer, stopped or running with its elapsed
time in ticks (section 1.2). -/
structure InputState where
  raw : Bool
  filtered : Bool
  timer : Option Nat
  deriving DecidableEq, Repr

/-- The Input Conditioning Unit: the eight inputs, the shock hold as the ICU has taken it, and the filter lengths in use, in
ms (R4, R9). -/
structure Icu where
  presA : InputState
  latchA : InputState
  relA : InputState
  presB : InputState
  latchB : InputState
  relB : InputState
  lid : InputState
  dock : InputState
  hold : Bool
  bayLength : Nat
  housingLength : Nat
  deriving DecidableEq, Repr

/-! ### Power path (chapter 2) -/

/-- The three sources of the main rail. -/
inductive Source where
  | dc
  | bay (bay : Bay)
  deriving DecidableEq, Repr

/-- DC presence (R14): the qualification time so far while QUALIFYING, in ticks, and the consecutive low readings while
PRESENT. -/
inductive DcPresence where
  | absent
  | qualifying (elapsed : Nat)
  | present (lowReadings : Nat)
  deriving DecidableEq, Repr

/-- Why a bay is FAULTED (R15). -/
inductive FaultReason where
  | idFail
  | duplicate
  | alarm
  deriving DecidableEq, Repr

/-- The nine bay states (section 2.3), FAULTED with its reason, which is present while the state is FAULTED (R15). -/
inductive BayState where
  | empty
  | seating
  | identifying
  | standby
  | supplying
  | charging
  | releasing
  | released
  | faulted (reason : FaultReason)
  deriving DecidableEq, Repr

/-- The bay record (R15) with the two switch outputs of the bay (R17). The latch lock follows the state (R16) and the alarm
mark follows the alarm set, so both are computed. `refusal` says that a refusal of the bay's release stands (R39). -/
structure BayRecord where
  state : BayState
  identity : Option Identity
  telemetry : Option Telemetry
  telemetryLost : Bool
  alarms : AlarmSet
  cleanReads : Nat
  profile : Option Nat
  pendingRelease : Bool
  refusal : Bool
  holdTimer : Option Nat
  lapseTimer : Option Nat
  discharge : Bool
  charge : Bool
  deriving DecidableEq, Repr

/-- Why the main rail is off (section 2.1). The reason is NONE while the rail is on. -/
inductive OffReason where
  | powerOn
  | host
  | bridgeExpired
  | graceExpired
  | none
  deriving DecidableEq, Repr

/-- The cause of a transfer, in the order of R25. -/
inductive Cause where
  | release
  | switchOver
  | dcAttach
  | alarm
  | dcLoss
  | removal
  | railGap
  deriving DecidableEq, Repr

/-- The cause of a waiting transfer (section 2.1). -/
inductive WaitCause where
  | dcAttach
  | switchOver
  | alarm
  deriving DecidableEq, Repr

/-- The two transfer methods, which are also the two phases (R25). -/
inductive Method where
  | overlap
  | bridge
  deriving DecidableEq, Repr

/-- The transfer record (R25) with the time since its phase began, in ticks (R45). -/
structure Transfer where
  source : Option Source
  target : Source
  method : Method
  phase : Method
  planned : Bool
  cause : Cause
  elapsed : Nat
  deriving DecidableEq, Repr

/-- The forced-release record when filled: the bay and its grace timer (R39). -/
structure ForcedRelease where
  bay : Bay
  grace : Nat
  deriving DecidableEq, Repr

/-- The Power Path Controller: the source record, the bay records, the transfer record, the forced-release record, the DC
switch and the shock hold as the PPC has taken it (R12 to R46). Feeding sources and bridging are computed (R13). -/
structure Ppc where
  vdc : Nat
  va : Nat
  vb : Nat
  vres : Nat
  dc : DcPresence
  reserveReady : Bool
  dcSwitch : Bool
  bridgeTimer : Option Nat
  railOn : Bool
  offReason : OffReason
  waiting : Option WaitCause
  bays : PerBay BayRecord
  transfer : Option Transfer
  forced : Option ForcedRelease
  hold : Bool
  deriving DecidableEq, Repr

/-! ### Bay bus (chapter 3) -/

/-- The three segments (R47). -/
inductive Segment where
  | A
  | B
  | C
  deriving DecidableEq, Repr

/-- The two kinds of transaction (R47). -/
inductive BusOp where
  | read (code length : Nat)
  | write (command value : Nat)
  deriving DecidableEq, Repr

/-- Whose transaction is in flight (R53). -/
inductive TxOwner where
  | identify (bay : Bay)
  | charger
  | deferred
  | posted
  | poll (bay : Bay)
  deriving DecidableEq, Repr

/-- The transaction in flight: its owner, segment and kind, the time since its start and the timeout it started with, in
ticks (R48). -/
structure Transaction where
  owner : TxOwner
  segment : Segment
  op : BusOp
  elapsed : Nat
  limit : Nat
  deriving DecidableEq, Repr

/-- An identification sequence: its attempt, 1 to 3, and the identity its first step read, absent while the first step is
still to be made (R55). -/
structure IdSequence where
  attempt : Nat
  candidate : Option Identity
  deriving DecidableEq, Repr

/-- What the BBC keeps per bay (chapter 3): the identification sequence, the poll timer, whether a poll is due, and the count
of failed polls. -/
structure BayBus where
  sequence : Option IdSequence
  pollTimer : Option Nat
  pollDue : Bool
  failedPolls : Nat
  deriving DecidableEq, Repr

/-- The two kinds of charger list (R60). -/
inductive ListKind where
  | start
  | stop
  deriving DecidableEq, Repr

/-- A charger write list: its remaining writes (command, value), and whether the CC has withdrawn it (R60). -/
structure ChargerList where
  kind : ListKind
  writes : List (Nat × Nat)
  withdrawn : Bool
  deriving DecidableEq, Repr

/-- The state of a read in the deferred slot (section 3.7); DONE with its result, its bytes and its expiry timer. -/
inductive DeferredState where
  | waiting
  | inFlight
  | done (result : TxResult) (bytes : List Byte) (elapsed : Nat)
  deriving DecidableEq, Repr

/-- The read in the deferred slot (section 3.7). -/
structure DeferredRead where
  segment : Segment
  code : Nat
  length : Nat
  state : DeferredState
  deriving DecidableEq, Repr

/-- A posted write (R63). -/
structure PostedWrite where
  segment : Segment
  command : Nat
  value : Nat
  deriving DecidableEq, Repr

/-- The Bay Bus Controller (chapter 3). -/
structure Bbc where
  selector : Option Segment
  inFlight : Option Transaction
  bays : PerBay BayBus
  lists : List ChargerList
  deferred : Option DeferredRead
  posted : List PostedWrite
  deriving DecidableEq, Repr

/-! ### Charging and the pack memory (chapter 4) -/

/-- An entry of the pack memory (R68). -/
structure PackEntry where
  serial : Nat
  chemistry : Nat
  designCapacity : Nat
  lastBay : Bay
  lastCharge : Nat
  insertCount : Nat
  shocked : Bool
  shockSequence : Option Nat
  deriving DecidableEq, Repr

/-- The profile values a session records at its start (R79). -/
structure Recorded where
  chargeVoltage : Nat
  chargeCurrent : Nat
  terminationCurrent : Nat
  tempLow : Int
  tempHigh : Int
  deriving DecidableEq, Repr

/-- The charger session record (R79). -/
inductive Session where
  | none
  | starting (bay : Bay) (profile : Nat) (values : Recorded)
  | active (bay : Bay) (profile : Nat) (values : Recorded)
  deriving DecidableEq, Repr

/-- The Charge Controller (chapter 4): the pack memory, most recent first, the charged-since-insertion marks, the session
record, the count of consecutive failed lists and the charger fault mark. -/
structure Cc where
  memory : List PackEntry
  charged : PerBay Bool
  session : Session
  failedLists : Nat
  fault : Bool
  deriving DecidableEq, Repr

/-! ### Power budget (chapter 5) -/

/-- The source condition of the budget (R92). -/
inductive BudgetCase where
  | railOff
  | bridging
  | dc
  | bayA
  | bayB
  | overlap
  deriving DecidableEq, Repr

/-- The derating applied to a feeding bay's allowance (R90). -/
inductive Derating where
  | none
  | lowCharge
  | telemetryLost
  | both
  deriving DecidableEq, Repr

/-- The budget record (R90), its derating per bay, absent while the bay does not feed. -/
structure Bu where
  case : BudgetCase
  budget : Nat
  derating : PerBay (Option Derating)
  powerCap : Nat
  swapFlag : Bool
  publishedCap : Nat
  publishedSwap : Bool
  demand : Nat
  capped : Bool
  deriving DecidableEq, Repr

/-! ### Ambient light and backlight (chapter 6) -/

/-- The record of one light sensor (section 6.1). -/
structure SensorRecord where
  sample : Option Nat
  saturated : Bool
  failed : Bool
  silence : Option Nat
  deriving DecidableEq, Repr

/-- The Backlight Controller (chapter 6): the sensor records, F, Tc and Th, the offset, the override stack from the top down,
the panel temperature and C_t, the stored publication, the lid and rail as it holds them, the demand last handed, the target,
the output level, which is the PWM duty (R123), and the ramp tick's phase. -/
structure Blc where
  front : SensorRecord
  rear : SensorRecord
  filter : Nat
  curveLevel : Nat
  held : Nat
  offset : Int
  stack : List Nat
  temperature : Option Int
  tempSilent : Bool
  tempSilence : Option Nat
  thermalCap : Nat
  publication : Option (Nat × Bool)
  lidClosed : Bool
  railOn : Bool
  demand : Nat
  target : Nat
  output : Nat
  rampPhase : Option Nat
  deriving DecidableEq, Repr

/-! ### Shock monitor (chapter 7) -/

/-- The six states of the shock monitor (section 7.3), in the order of their codes (R190). -/
inductive ShmState where
  | disarmed
  | idle
  | falling
  | impact
  | settling
  | unavailable
  deriving DecidableEq, Repr

/-- What a motion event was (section 7.3): DROP, KNOCK or CATCH. -/
inductive DropOutcome where
  | drop
  | knock
  | caught
  deriving DecidableEq, Repr

/-- How an event ended (R140, R144). -/
inductive Ending where
  | settled
  | unsettled
  | truncated
  | abandoned
  deriving DecidableEq, Repr

/-- The context snapshot (R133). -/
structure Snapshot where
  lidClosed : Bool
  docked : Bool
  dcPresent : Bool
  bayAOccupied : Bool
  bayASerial : Option Nat
  bayBOccupied : Bool
  bayBSerial : Option Nat
  deriving DecidableEq, Repr

/-- The Shock Monitor (chapter 7): the state and its counters q, n, g, w, the impact count, r, the peak m2, the outcome, the
settle and silence timers, the snapshot, the handed-over mark, the quiesce line and the quiesce-kept mark, and the decimation
counter. The shock hold follows the state (R142) and is computed. -/
structure Shm where
  state : ShmState
  qualify : Nat
  fallCount : Nat
  grace : Nat
  window : Nat
  impacts : Nat
  rest : Nat
  peakM2 : Nat
  outcome : Option DropOutcome
  settleTimer : Option Nat
  silence : Option Nat
  snapshot : Option Snapshot
  handedOver : Bool
  quiesceLine : Bool
  quiesceKept : Bool
  decimation : Nat
  deriving DecidableEq, Repr

/-! ### Drop log (chapter 8) -/

/-- A drop record (R154). -/
structure DropRecord where
  sequence : Nat
  clockSeconds : Nat
  clockValid : Bool
  outcome : DropOutcome
  eventClass : Nat
  severity : Nat
  fallCount : Nat
  height : Nat
  peak : Nat
  impacts : Nat
  unsettled : Bool
  truncated : Bool
  ejectedA : Bool
  ejectedB : Bool
  preserved : Bool
  isOpen : Bool
  snapshot : Snapshot
  deriving DecidableEq, Repr

/-- The Drop Log (chapter 8): the records from the oldest to the newest, the next-sequence counter, the clear lock, the
companion clock with its mark and the phase of its advances, and the open reference. -/
structure Dl where
  log : List DropRecord
  nextSequence : Nat
  clearLock : Bool
  clock : Nat
  clockValid : Bool
  clockPhase : Option Nat
  openReference : Option Nat
  deriving DecidableEq, Repr

/-! ### System link (chapter 10) -/

/-- The statuses of a response (R190). -/
inductive Status where
  | ok
  | posted
  | deferred
  | held
  | already
  | busy
  | full
  | empty
  | notReady
  | noPack
  | noAlternative
  | noBridge
  | pinned
  | notFound
  | locked
  | owned
  | badTable
  | badIndex
  | badValue
  | badLength
  | unknownRequest
  deriving DecidableEq, Repr

/-- A waiting response (R183): the tag and code of its request, the status, the overrun mark of its flags byte, and the
results. -/
structure Response where
  tag : Byte
  code : Byte
  status : Status
  overrun : Bool
  results : List Byte
  deriving DecidableEq, Repr

/-- Why a release was refused (R186, kind 5). -/
inductive RefusalReason where
  | noAlternative
  | noBridge
  | sourceLost
  deriving DecidableEq, Repr

/-- Why CHARGE_HELD was raised (R89). -/
inductive HeldReason where
  | dcLoss
  | alarm
  | temperature
  | shocked
  | profileChange
  | telemetryLost
  deriving DecidableEq, Repr

/-- A notice, by kind, with its detail (R186). -/
inductive Notice where
  | bayInserted (bay : Bay)
  | bayIdentified (bay : Bay) (serial : Nat)
  | bayFault (bay : Bay) (reason : FaultReason)
  | releaseGranted (bay : Bay)
  | releaseRefused (bay : Bay) (reason : RefusalReason)
  | releaseLapsed (bay : Bay)
  | bayRemoved (bay : Bay)
  | forcedRemoval (bay : Bay) (left : BayState)
  | latchForced (bay : Bay)
  | transferDone (source : Option Source) (target : Source) (method : Method) (cause : Cause) (completed : Bool)
  | powerFailWarning (release : Option Bay)
  | dcAttached (vdc : Nat)
  | dcDetached (vdc : Nat)
  | batteryLow (bay : Bay) (charge : Nat)
  | chargeStarted (bay : Bay) (profile : Nat)
  | chargeDone (bay : Bay) (charge : Nat)
  | chargeHeld (bay : Bay) (reason : HeldReason)
  | chargerFault (result : TxResult)
  | packAlarm (bay : Bay) (alarms : AlarmSet)
  | telemetryLost (bay : Bay)
  | freefall (fallCount : Nat) (snapshot : Snapshot)
  | dropRecorded (record : DropRecord)
  | shockHoldEnd (ending : Ending) (outcome : Option DropOutcome) (lineStays : Bool)
  | ambientFail (sensor : LightSensor) (otherFailed : Bool)
  | backlightCapped (capped : Bool) (demand powerCap : Nat) (swapFlag : Bool)
  | tableApplied (table : Nat)
  | deferredExpired (segment : Segment) (code length : Nat)
  | writeDiscarded (segment : Segment) (command : Nat)
  | writeFailed (segment : Segment) (command : Nat) (result : TxResult)
  deriving DecidableEq, Repr

/-- An entry of the notice pending set (R186). -/
structure PendingNotice where
  notice : Notice
  level : Nat
  count : Nat
  deriving DecidableEq, Repr

/-- A traffic frame as its block hands it (R130, R124, R188). A LIGHT frame carries the step's source, the two sensor
records, L, Tc, T, C and Lout. -/
inductive Traffic where
  | motion (x y z : Int) (state : ShmState)
  | light (source : LightSensor) (front rear : SensorRecord) (filtered curveLevel target cap output : Nat)
  | pack (bay : Bay) (block : List Byte)
  deriving DecidableEq, Repr

/-- A queued traffic frame with its sequence number (R188). -/
structure TrafficFrame where
  sequence : Byte
  traffic : Traffic
  deriving DecidableEq, Repr

/-- The receiver (R182): hunting, or assembling the candidate whose bytes after the sync byte are listed. -/
inductive Receiver where
  | hunting
  | assembling (taken : List Byte)
  deriving DecidableEq, Repr

/-- The frame on the upstream line: its kind and payload, the character times left until its last byte has left, and whether
it is the response of an accepted COMPANION_RESET (R185, R187). -/
structure LineFrame where
  kind : Byte
  payload : List Byte
  left : Nat
  resetResponse : Bool
  deriving DecidableEq, Repr

/-- The Link Unit (chapter 10). -/
structure Lu where
  receiver : Receiver
  responses : List Response
  overrun : Bool
  notices : List PendingNotice
  traffic : List TrafficFrame
  motionSequence : Byte
  lightSequence : Byte
  packSequence : Byte
  line : Option LineFrame
  silenceTimer : Option Nat
  silence : Bool
  resetPending : Bool
  deriving DecidableEq, Repr

end Sys2Proof.Machine
end

