-- ==== Sys2Proof/Machine/Defaults.lean ====
section
/-! DEFINITION. The gathered parameter index (section 9.2) and the default contents of the five tables (R76, R108, R152, R171,
R179, section 10.3). -/

namespace Sys2Proof.Machine

/-- A row of the parameter index: lowest value, highest value, default (section 9.2). -/
structure ParamRow where
  low : Int
  high : Int
  default : Int
  deriving DecidableEq, Repr

/-- Parameters P0 to P15 (section 9.2). -/
def paramRows0 : List ParamRow :=
  [⟨0, 1024, 154⟩, ⟨1, 400, 40⟩, ⟨0, 64, 8⟩, ⟨1024, 32767, 3072⟩,
   ⟨1, 800, 80⟩, ⟨0, 32767, 410⟩, ⟨0, 32767, 614⟩, ⟨1, 4000, 400⟩,
   ⟨500, 30000, 4000⟩, ⟨5, 200, 20⟩, ⟨5, 1000, 250⟩, ⟨0, 500, 200⟩,
   ⟨0, 25000, 11000⟩, ⟨100, 5000, 1500⟩, ⟨0, 100, 10⟩, ⟨1000, 30000, 5000⟩]

/-- Parameters P16 to P31 (section 9.2). -/
def paramRows1 : List ParamRow :=
  [⟨1000, 60000, 10000⟩, ⟨10000, 250000, 90000⟩, ⟨0, 100000, 25000⟩, ⟨1000, 50000, 12000⟩,
   ⟨0, 1000, 40⟩, ⟨0, 1000, 300⟩, ⟨0, 1000, 20⟩, ⟨0, 16, 12⟩,
   ⟨0, 8, 1⟩, ⟨0, 8, 4⟩, ⟨1, 1000, 4⟩, ⟨1, 1000, 8⟩,
   ⟨-400, 1250, 500⟩, ⟨-400, 1250, 700⟩, ⟨0, 1000, 600⟩, ⟨0, 100, 10⟩]

/-- Parameters P32 to P47 (section 9.2). P32 may also be 0 but not 1 to 499: `paramInRange` says so. P46 and P47 hold no
parameter (R171). -/
def paramRows2 : List ParamRow :=
  [⟨0, 60000, 4000⟩, ⟨500, 10000, 2000⟩, ⟨250, 10000, 1000⟩, ⟨10, 100, 35⟩,
   ⟨0, 16, 8⟩, ⟨0, 1, 0⟩, ⟨200, 10000, 1000⟩, ⟨5000, 25000, 15000⟩,
   ⟨1000, 60000, 10000⟩, ⟨0, 100, 5⟩, ⟨0, 100, 95⟩, ⟨0, 1, 1⟩,
   ⟨0, 1, 1⟩, ⟨5, 1000, 50⟩, ⟨0, 0, 0⟩, ⟨0, 0, 0⟩]

/-- The parameter index, P0 to P47 (section 9.2). -/
def paramRows : List ParamRow := paramRows0 ++ paramRows1 ++ paramRows2

/-- Whether a value lies in the range of the parameter at an index (section 9.2, R171). A value of P32 from 1 to 499 is
outside its range. -/
def paramInRange (index : Nat) (v : Int) : Bool :=
  match paramRows[index]? with
  | some r => r.low ≤ v && v ≤ r.high && !(index == 32 && 1 ≤ v && v ≤ 499)
  | none => false

/-- Table 0's default (section 9.2). -/
def defaultParams : List Int := paramRows.map ParamRow.default

/-- Table 1's default curve (R108): eight points in use, points 8 to 15 hold lux 0 and level 0. -/
def defaultCurve : Curve where
  points := [(0, 60), (10, 90), (100, 180), (1000, 350), (5000, 550), (20000, 800), (50000, 950), (90000, 1000)]
    ++ List.replicate 8 (0, 0)
  count := 8

/-- An entry of table 2 that is not valid (R152): windows 0 to 0, conditions ANY, severity 0, no action. -/
def blankClass : ClassEntry where
  valid := false
  heightLow := 0
  heightHigh := 0
  peakLow := 0
  peakHigh := 0
  fall := .any
  lidClosed := .any
  docked := .any
  dcPresent := .any
  bayAOccupied := .any
  bayBOccupied := .any
  severity := 0
  log := false
  preserve := false
  markPacks := false
  keepQuiesce := false

/-- Table 2's default (R152). -/
def defaultClasses : List ClassEntry :=
  [{ blankClass with valid := true, heightLow := 1200, heightHigh := 65535, severity := 3, log := true, preserve := true, markPacks := true, keepQuiesce := true },
   { blankClass with valid := true, heightLow := 300, heightHigh := 1200, severity := 2, log := true, markPacks := true },
   { blankClass with valid := true, peakLow := 10240, peakHigh := 65535, fall := .no, severity := 1, log := true },
   { blankClass with valid := true, log := true }]
  ++ List.replicate 8 blankClass

/-- The default charge profile (R76). -/
def defaultProfile : Profile where
  valid := true
  chemistry := 255
  capacityLow := 0
  capacityHigh := 0
  voltageLow := 0
  voltageHigh := 0
  chargeVoltage := 16800
  chargeCurrent := 3000
  terminationCurrent := 150
  tempLow := 0
  tempHigh := 450
  maxDischarge := 4000

/-- Table 3's default (R76): entry 0 valid, entries 1 to 5 not valid with the same other fields. -/
def defaultProfiles : List Profile :=
  defaultProfile :: List.replicate 5 { defaultProfile with valid := false }

/-- Table 4's default (section 10.3): the level of kind i + 1 at index i; kinds 30 to 32 hold 0. -/
def defaultLevels : List Nat :=
  [2, 2, 5, 3, 4, 2, 3, 6] ++ [5, 1, 7, 2, 3, 5, 1, 1] ++ [3, 5, 6, 4, 6, 4, 2, 3] ++ [1, 1, 2, 2, 3, 0, 0, 0]

/-- Both copies holding one content, nothing pending (R169, R179). -/
def Copies.fresh {α : Type} (content : α) : Copies α := ⟨content, content, false⟩

/-- The Table Store after power-on reset (R179). -/
def tablesAtReset : TableStore where
  t0 := .fresh defaultParams
  t1 := .fresh defaultCurve
  t2 := .fresh defaultClasses
  t3 := .fresh defaultProfiles
  t4 := .fresh defaultLevels

end Sys2Proof.Machine
end

