-- ==== Sys2Proof/Machine/State.lean ====
section
/-! DEFINITION. The companion's state as plain data: one record per block of the manual (section 1.2), the supply-settle
interval, the queue of waiting commands, the events handed between blocks and not yet taken, and the model's own index of the
free orders. `State.reset` is the part right after power-on reset. -/

namespace Sys2Proof.Machine

/-- Why a step could stop with a fault. There is none: the manual gives every command an effect in every state (R1 to R190), so
this type has no constructor and no claim can rest on a fault. Safe. -/
inductive Fault where
  deriving DecidableEq, Repr

/-- Why a step could be refused. -/
inductive Refusal where
  /-- Raised by `exec` alone, for a command that has no meaning yet; safe: a refused command proves nothing. No arm of
  `exec` raises it any more. -/
  | notModelled (mnemonic : String)
  deriving DecidableEq, Repr

/-- The state of the companion. -/
structure State where
  /-- The supply-settle interval after power-on reset: the time since its start in ticks while it runs, absent after its end
  (R2, R42). -/
  settling : Option Nat
  icu : Icu
  ppc : Ppc
  bbc : Bbc
  cc : Cc
  bu : Bu
  blc : Blc
  shm : Shm
  dl : Dl
  ts : TableStore
  lu : Lu
  /-- MODEL: the events one block has handed another and the other has not yet taken (section 1.5.7), oldest first
  (assumption 2). -/
  delivered : List Instr
  /-- MODEL: how many free orders have been used (assumption 9). -/
  freeIndex : Nat
  /-- The commands that wait, first in, first out (assumption 1). -/
  pending : List Instr
  deriving DecidableEq, Repr

/-- An input after power-on reset (R2). The raw level is the pin's own; deasserted here (assumption 7). -/
def inputAtReset : InputState := ⟨false, false, none⟩

/-- The ICU after power-on reset (R2, R4): the hold is off and the lengths in use are P9 and P45 at their defaults. -/
def icuAtReset : Icu where
  presA := inputAtReset
  latchA := inputAtReset
  relA := inputAtReset
  presB := inputAtReset
  latchB := inputAtReset
  relB := inputAtReset
  lid := inputAtReset
  dock := inputAtReset
  hold := false
  bayLength := 20
  housingLength := 50

/-- The empty alarm set. -/
def noAlarms : AlarmSet := ⟨false, false, false, false⟩

/-- A bay record after power-on reset (R15), both switches open (R10). -/
def bayAtReset : BayRecord where
  state := .empty
  identity := none
  telemetry := none
  telemetryLost := false
  alarms := noAlarms
  cleanReads := 0
  profile := none
  pendingRelease := false
  refusal := false
  holdTimer := none
  lapseTimer := none
  discharge := false
  charge := false

/-- The PPC after power-on reset (R12, R15, R25, R39, R42). -/
def ppcAtReset : Ppc where
  vdc := 0
  va := 0
  vb := 0
  vres := 0
  dc := .absent
  reserveReady := false
  dcSwitch := false
  bridgeTimer := none
  railOn := false
  offReason := .powerOn
  waiting := none
  bays := ⟨bayAtReset, bayAtReset⟩
  transfer := none
  forced := none
  hold := false

/-- What the BBC keeps of a bay after power-on reset (R66). -/
def bayBusAtReset : BayBus := ⟨none, none, false, 0⟩

/-- The BBC after power-on reset (R66). -/
def bbcAtReset : Bbc where
  selector := none
  inFlight := none
  bays := ⟨bayBusAtReset, bayBusAtReset⟩
  lists := []
  deferred := none
  posted := []

/-- The CC after power-on reset (R68, R79). -/
def ccAtReset : Cc where
  memory := []
  charged := ⟨false, false⟩
  session := .none
  failedLists := 0
  fault := false

/-- The BU after power-on reset (R90): the pair (0, off) has been handed as the first publication. -/
def buAtReset : Bu where
  case := .railOff
  budget := 0
  derating := ⟨none, none⟩
  powerCap := 0
  swapFlag := false
  publishedCap := 0
  publishedSwap := false
  demand := 0
  capped := false

/-- A light sensor's record after power-on reset (R126): its timer starts at the end of the settle interval. -/
def sensorAtReset : SensorRecord := ⟨none, false, false, none⟩

/-- The BLC after power-on reset (R126): Tc and Th are the default curve's first level, C_t is P30's default. -/
def blcAtReset : Blc where
  front := sensorAtReset
  rear := sensorAtReset
  filter := 0
  curveLevel := 60
  held := 60
  offset := 0
  stack := []
  temperature := none
  tempSilent := true
  tempSilence := none
  thermalCap := 600
  publication := none
  lidClosed := false
  railOn := false
  demand := 0
  target := 0
  output := 0
  rampPhase := none

/-- The SHM after power-on reset (R150). -/
def shmAtReset : Shm where
  state := .idle
  qualify := 0
  fallCount := 0
  grace := 0
  window := 0
  impacts := 0
  rest := 0
  peakM2 := 0
  outcome := none
  settleTimer := none
  silence := none
  snapshot := none
  handedOver := false
  quiesceLine := false
  quiesceKept := false
  decimation := 0

/-- The DL after power-on reset (R168). -/
def dlAtReset : Dl where
  log := []
  nextSequence := 1
  clearLock := false
  clock := 0
  clockValid := false
  clockPhase := none
  openReference := none

/-- The LU after power-on reset (R182, R184 to R189). -/
def luAtReset : Lu where
  receiver := .hunting
  responses := []
  overrun := false
  notices := []
  traffic := []
  motionSequence := 0
  lightSequence := 0
  packSequence := 0
  line := none
  silenceTimer := none
  silence := false
  resetPending := false

/-- The companion right after power-on reset, at the start of the supply-settle interval. The BU's first publication, (0, off),
has been handed to the BLC and waits to be taken (R90, R118). -/
def State.reset : State where
  settling := some 0
  icu := icuAtReset
  ppc := ppcAtReset
  bbc := bbcAtReset
  cc := ccAtReset
  bu := buAtReset
  blc := blcAtReset
  shm := shmAtReset
  dl := dlAtReset
  ts := tablesAtReset
  lu := luAtReset
  delivered := [.blcPublication 0 false]
  freeIndex := 0
  pending := []

end Sys2Proof.Machine
end

