-- ==== Sys2Proof/Machine/Operands.lean ====
section
/-! DEFINITION. Operand forms: times in ticks, windows and ternary conditions, table look-ups, the bytes of a request's
arguments, and the encoding of results, notice detail and frames as bytes (R181, R183). -/

namespace Sys2Proof.Machine

/-! ### Time -/

/-- Ticks in a number of milliseconds. A tick is one character time of the link, 5 µs (chapter 10), so a sample period of
1.25 ms and every timer of the manual are whole numbers of ticks (assumption 4). -/
def ms (n : Nat) : Nat := n * 200

/-- An elapsed time as STATE_READ reports it, in whole ms, standing at 65,535 once it reaches that (R183). -/
def elapsedMs (ticks : Nat) : Nat := min (ticks / 200) 65535

/-- The supply-settle interval (R2). -/
def settleInterval : Nat := ms 64

/-- The time after which a silent accelerometer is lost (R144). -/
def sampleSilenceLimit : Nat := ms 50

/-- The time after which the panel temperature sensor is silent (R117). -/
def tempSilenceLimit : Nat := ms 3000

/-! ### Windows and conditions (sections 1.5.3, 1.5.4) -/

/-- A window with both bounds inclusive; disabled, so accepting every value, when its high bound does not exceed its low
bound. -/
def window (low high v : Int) : Bool := decide (high ≤ low) || (decide (low ≤ v) && decide (v ≤ high))

/-- Whether a ternary condition matches a fact. -/
def Ternary.holds : Ternary → Bool → Bool
  | .any, _ => true
  | .yes, b => b
  | .no, b => !b

/-- A value brought to the nearer bound (section 1.5.2). -/
def clampInt (low high v : Int) : Int := if v < low then low else if high < v then high else v

/-! ### Active tables -/

/-- The value of parameter Pn in the active copy of table 0. -/
def param (s : State) (n : Nat) : Int := s.ts.t0.active.getD n 0

/-- The value of a parameter whose range holds no negative number. -/
def paramN (s : State) (n : Nat) : Nat := (param s n).toNat

/-- The level of a notice kind in the active copy of table 4 (R186): index kind − 1. -/
def noticeLevel (s : State) (kind : Nat) : Nat := s.ts.t4.active.getD (kind - 1) 0

/-- The entry of the active copy of table 3 at an index. -/
def profileAt (s : State) (i : Nat) : Option Profile := s.ts.t3.active[i]?

/-! ### Bytes read -/

/-- Two bytes, low byte first (R181). -/
def le2 (b0 b1 : Byte) : Nat := b0.toNat + 256 * b1.toNat

/-- Four bytes, low byte first (R181). -/
def le4 (b0 b1 b2 b3 : Byte) : Nat := le2 b0 b1 + 65536 * le2 b2 b3

/-- A 16-bit number read as two's complement (R181). -/
def signed16 (n : Nat) : Int := if n < 32768 then (n : Int) else (n : Int) - 65536

/-- A 32-bit number read as two's complement (R181). -/
def signed32 (n : Nat) : Int := if n < 2147483648 then (n : Int) else (n : Int) - 4294967296

/-- The eight-bit sum of some bytes (R49). -/
def byteSum (bytes : List Byte) : Byte := bytes.foldl (· + ·) 0

/-! ### Bytes written (R183) -/

/-- A number as one byte. -/
def byte1 (n : Nat) : List Byte := [BitVec.ofNat 8 n]

/-- A number as two bytes, low byte first. -/
def byte2 (n : Nat) : List Byte := [BitVec.ofNat 8 n, BitVec.ofNat 8 (n / 256)]

/-- A number as three bytes, low byte first. -/
def byte3 (n : Nat) : List Byte := byte2 n ++ byte1 (n / 65536)

/-- A number as four bytes, low byte first. -/
def byte4 (n : Nat) : List Byte := byte2 n ++ byte2 (n / 65536)

/-- A signed number as two bytes, two's complement. -/
def byte2s (v : Int) : List Byte := byte2 (v % 65536).toNat

/-- A signed number as four bytes, two's complement. -/
def byte4s (v : Int) : List Byte := byte4 (v % 4294967296).toNat

/-- A mark: 1 when set, 0 when clear (R183, assumption 10). -/
def markByte (b : Bool) : List Byte := if b then [1] else [0]

/-- A state of two named values, numbered in the order its chapter lists them: the first 0, the second 1 (R183,
assumption 10). -/
def twoStates (first : Bool) : List Byte := if first then [0] else [1]

/-- A field that may be absent: 1 and the field, or 0 and as many zero bytes as the field has (R183). -/
def optional {α : Type} (width : Nat) (enc : α → List Byte) : Option α → List Byte
  | some v => 1 :: enc v
  | none => 0 :: List.replicate width 0

/-- A timer that may be stopped, in ms (R183). -/
def timerBytes (t : Option Nat) : List Byte := optional 2 (fun e => byte2 (elapsedMs e)) t

/-- A set as one byte, bit i standing for the value numbered i (R183). -/
def setByte (bits : List Bool) : List Byte := byte1 (bits.foldr (fun b n => (if b then 1 else 0) + 2 * n) 0)

/-- Bay A is 0, bay B 1 (R190). -/
def bayCode : Bay → Nat
  | .A => 0
  | .B => 1

/-- The bay's number as a byte. -/
def bayByte (b : Bay) : List Byte := byte1 (bayCode b)

/-- DC, A, B in the order of chapter 2's opening. -/
def Source.code : Source → Nat
  | .dc => 0
  | .bay .A => 1
  | .bay .B => 2

/-- Segments A, B, C (R61). -/
def Segment.code : Segment → Nat
  | .A => 0
  | .B => 1
  | .C => 2

/-- The nine bay states in the order of section 2.3. -/
def BayState.code : BayState → Nat
  | .empty => 0
  | .seating => 1
  | .identifying => 2
  | .standby => 3
  | .supplying => 4
  | .charging => 5
  | .releasing => 6
  | .released => 7
  | .faulted _ => 8

/-- Fault reasons in the order of R15. -/
def FaultReason.code : FaultReason → Nat
  | .idFail => 0
  | .duplicate => 1
  | .alarm => 2

/-- Rail-off reasons in the order of section 2.1. -/
def OffReason.code : OffReason → Nat
  | .powerOn => 0
  | .host => 1
  | .bridgeExpired => 2
  | .graceExpired => 3
  | .none => 4

/-- Transfer causes in the order of R25. -/
def Cause.code : Cause → Nat
  | .release => 0
  | .switchOver => 1
  | .dcAttach => 2
  | .alarm => 3
  | .dcLoss => 4
  | .removal => 5
  | .railGap => 6

/-- Causes of a waiting transfer in the order of section 2.1. -/
def WaitCause.code : WaitCause → Nat
  | .dcAttach => 0
  | .switchOver => 1
  | .alarm => 2

/-- OVERLAP, BRIDGE (R25). -/
def Method.code : Method → Nat
  | .overlap => 0
  | .bridge => 1

/-- ABSENT, QUALIFYING, PRESENT (section 2.1). -/
def DcPresence.code : DcPresence → Nat
  | .absent => 0
  | .qualifying _ => 1
  | .present _ => 2

/-- Transaction results (R190). -/
def resultCode : TxResult → Nat
  | .done => 0
  | .nak => 1
  | .timeout => 2
  | .badCheck => 3
  | .removed => 4

/-- Budget cases in the order of R90. -/
def BudgetCase.code : BudgetCase → Nat
  | .railOff => 0
  | .bridging => 1
  | .dc => 2
  | .bayA => 3
  | .bayB => 4
  | .overlap => 5

/-- Deratings in the order of R90. -/
def Derating.code : Derating → Nat
  | .none => 0
  | .lowCharge => 1
  | .telemetryLost => 2
  | .both => 3

/-- Shock monitor states (R190). -/
def ShmState.code : ShmState → Nat
  | .disarmed => 0
  | .idle => 1
  | .falling => 2
  | .impact => 3
  | .settling => 4
  | .unavailable => 5

/-- DROP, KNOCK, CATCH (section 7.3). -/
def DropOutcome.code : DropOutcome → Nat
  | .drop => 0
  | .knock => 1
  | .caught => 2

/-- Settled, UNSETTLED, TRUNCATED (R140), then ABANDONED (R144). -/
def Ending.code : Ending → Nat
  | .settled => 0
  | .unsettled => 1
  | .truncated => 2
  | .abandoned => 3

/-- Front 0, rear 1 (R190). -/
def sensorCode : LightSensor → Nat
  | .front => 0
  | .rear => 1

/-- NONE, STARTING, ACTIVE (R79). -/
def Session.code : Session → Nat
  | .none => 0
  | .starting _ _ _ => 1
  | .active _ _ _ => 2

/-- Reasons of a refused release (section 10.3). -/
def RefusalReason.code : RefusalReason → Nat
  | .noAlternative => 0
  | .noBridge => 1
  | .sourceLost => 2

/-- Reasons of CHARGE_HELD in the order of R89. -/
def HeldReason.code : HeldReason → Nat
  | .dcLoss => 0
  | .alarm => 1
  | .temperature => 2
  | .shocked => 3
  | .profileChange => 4
  | .telemetryLost => 5

/-- Status codes (R190). -/
def Status.code : Status → Nat
  | .ok => 0x00
  | .posted => 0x01
  | .deferred => 0x02
  | .held => 0x03
  | .already => 0x04
  | .busy => 0x05
  | .full => 0x06
  | .empty => 0x07
  | .notReady => 0x08
  | .noPack => 0x09
  | .noAlternative => 0x0A
  | .noBridge => 0x0B
  | .pinned => 0x0C
  | .notFound => 0x0D
  | .locked => 0x0E
  | .owned => 0x10
  | .badTable => 0x11
  | .badIndex => 0x12
  | .badValue => 0x13
  | .badLength => 0x14
  | .unknownRequest => 0x15

/-- An alarm set as a byte, its flags numbered as in the telemetry block (section 3.2). -/
def alarmByte (a : AlarmSet) : List Byte := setByte [a.overTemp, a.overCurrent, a.cellFault, a.permanentFail]

/-- An optional serial. -/
def serialBytes (n : Option Nat) : List Byte := optional 4 byte4 n

/-- A context snapshot in the order of R133. -/
def snapshotBytes (c : Snapshot) : List Byte :=
  markByte c.lidClosed ++ markByte c.docked ++ markByte c.dcPresent ++ markByte c.bayAOccupied ++ serialBytes c.bayASerial
    ++ markByte c.bayBOccupied ++ serialBytes c.bayBSerial

/-- A drop record in the order of R154. DESIGN CHOICE (assumption 61): its five flags are one set byte, UNSETTLED bit 0 to PRESERVED bit 4. -/
def recordBytes (r : DropRecord) : List Byte :=
  byte4 r.sequence ++ byte4 r.clockSeconds ++ markByte r.clockValid ++ byte1 r.outcome.code ++ byte1 r.eventClass
    ++ byte1 r.severity ++ byte2 r.fallCount ++ byte2 r.height ++ byte2 r.peak ++ byte2 r.impacts
    ++ setByte [r.unsettled, r.truncated, r.ejectedA, r.ejectedB, r.preserved] ++ markByte r.isOpen ++ snapshotBytes r.snapshot

/-! ### Notices (section 10.3) -/

/-- The kind number of a notice (section 10.3). -/
def Notice.kind : Notice → Nat
  | .bayInserted _ => 1
  | .bayIdentified _ _ => 2
  | .bayFault _ _ => 3
  | .releaseGranted _ => 4
  | .releaseRefused _ _ => 5
  | .releaseLapsed _ => 6
  | .bayRemoved _ => 7
  | .forcedRemoval _ _ => 8
  | .latchForced _ => 9
  | .transferDone _ _ _ _ _ => 10
  | .powerFailWarning _ => 11
  | .dcAttached _ => 12
  | .dcDetached _ => 13
  | .batteryLow _ _ => 14
  | .chargeStarted _ _ => 15
  | .chargeDone _ _ => 16
  | .chargeHeld _ _ => 17
  | .chargerFault _ => 18
  | .packAlarm _ _ => 19
  | .telemetryLost _ => 20
  | .freefall _ _ => 21
  | .dropRecorded _ => 22
  | .shockHoldEnd _ _ _ => 23
  | .ambientFail _ _ => 24
  | .backlightCapped _ _ _ _ => 25
  | .tableApplied _ => 26
  | .deferredExpired _ _ _ => 27
  | .writeDiscarded _ _ => 28
  | .writeFailed _ _ _ => 29

/-- The detail bytes of a notice, its fields in the order of section 10.3. POWER_FAIL_WARNING's reason is SOURCE_LOST (0)
without a bay, RELEASE (1) with one (R29, R39); BACKLIGHT_CAPPED's state is CAPPED (0) or RELEASED (1). TRANSFER_DONE's
source and SHOCK_HOLD_END's outcome may be absent (assumption 11). The swap flag of BACKLIGHT_CAPPED is a mark, on 1 and off 0
(DESIGN CHOICE, assumption 61). -/
def Notice.detail : Notice → List Byte
  | .bayInserted b => bayByte b
  | .bayIdentified b serial => bayByte b ++ byte4 serial
  | .bayFault b r => bayByte b ++ byte1 r.code
  | .releaseGranted b => bayByte b
  | .releaseRefused b r => bayByte b ++ byte1 r.code
  | .releaseLapsed b => bayByte b
  | .bayRemoved b => bayByte b
  | .forcedRemoval b st => bayByte b ++ byte1 st.code
  | .latchForced b => bayByte b
  | .transferDone src dst m c done =>
    optional 1 (fun x => byte1 (Source.code x)) src ++ byte1 dst.code ++ byte1 m.code ++ byte1 c.code ++ markByte done
  | .powerFailWarning b => (if b.isSome then byte1 1 else byte1 0) ++ optional 1 bayByte b
  | .dcAttached v => byte2 v
  | .dcDetached v => byte2 v
  | .batteryLow b c => bayByte b ++ byte1 c
  | .chargeStarted b i => bayByte b ++ byte1 i
  | .chargeDone b c => bayByte b ++ byte1 c
  | .chargeHeld b r => bayByte b ++ byte1 r.code
  | .chargerFault r => byte1 (resultCode r)
  | .packAlarm b a => bayByte b ++ alarmByte a
  | .telemetryLost b => bayByte b
  | .freefall n c => byte2 n ++ markByte c.lidClosed ++ markByte c.docked ++ markByte c.dcPresent ++ markByte c.bayAOccupied
      ++ markByte c.bayBOccupied
  | .dropRecorded r => byte4 r.sequence ++ byte1 r.outcome.code ++ byte1 r.eventClass ++ byte1 r.severity ++ byte2 r.height
      ++ byte2 r.peak ++ markByte r.preserved
  | .shockHoldEnd e o stays => byte1 e.code ++ optional 1 (fun x => byte1 (DropOutcome.code x)) o ++ markByte stays
  | .ambientFail sensor other => byte1 (sensorCode sensor) ++ markByte other
  | .backlightCapped capped demand p swap => twoStates capped ++ byte2 demand ++ byte2 p ++ markByte swap
  | .tableApplied t => byte1 t
  | .deferredExpired seg code len => byte1 seg.code ++ byte1 code ++ byte1 len
  | .writeDiscarded seg cmd => byte1 seg.code ++ byte1 cmd
  | .writeFailed seg cmd r => byte1 seg.code ++ byte1 cmd ++ byte1 (resultCode r)

/-! ### Upstream frames (R190) -/

/-- The three bytes of a sensor's latest sample in a LIGHT frame, zero when it is absent. -/
def luxBytes (r : SensorRecord) : List Byte := byte3 (r.sample.getD 0)

/-- The kind byte of a traffic frame (R181). -/
def Traffic.kindByte : Traffic → Byte
  | .motion _ _ _ _ => 0x83
  | .light _ _ _ _ _ _ _ _ => 0x84
  | .pack _ _ => 0x85

/-- A traffic frame's payload after its sequence byte (R190). -/
def Traffic.body : Traffic → List Byte
  | .motion x y z st => byte2s x ++ byte2s y ++ byte2s z ++ byte1 st.code
  | .light src f r l tc t c out =>
    byte1 (sensorCode src)
      ++ setByte [f.sample.isSome, f.saturated, f.failed, r.sample.isSome, r.saturated, r.failed]
      ++ luxBytes f ++ luxBytes r ++ byte3 l ++ byte2 tc ++ byte2 t ++ byte2 c ++ byte2 out
  | .pack b block => bayByte b ++ block

/-- A response's payload (R183): tag, code, status, flags, results. -/
def Response.payload (r : Response) : List Byte :=
  r.tag :: r.code :: (byte1 r.status.code ++ markByte r.overrun ++ r.results)

/-- A notice's payload (R190): kind, level, repeat count, detail. -/
def PendingNotice.payload (n : PendingNotice) : List Byte :=
  byte1 n.notice.kind ++ byte1 n.level ++ byte1 n.count ++ n.notice.detail

/-- A traffic frame's payload (R190): sequence and body. -/
def TrafficFrame.payload (f : TrafficFrame) : List Byte := f.sequence :: f.traffic.body

/-! ### The frame check (R181) -/

/-- One of the eight shifts of the check register. -/
def crcShift (r : BitVec 16) : BitVec 16 := if r.msb then (r <<< 1) ^^^ 0x1021 else r <<< 1

/-- The register after one byte: exclusive-or into its upper 8 bits, then eight shifts. -/
def crcByte (r : BitVec 16) (b : Byte) : BitVec 16 :=
  let x := r ^^^ (b.zeroExtend 16 <<< 8)
  crcShift (crcShift (crcShift (crcShift (crcShift (crcShift (crcShift (crcShift x)))))))

/-- The check of some bytes, the register starting at FFFFh. -/
def crc (bytes : List Byte) : BitVec 16 := bytes.foldl crcByte 0xFFFF

/-- A frame as its bytes on the line: sync, kind, length, payload, and the check high byte first. -/
def frameBytes (kind : Byte) (payload : List Byte) : List Byte :=
  let body := kind :: BitVec.ofNat 8 payload.length :: payload
  0xA5 :: body ++ [(crc body).extractLsb' 8 8, (crc body).extractLsb' 0 8]

/-- The character times a frame takes on the line: sync, kind, length, payload, two check bytes (R181). -/
def frameTicks (payload : List Byte) : Nat := payload.length + 5

end Sys2Proof.Machine
end

