-- ==== Sys2Proof/Machine/Flags.lean ====
section
/-! DEFINITION. Marks and conditions the manual derives from state it keeps elsewhere: filtered states, the latch lock, the
alarm mark, the feeding sources, bridging, the reserve charge enable, the shock hold, attach pending, presence, bay charge. Each
is computed from the one place that holds it. -/

namespace Sys2Proof.Machine

/-! ### Inputs (chapter 1) -/

/-- The record of an input. -/
def inputOf (c : Icu) : Input → InputState
  | .presA => c.presA
  | .latchA => c.latchA
  | .relA => c.relA
  | .presB => c.presB
  | .latchB => c.latchB
  | .relB => c.relB
  | .lid => c.lid
  | .dock => c.dock

/-- The ICU with an input's record replaced. -/
def setInput (c : Icu) (i : Input) (v : InputState) : Icu :=
  match i with
  | .presA => { c with presA := v }
  | .latchA => { c with latchA := v }
  | .relA => { c with relA := v }
  | .presB => { c with presB := v }
  | .latchB => { c with latchB := v }
  | .relB => { c with relB := v }
  | .lid => { c with lid := v }
  | .dock => { c with dock := v }

/-- LID and DOCK are the housing inputs, the others the bay inputs (R1). -/
def isHousing : Input → Bool
  | .lid => true
  | .dock => true
  | _ => false

/-- The filter length in use for an input, in ms (R4). -/
def filterLength (c : Icu) (i : Input) : Nat := if isHousing i then c.housingLength else c.bayLength

/-- The presence input of a bay. -/
def presOf : Bay → Input
  | .A => .presA
  | .B => .presB

/-- The latch input of a bay. -/
def latchOf : Bay → Input
  | .A => .latchA
  | .B => .latchB

/-- The release button of a bay. -/
def relOf : Bay → Input
  | .A => .relA
  | .B => .relB

/-- The filtered state of an input: asserted or not (R8). -/
def filtered (s : State) (i : Input) : Bool := (inputOf s.icu i).filtered

/-! ### Bays (chapter 2) -/

/-- The bay record of a bay. -/
def bayOf (s : State) (b : Bay) : BayRecord := s.ppc.bays.get b

/-- The latch lock follows the state (R16). -/
def BayState.locked : BayState → Bool
  | .standby => true
  | .supplying => true
  | .charging => true
  | .releasing => true
  | _ => false

/-- The polled states (R57). -/
def BayState.polled : BayState → Bool
  | .standby => true
  | .supplying => true
  | .charging => true
  | .releasing => true
  | .faulted _ => true
  | _ => false

/-- The alarm mark is set when the set is not empty (R15). -/
def anyAlarm (x : AlarmSet) : Bool := x.overTemp || x.overCurrent || x.cellFault || x.permanentFail

/-- The union of two alarm sets. -/
def joinAlarms (x y : AlarmSet) : AlarmSet :=
  ⟨x.overTemp || y.overTemp, x.overCurrent || y.overCurrent, x.cellFault || y.cellFault, x.permanentFail || y.permanentFail⟩

/-- The set without the two alarms that three clean reads clear (R21). -/
def clearedAlarms (x : AlarmSet) : AlarmSet := ⟨false, false, x.cellFault, x.permanentFail⟩

/-- A bay's alarm mark (R15). -/
def alarmMark (s : State) (b : Bay) : Bool := anyAlarm (bayOf s b).alarms

/-- A bay's latest reported charge; 0 where no telemetry stands (assumption 24). -/
def chargeOf (s : State) (b : Bay) : Nat := ((bayOf s b).telemetry.map Telemetry.charge).getD 0

/-- Whether a source's switch is closed: a feeding source (section 1.4). -/
def switchClosed (s : State) : Source → Bool
  | .dc => s.ppc.dcSwitch
  | .bay b => (bayOf s b).discharge

/-- Whether any source feeds. -/
def anyFeeding (s : State) : Bool := s.ppc.dcSwitch || (bayOf s .A).discharge || (bayOf s .B).discharge

/-- DC is the single feeding source (R17, R80). -/
def dcFeedsAlone (s : State) : Bool := s.ppc.dcSwitch && !(bayOf s .A).discharge && !(bayOf s .B).discharge

/-- The bay that feeds, bay A first should both do. -/
def feedingBay (s : State) : Option Bay :=
  if (bayOf s .A).discharge then some .A else if (bayOf s .B).discharge then some .B else none

/-- The companion bridges whenever the main rail is ON and no source switch is closed (R13). -/
def bridging (s : State) : Bool := s.ppc.railOn && !anyFeeding s

/-- The reserve charge enable: off in the settle interval and while bridging, on otherwise (R10, R13). -/
def reserveCharge (s : State) : Bool := s.settling.isNone && !bridging s

/-- DC presence is PRESENT (R14). -/
def dcPresent (s : State) : Bool :=
  match s.ppc.dc with
  | .present _ => true
  | _ => false

/-- Attach pending: a waiting transfer with cause DC_ATTACH (R24). -/
def attachPending (s : State) : Bool := s.ppc.waiting == some .dcAttach

/-- Whether a bay is the target of the transfer in flight (R35). -/
def isTransferTarget (s : State) (b : Bay) : Bool :=
  match s.ppc.transfer with
  | some t => t.target == .bay b
  | none => false

/-- Whether a bay is the source of the transfer in flight (R36). -/
def isTransferSource (s : State) (b : Bay) : Bool :=
  match s.ppc.transfer with
  | some t => t.source == some (.bay b)
  | none => false

/-! ### Shock monitor (chapter 7) -/

/-- FALLING, IMPACT and SETTLING are the event states (section 7.3). -/
def ShmState.isEvent : ShmState → Bool
  | .falling => true
  | .impact => true
  | .settling => true
  | _ => false

/-- The shock hold is active exactly in the event states (R142). -/
def shockHold (s : State) : Bool := s.shm.state.isEvent

/-! ### Other blocks -/

/-- The filtered light L in lux (R106). -/
def filteredLight (c : Blc) : Nat := c.filter / 16

/-- The latest serial of a bay's identity. -/
def serialOf (s : State) (b : Bay) : Option Nat := (bayOf s b).identity.map Identity.serial

end Sys2Proof.Machine
end

