-- ==== Sys2Proof/Machine/Ops.lean ====
section
/-! DEFINITION. The named operations over the state that every block uses: handing an event to another block and taking it,
changing a bay record, and the Link Unit's queues (R184, R186, R187, R188). -/

namespace Sys2Proof.Machine

/-! ### Events between blocks (section 1.5.7) -/

/-- An event is handed to another block, which takes it as a command of its own. -/
def deliver (e : Instr) (s : State) : State := { s with delivered := s.delivered ++ [e] }

/-- A block takes an event: one such event leaves the events that stand delivered, if there is one. -/
def take (e : Instr) (s : State) : State := { s with delivered := s.delivered.erase e }

/-- The PPC, the CC or the BBC tells the Budget Unit that an input of the budget has changed (R91). -/
def tellBudget (s : State) : State := deliver .budgetRecompute s

/-- `tellBudget` where a condition holds. -/
def tellBudgetIf (c : Bool) (s : State) : State := if c then tellBudget s else s

/-- The next free order: whether the second of two evaluations goes first, and the state with the order used
(assumption 9). -/
def freeOrder (s : State) : Bool × State :=
  (Config.secondFirst s.freeIndex, { s with freeIndex := s.freeIndex + 1 })

/-! ### Bay records -/

/-- The state with a bay record changed. -/
def updBay (b : Bay) (f : BayRecord → BayRecord) (s : State) : State :=
  { s with ppc := { s.ppc with bays := s.ppc.bays.set b (f (s.ppc.bays.get b)) } }

/-- The state with the BBC's record of a bay changed. -/
def updBus (b : Bay) (f : BayBus → BayBus) (s : State) : State :=
  { s with bbc := { s.bbc with bays := s.bbc.bays.set b (f (s.bbc.bays.get b)) } }

/-! ### Notices (R186) -/

/-- A raise folded into the entries of the pending set: the kind's entry takes the level and the detail and counts up to 255, or
a new entry is made. -/
def foldNotice (n : Notice) (level : Nat) : List PendingNotice → List PendingNotice
  | [] => [⟨n, level, 1⟩]
  | e :: rest =>
    if e.notice.kind = n.kind then ⟨n, level, min (e.count + 1) 255⟩ :: rest else e :: foldNotice n level rest

/-- A block raises a notice (R186): a kind at level 0 is not recorded. -/
def raise (n : Notice) (s : State) : State :=
  let level := noticeLevel s n.kind
  if level = 0 then s else { s with lu := { s.lu with notices := foldNotice n level s.lu.notices } }

/-- `raise` where a condition holds. -/
def raiseIf (c : Bool) (n : Notice) (s : State) : State := if c then raise n s else s

/-- The swap of table 4 at the Link Unit (R186): each entry takes the new level of its kind, and an entry whose kind now has
level 0 is removed. -/
def relevel (s : State) : State :=
  { s with lu := { s.lu with
      notices := (s.lu.notices.map fun e => { e with level := noticeLevel s e.notice.kind }).filter fun e => e.level != 0 } }

/-- The pending notice to send next (R187): the highest level, and among equals the lowest kind. -/
def nextNotice : List PendingNotice → Option PendingNotice
  | [] => none
  | e :: rest =>
    match nextNotice rest with
    | none => some e
    | some best =>
      if best.level < e.level || (best.level == e.level && decide (e.notice.kind < best.notice.kind)) then some e else some best

/-! ### Traffic (R188) -/

/-- Whether a frame is discarded at the handing (R188). -/
def trafficDiscarded (t : Traffic) (s : State) : Bool :=
  s.lu.silence ||
    match t with
    | .motion _ _ _ _ => false
    | .light _ _ _ _ _ _ _ _ => paramN s 43 == 0
    | .pack _ _ => paramN s 44 == 0

/-- The sequence counter of a frame's kind. -/
def trafficSequence (t : Traffic) (l : Lu) : Byte :=
  match t with
  | .motion _ _ _ _ => l.motionSequence
  | .light _ _ _ _ _ _ _ _ => l.lightSequence
  | .pack _ _ => l.packSequence

/-- The sequence counter of a frame's kind counted up by 1 modulo 256. -/
def countTraffic (t : Traffic) (l : Lu) : Lu :=
  match t with
  | .motion _ _ _ _ => { l with motionSequence := l.motionSequence + 1 }
  | .light _ _ _ _ _ _ _ _ => { l with lightSequence := l.lightSequence + 1 }
  | .pack _ _ => { l with packSequence := l.packSequence + 1 }

/-- The traffic queue after a frame joins: at 16 held the oldest is removed first (R188). -/
def joinTraffic (f : TrafficFrame) (q : List TrafficFrame) : List TrafficFrame :=
  (if 16 ≤ q.length then q.drop 1 else q) ++ [f]

/-- A block hands the Link Unit a traffic frame (R188). -/
def handTraffic (t : Traffic) (s : State) : State :=
  if trafficDiscarded t s then s
  else
    let f : TrafficFrame := ⟨trafficSequence t s.lu, t⟩
    { s with lu := { countTraffic t s.lu with traffic := joinTraffic f s.lu.traffic } }

/-! ### The upstream line (R187) -/

/-- A frame that begins now. -/
def lineFrame (kind : Byte) (payload : List Byte) (reset : Bool) : LineFrame := ⟨kind, payload, frameTicks payload, reset⟩

/-- Whether a response is that of an accepted COMPANION_RESET (R185). -/
def Response.isReset (r : Response) : Bool := r.code == 0x03 && r.status == .ok

/-- The Link Unit's choice while the line is free (R187): the head of the response queue, then the pending notice of R187
unless silence stands, then the head of the traffic queue. -/
def chooseFrame (l : Lu) : Lu :=
  match l.responses with
  | r :: rest => { l with responses := rest, line := some (lineFrame 0x81 r.payload r.isReset) }
  | [] =>
    match (if l.silence then none else nextNotice l.notices) with
    | some n =>
      { l with notices := l.notices.filter (fun e => e.notice.kind != n.notice.kind),
               line := some (lineFrame 0x82 n.payload false) }
    | none =>
      match l.traffic with
      | f :: rest => { l with traffic := rest, line := some (lineFrame f.traffic.kindByte f.payload false) }
      | [] => l

/-- Whenever the line is free and something waits, the next frame begins (R187). Each step of the companion ends with it
(assumption 8). -/
def startLine (s : State) : State :=
  if s.lu.line.isSome then s else { s with lu := chooseFrame s.lu }

/-! ### Requests (R183, R184) -/

/-- A response joins the tail of the response queue and takes the overrun mark with it (R183, R184). -/
def respond (tag code : Byte) (status : Status) (results : List Byte) (s : State) : State :=
  { s with lu := { s.lu with
      responses := s.lu.responses ++ [⟨tag, code, status, s.lu.overrun, results⟩], overrun := false } }

/-- The silence timer after a valid frame: it restarts, or stays stopped while P32 is 0 (R182, R189). -/
def restartedSilence (s : State) : Option Nat := if paramN s 32 = 0 then none else some 0

/-- A valid frame is received (R182, R189): the receiver hunts again, the silence timer restarts and silence ends. -/
def acceptFrame (s : State) : State :=
  { s with lu := { s.lu with receiver := .hunting, silenceTimer := restartedSilence s, silence := false } }

/-- What an owner answers to a request: the status, the results, and the state its rules leave. -/
structure Answer where
  status : Status
  results : List Byte
  state : State

/-- A request handed to its owner (R183). In the settle interval the bytes are ignored (R182); with a reset pending the request
is discarded (step 1); with 8 responses waiting it is discarded and the overrun mark set (step 3); otherwise the owner's answer
joins the response queue. -/
def handleRequest (tag code : Byte) (owner : State → Answer) (s : State) : State :=
  if s.settling.isSome then s
  else
    let s := acceptFrame s
    if s.lu.resetPending then s
    else if 8 ≤ s.lu.responses.length then { s with lu := { s.lu with overrun := true } }
    else
      let r := owner s
      respond tag code r.status r.results r.state

/-- What comes from outside the part before the end of the settle interval is ignored (R2, R12, R128, R182, assumption 6). -/
def afterSettle (f : State → State) (s : State) : State := if s.settling.isSome then s else f s

/-- An answer that changes nothing. -/
def answer (status : Status) (results : List Byte) (s : State) : Answer := ⟨status, results, s⟩

/-- A request with a wrong argument length (R183, step 5). -/
def badLength (s : State) : Answer := ⟨.badLength, [], s⟩

end Sys2Proof.Machine
end

