-- ==== Sys2Proof/Machine/Bus.lean ====
section
/-! DEFINITION. The bay bus (chapter 3): the four requesters and what each offers, the grant, the checks on the blocks read, and
a bay's move from one state to another with all that follows it in the bay record, the poll timer, the identification sequence
and the budget (R15, R16, R56, R57, R91). -/

namespace Sys2Proof.Machine

/-- The segment of a bay's pack. -/
def segmentOf : Bay → Segment
  | .A => .A
  | .B => .B

/-- The bay of a segment, if it is a pack's. -/
def bayOfSegment : Segment → Option Bay
  | .A => some .A
  | .B => some .B
  | .C => none

/-- The BBC's record of a bay. -/
def busOf (s : State) (b : Bay) : BayBus := s.bbc.bays.get b

/-! ### The arbiter (R53, R54) -/

/-- The four requesters. -/
inductive Requester where
  | identify
  | charger
  | field
  | poll
  deriving DecidableEq, Repr

/-- What a requester offers at a grant: whose transaction, on which segment, and which. -/
structure Offer where
  owner : TxOwner
  segment : Segment
  op : BusOp
  deriving DecidableEq, Repr

/-- The read of the identity block (R55). -/
def identityRead : BusOp := .read 0x11 12

/-- The read of the telemetry block (R55, R57). -/
def telemetryRead : BusOp := .read 0x12 16

/-- The next read of an identification sequence (R55). -/
def sequenceRead (q : IdSequence) : BusOp := if q.candidate.isSome then telemetryRead else identityRead

/-- The next read of a bay's sequence. -/
def identifyOffer (s : State) (b : Bay) : Option Offer :=
  (busOf s b).sequence.map fun q => ⟨.identify b, segmentOf b, sequenceRead q⟩

/-- The deferred read, if it is WAITING and no queued write goes to its segment (R53). -/
def deferredOffer (s : State) : Option Offer :=
  match s.bbc.deferred with
  | some d =>
    if d.state = .waiting ∧ (s.bbc.posted.all fun w => w.segment != d.segment) then
      some ⟨.deferred, d.segment, .read d.code d.length⟩
    else none
  | none => none

/-- The write at the head of the posted write queue (R53). -/
def postedOffer (s : State) : Option Offer :=
  s.bbc.posted.head?.map fun w => ⟨.posted, w.segment, .write w.command w.value⟩

/-- A bay's poll, if it is due (R53). -/
def pollOffer (s : State) (b : Bay) : Option Offer :=
  if (busOf s b).pollDue then some ⟨.poll b, segmentOf b, telemetryRead⟩ else none

/-- The write at the head of the charger write list (R53, R60). -/
def chargerOffer (s : State) : Option Offer :=
  match s.bbc.lists with
  | l :: _ => l.writes.head?.map fun w => ⟨.charger, .C, .write w.1 w.2⟩
  | [] => none

/-- What a requester offers, absent while it does not stand (R53). -/
def offer (s : State) : Requester → Option Offer
  | .identify => (identifyOffer s .A).or (identifyOffer s .B)
  | .charger => chargerOffer s
  | .field => (deferredOffer s).or (postedOffer s)
  | .poll => (pollOffer s .A).or (pollOffer s .B)

/-- The requesters in the order P37 sets (R54). -/
def requesterOrder (s : State) : List Requester :=
  if paramN s 37 = 1 then [.identify, .charger, .poll, .field] else [.identify, .charger, .field, .poll]

/-- What the arbiter would grant now (R54). -/
def bestOffer (s : State) : Option Offer := (requesterOrder s).findSome? (offer s)

/-- The mark a grant leaves at its requester: a deferred read is IN_FLIGHT, a poll is due no longer (R53, R62). -/
def granted (owner : TxOwner) (s : State) : State :=
  match owner with
  | .deferred => { s with bbc := { s.bbc with deferred := s.bbc.deferred.map fun d => { d with state := .inFlight } } }
  | .poll b => updBus b (fun r => { r with pollDue := false }) s
  | _ => s

/-- A transaction starts: the selector takes its segment and the timeout is P35 as it stands (R47, R48). -/
def beginTransaction (o : Offer) (s : State) : State :=
  granted o.owner { s with bbc := { s.bbc with
    selector := some o.segment, inFlight := some ⟨o.owner, o.segment, o.op, 0, ms (paramN s 35)⟩ } }

/-- When the bus is free and a requester stands, the arbiter grants the bus at once (R54). -/
def grantBus (s : State) : State :=
  if s.bbc.inFlight.isSome then s
  else
    match bestOffer s with
    | some o => beginTransaction o s
    | none => s

/-- The end of a step that may leave work for the bus or the line: the arbiter's grant and the line's choice
(R54, R187, assumption 8). -/
def finish (s : State) : State := startLine (grantBus s)

/-- The outcome of a command: the state its effect leaves, after the grant and the line's choice. -/
def complete (s : State) : Host.Outcome State Fault Refusal := .next (finish s)

/-! ### Checks on blocks (R49, R50, R51) -/

/-- The identity a block read holds, if it passes the checks of R50. -/
def readIdentity (bytes : List Byte) : Option Identity :=
  match bytes with
  | [s0, s1, s2, s3, chem, cells, c0, c1, v0, v1, rev, _] =>
    if le4 s0 s1 s2 s3 ≠ 0 ∧ chem.toNat ≤ 15 ∧ 1 ≤ cells.toNat ∧ cells.toNat ≤ 6 ∧ 1 ≤ rev.toNat then
      some ⟨le4 s0 s1 s2 s3, chem.toNat, cells.toNat, le2 c0 c1, le2 v0 v1⟩
    else none
  | _ => none

/-- The alarm set of an alarm field: bits 0 to 3 (R51). -/
def readAlarms (low : Byte) : AlarmSet := ⟨low.getLsbD 0, low.getLsbD 1, low.getLsbD 2, low.getLsbD 3⟩

/-- The telemetry a block read holds, if it passes the check of R51. -/
def readTelemetry (bytes : List Byte) : Option Telemetry :=
  match bytes with
  | [v0, v1, i0, i1, t0, t1, charge, e0, e1, f0, f1, n0, n1, a0, _, _] =>
    if charge.toNat ≤ 100 then
      some ⟨le2 v0 v1, signed16 (le2 i0 i1), signed16 (le2 t0 t1), charge.toNat, le2 e0 e1, le2 f0 f1, le2 n0 n1,
        readAlarms a0⟩
    else none
  | _ => none

/-! ### A bay's state (R15, R16, R56, R57) -/

/-- The bay record on entering a state. EMPTY clears the record (R15); RELEASED starts the lapse timer (R41); a refusal and its
hold timer last while the bay is SUPPLYING (R39). -/
def enteredRecord (st : BayState) (r : BayRecord) : BayRecord :=
  if st = .empty then { bayAtReset with discharge := r.discharge, charge := r.charge }
  else
    { r with
      state := st
      refusal := r.refusal && st == .supplying
      holdTimer := if st = .supplying then r.holdTimer else none
      lapseTimer := if st = .released then some 0 else none }

/-- The BBC's record of a bay as it follows the bay's state: a sequence from attempt 1 in IDENTIFYING and none elsewhere (R55,
R56); the poll timer from 0 and the count of failed polls 0 on entering the polled states, the timer stopped and a due poll
withdrawn on leaving them (R57). -/
def enteredBus (old st : BayState) (r : BayBus) : BayBus :=
  { sequence := if st = .identifying then some ⟨1, none⟩ else none
    pollTimer := if st.polled then (if old.polled then r.pollTimer else some 0) else none
    pollDue := r.pollDue && st.polled && old.polled
    failedPolls := if st.polled && !old.polled then 0 else r.failedPolls }

/-- A bay's identification read in flight is stopped, its result discarded (R56). -/
def stopIdentifyRead (b : Bay) (s : State) : State :=
  match s.bbc.inFlight with
  | some t => if t.owner = .identify b then { s with bbc := { s.bbc with inFlight := none } } else s
  | none => s

/-- The charged-since-insertion mark of a bay. -/
def setCharged (b : Bay) (v : Bool) (s : State) : State :=
  { s with cc := { s.cc with charged := s.cc.charged.set b v } }

/-- A bay enters a state. -/
def enterBay (b : Bay) (st : BayState) (s : State) : State :=
  let old := bayOf s b
  let s := updBay b (enteredRecord st) s
  let s := updBus b (enteredBus old.state st) s
  let s := if st = .identifying then s else stopIdentifyRead b s
  let s := if st = .empty then setCharged b false s else s
  let s := tellBudgetIf (st == .empty && old.telemetryLost) s
  tellBudgetIf ((old.state == .releasing) != (st == .releasing)) s

/-- The state a bay falls to when it stops feeding or relocks: FAULTED with reason ALARM if its alarm mark is set, STANDBY if it
is clear (R27, R31, R38, R41). -/
def restState (s : State) (b : Bay) : BayState := if alarmMark s b then .faulted .alarm else .standby

end Sys2Proof.Machine
end

