-- ==== Sys2Proof/Machine/Charge.lean ====
section
/-! DEFINITION. The Charge Controller (chapter 4): the pack memory, profile matching, eligibility and charger arbitration,
charger lists, and how a session starts and ends. -/

namespace Sys2Proof.Machine

/-! ### The pack memory (section 4.1) -/

/-- Whether a bay pins a serial: the bay is not EMPTY and its identity has the serial (R69). -/
def pinsSerial (s : State) (serial : Nat) (b : Bay) : Bool :=
  (bayOf s b).state != .empty && serialOf s b == some serial

/-- Whether any bay pins a serial (R69). -/
def pinned (s : State) (serial : Nat) : Bool := pinsSerial s serial .A || pinsSerial s serial .B

/-- The memory without its least recent entry that is not pinned (R70). -/
def evict (isPinned : Nat → Bool) : List PackEntry → List PackEntry
  | [] => []
  | e :: rest =>
    if rest.any (fun x => !isPinned x.serial) then e :: evict isPinned rest
    else if isPinned e.serial then e :: rest else rest

/-- The entry of a serial. -/
def findPack (memory : List PackEntry) (serial : Nat) : Option PackEntry := memory.find? fun e => e.serial == serial

/-- An entry updated by an identification (R70). -/
def identifiedEntry (e : PackEntry) (b : Bay) (id : Identity) (charge : Nat) : PackEntry :=
  { e with chemistry := id.chemistry, designCapacity := id.designCapacity, lastBay := b, lastCharge := charge,
           insertCount := min (e.insertCount + 1) 65535 }

/-- A new entry (R70). -/
def newEntry (b : Bay) (id : Identity) (charge : Nat) : PackEntry :=
  ⟨id.serial, id.chemistry, id.designCapacity, b, charge, 1, false, none⟩

/-- The memory after an identification: the entry at position 0, a new one evicting where 8 are held (R70). -/
def rememberIn (isPinned : Nat → Bool) (b : Bay) (id : Identity) (charge : Nat) (memory : List PackEntry) : List PackEntry :=
  match findPack memory id.serial with
  | some e => identifiedEntry e b id charge :: memory.filter (fun x => x.serial != id.serial)
  | none => newEntry b id charge :: (if 8 ≤ memory.length then evict isPinned memory else memory)

/-- The state with the pack memory changed. -/
def updMemory (f : List PackEntry → List PackEntry) (s : State) : State :=
  { s with cc := { s.cc with memory := f s.cc.memory } }

/-- The pack memory takes an identification (R70). -/
def rememberPack (b : Bay) (id : Identity) (charge : Nat) (s : State) : State :=
  updMemory (rememberIn (pinned s) b id charge) s

/-- The entry of a serial changed in place. -/
def changeEntry (serial : Nat) (f : PackEntry → PackEntry) (memory : List PackEntry) : List PackEntry :=
  memory.map fun e => if e.serial = serial then f e else e

/-- Whether the pack identified in a bay carries the shocked mark (R80). -/
def bayShocked (s : State) (b : Bay) : Bool :=
  match serialOf s b with
  | some n => s.cc.memory.any fun e => e.serial == n && e.shocked
  | none => false

/-! ### Profiles (section 4.2) -/

/-- Whether a profile matches an identity (R77). -/
def profileMatches (id : Identity) (p : Profile) : Bool :=
  p.valid && (p.chemistry == 255 || p.chemistry == id.chemistry)
    && window p.capacityLow p.capacityHigh id.designCapacity && window p.voltageLow p.voltageHigh id.designVoltage

/-- The index of the first profile that matches an identity (R77). -/
def matchProfile (s : State) (id : Identity) : Option Nat := s.ts.t3.active.findIdx? (profileMatches id)

/-- The values a session records (R79). -/
def recordedOf (p : Profile) : Recorded :=
  ⟨p.chargeVoltage, p.chargeCurrent, p.terminationCurrent, p.tempLow, p.tempHigh⟩

/-- A bay's matched profile in the active copy of table 3. -/
def bayProfile (s : State) (b : Bay) : Option Profile := (bayOf s b).profile.bind (profileAt s)

/-! ### Eligibility (R80) -/

/-- The conditions of R80 for a bay, with the charge temperature window given. -/
def chargeable (s : State) (b : Bay) (low high : Int) : Bool :=
  let r := bayOf s b
  r.state == .standby && dcFeedsAlone s && r.profile.isSome && !bayShocked s b && !anyAlarm r.alarms && !r.telemetryLost
    && match r.telemetry with
       | some t =>
         window low high t.temperature
           && (decide (t.charge ≤ paramN s 42) || (!s.cc.charged.get b && decide (t.charge < 100)))
       | none => false

/-- Whether a bay is eligible to charge (R80). -/
def eligibleToCharge (s : State) (b : Bay) : Bool :=
  match bayProfile s b with
  | some p => chargeable s b p.tempLow p.tempHigh
  | none => false

/-- The eligible bay with the lower charge, bay A when the two are equal (R81). -/
def chooseCharge (s : State) : Option Bay :=
  match eligibleToCharge s .A, eligibleToCharge s .B with
  | true, true => if chargeOf s .B < chargeOf s .A then some .B else some .A
  | true, false => some .A
  | false, true => some .B
  | false, false => none

/-! ### Charger lists (R60, R84, R88) -/

/-- The CC hands the BBC a charger list; while DC is not PRESENT it hands none (R84). -/
def handList (kind : ListKind) (writes : List (Nat × Nat)) (s : State) : State :=
  if dcPresent s then { s with bbc := { s.bbc with lists := s.bbc.lists ++ [⟨kind, writes, false⟩] } } else s

/-- The start list of a session (R60, R82). -/
def startWrites (v : Recorded) : List (Nat × Nat) := [(0x31, v.chargeVoltage), (0x32, v.chargeCurrent), (0x33, 1)]

/-- The stop list is handed (R88). -/
def handStop (s : State) : State := handList .stop [(0x33, 0)] s

/-- Whether a charger write is in flight. -/
def chargerInFlight (s : State) : Bool :=
  match s.bbc.inFlight with
  | some t => t.owner == .charger
  | none => false

/-- The lists after a withdrawal (R60): writes not yet granted are removed at once; a write in flight, which is the head list's
first, runs to its end with its result ignored. -/
def withdrawn (hit : ChargerList → Bool) (inFlight : Bool) : List ChargerList → List ChargerList
  | [] => []
  | l :: rest =>
    (if hit l then (if inFlight then [{ l with writes := l.writes.take 1, withdrawn := true }] else []) else [l])
      ++ rest.filter fun x => !hit x

/-- The CC withdraws its start lists (R82). -/
def withdrawStarts (s : State) : State :=
  { s with bbc := { s.bbc with lists := withdrawn (fun l => l.kind == .start) (chargerInFlight s) s.bbc.lists } }

/-- The CC withdraws every list (R84). -/
def withdrawAll (s : State) : State :=
  { s with bbc := { s.bbc with lists := withdrawn (fun _ => true) (chargerInFlight s) s.bbc.lists } }

/-! ### Arbitration and attempts (R81, R82) -/

/-- The session record set. -/
def setSession (x : Session) (s : State) : State := { s with cc := { s.cc with session := x } }

/-- An attempt starts for a bay (R82): the record is filled as STARTING and the start list handed. -/
def startAttempt (b : Bay) (s : State) : State :=
  match (bayOf s b).profile, bayProfile s b with
  | some i, some p => handList .start (startWrites (recordedOf p)) (setSession (.starting b i (recordedOf p)) s)
  | _, _ => s

/-- A starting attempt is abandoned (R82), up to the arbitration that follows. -/
def abandonAttempt (s : State) : State := handStop (setSession .none (withdrawStarts s))

/-- The choice of R81 while the session record is NONE and the fault mark is clear. -/
def chooseAttempt (s : State) : State :=
  if s.cc.fault then s
  else
    match chooseCharge s with
    | some b => startAttempt b s
    | none => s

/-- Charger arbitration (R81): a STARTING bay is checked against R80 again under its recorded values and the attempt abandoned if
it fails; an ACTIVE session is not given up. A STARTING bay that was emptied and identified afresh since the last
evaluation goes on under the recorded values if it meets R80 with them (assumption 51). -/
def arbitrate (s : State) : State :=
  match s.cc.session with
  | .none => chooseAttempt s
  | .starting b _ v => if chargeable s b v.tempLow v.tempHigh then s else chooseAttempt (abandonAttempt s)
  | .active _ _ _ => s

/-! ### The end of a session (section 4.5) -/

/-- What follows every ending of an ACTIVE session, in the order of R88. -/
def endSession (s : State) : State := arbitrate (handStop (tellBudget (setSession .none s)))

/-- The session of a bay is ACTIVE. -/
def sessionActive (s : State) (b : Bay) : Bool :=
  match s.cc.session with
  | .active x _ _ => x == b
  | _ => false

/-- The PPC tells the CC that it has opened the charge switch of a bay (R86): the session ends, with CHARGE_HELD where the table
of R86 gives a reason. -/
def sessionStopped (b : Bay) (reason : Option HeldReason) (s : State) : State :=
  if sessionActive s b then
    endSession (match reason with
      | some r => raise (.chargeHeld b r) s
      | none => s)
  else s

/-- The charge switch of a bay opens and the bay enters a state (R17). -/
def openCharge (b : Bay) (st : BayState) (s : State) : State :=
  enterBay b st (updBay b (fun r => { r with charge := false }) s)

/-- The PPC opens the charge switch at the CC's request: a CHARGING bay returns to STANDBY (R17). -/
def openChargeForCc (b : Bay) (s : State) : State :=
  if (bayOf s b).state = .charging then openCharge b .standby s else s

/-- The CC stops an ACTIVE session of its own accord (R87). -/
def stopSession (b : Bay) (reason : HeldReason) (s : State) : State :=
  endSession (raise (.chargeHeld b reason) (openChargeForCc b s))

/-- A CHARGING bay is taken out of CHARGING because DC is lost or gives way (R28, R29, R31): it is STANDBY afterwards. -/
def stopCharging (b : Bay) (s : State) : State :=
  if (bayOf s b).state = .charging then sessionStopped b (some .dcLoss) (openCharge b .standby s) else s

/-- Both bays are taken out of CHARGING. -/
def stopAllCharging (s : State) : State := stopCharging .B (stopCharging .A s)

/-- DC has become absent (R84): the fault mark clears, the count returns to 0, every list is withdrawn and a starting attempt
ends. -/
def chargerLosesDc (s : State) : State :=
  let s := withdrawAll s
  let s := { s with cc := { s.cc with fault := false, failedLists := 0 } }
  match s.cc.session with
  | .starting _ _ _ => setSession .none s
  | _ => s

/-! ### Charger lists reported (R82, R83, R88) -/

/-- A failed list counts towards the limit of 3, at which the fault mark is set and CHARGER_FAULT raised (R83). -/
def countFailure (result : TxResult) (s : State) : State :=
  let n := s.cc.failedLists + 1
  let t := { s with cc := { s.cc with failedLists := min n 3, fault := s.cc.fault || decide (3 ≤ n) } }
  raiseIf (n == 3) (.chargerFault result) t

/-- The charge switch of a bay closes for its STARTING session (R17, R82): CHARGING, ACTIVE, CHARGE_STARTED, and the Budget
Unit told. -/
def closeCharge (b : Bay) (i : Nat) (v : Recorded) (s : State) : State :=
  let s := enterBay b .charging (updBay b (fun r => { r with charge := true }) s)
  tellBudget (raise (.chargeStarted b i) (setSession (.active b i v) s))

/-- The start list is reported done (R82): the bay is checked once more, and its switch closes or the attempt is abandoned. -/
def startDone (s : State) : State :=
  let s := { s with cc := { s.cc with failedLists := 0 } }
  match s.cc.session with
  | .starting b i v => if chargeable s b v.tempLow v.tempHigh then closeCharge b i v s else abandonAttempt s
  | _ => s

/-- A list is reported done (R82, R88); each done report evaluates arbitration (R81). -/
def listDone (kind : ListKind) (s : State) : State :=
  arbitrate (match kind with
    | .start => startDone s
    | .stop => { s with cc := { s.cc with failedLists := 0 } })

/-- A list is reported failed (R83, R88). While DC is not PRESENT the report is not counted (R84). -/
def listFailed (kind : ListKind) (result : TxResult) (s : State) : State :=
  if dcPresent s then
    match kind with
    | .start => handStop (countFailure result (setSession .none s))
    | .stop =>
      let t := countFailure result s
      if t.cc.failedLists < 3 ∧ t.cc.session = .none then handStop t else t
  else s

/-! ### Marks and telemetry (R71, R72, R78, R85) -/

/-- One serial is marked (R72). -/
def markSerial (seq : Option Nat) (s : State) (serial : Nat) : State :=
  updMemory (changeEntry serial fun e => { e with shocked := true, shockSequence := seq }) s

/-- The bay of a session, if its record is not NONE. -/
def sessionBay : Session → Option Bay
  | .none => none
  | .starting b _ _ => some b
  | .active b _ _ => some b

/-- Whether the serial of the session's bay is among the serials just marked (R72). -/
def sessionMarked (serials : List Nat) (s : State) : Bool :=
  match sessionBay s.cc.session with
  | some b =>
    match serialOf s b with
    | some n => serials.contains n && (findPack s.cc.memory n).isSome
    | none => false
  | none => false

/-- The CC marks the packs of a classified event (R72): an ACTIVE session on a marked pack ends SHOCKED, a starting attempt is
abandoned. Every serial is marked before the session or the attempt ends, once; R72 and R157 leave that open (assumption 57). -/
def markPacks (serials : List Nat) (seq : Option Nat) (s : State) : State :=
  let t := serials.foldl (markSerial seq) s
  if sessionMarked serials t then
    match t.cc.session with
    | .active b _ _ => stopSession b .shocked t
    | .starting _ _ _ => arbitrate (abandonAttempt t)
    | .none => t
  else t

/-- A bay's profile matched again (R78). The Budget Unit is told of an index that changes, so that the record is the same in either
order of the two deliveries (R175, assumption 49). -/
def rematch (b : Bay) (s : State) : State :=
  match (bayOf s b).identity with
  | some id =>
    tellBudgetIf ((bayOf s b).profile != matchProfile s id) (updBay b (fun r => { r with profile := matchProfile s id }) s)
  | none => s

/-- Whether the profile of a session's bay has changed (R78). -/
def profileChanged (s : State) (b : Bay) (i : Nat) (v : Recorded) : Bool :=
  (bayOf s b).profile != some i || (bayProfile s b).map recordedOf != some v

/-- The CC takes a swap of table 3 (R78, R175). -/
def rematchAll (s : State) : State :=
  let s := rematch .B (rematch .A s)
  arbitrate (match s.cc.session with
    | .active b i v => if profileChanged s b i v then stopSession b .profileChange s else s
    | .starting b i v => if profileChanged s b i v then arbitrate (abandonAttempt s) else s
    | .none => s)

/-- Whether a block shows charging complete (R85). -/
def chargeComplete (v : Recorded) (t : Telemetry) : Bool :=
  decide (t.current ≤ v.terminationCurrent) && decide ((v.chargeVoltage : Int) - 50 ≤ t.voltage)

/-- The session of a bay is done (R85). -/
def sessionDone (b : Bay) (charge : Nat) (s : State) : State :=
  endSession (raise (.chargeDone b charge) (setCharged b true (openChargeForCc b s)))

/-- A telemetry block for the bay of an ACTIVE session (R85, R87): temperature first, then completion. -/
def sessionTelemetry (b : Bay) (t : Telemetry) (s : State) : State :=
  match s.cc.session with
  | .active x _ v =>
    if x = b then
      if !window v.tempLow v.tempHigh t.temperature then stopSession b .temperature s
      else if chargeComplete v t then sessionDone b t.charge s else s
    else s
  | _ => s

/-- The CC takes a telemetry block (R71); a block for a bay with no identity is ignored. -/
def chargeTelemetry (b : Bay) (t : Telemetry) (s : State) : State :=
  match serialOf s b with
  | some n => arbitrate (sessionTelemetry b t (updMemory (changeEntry n fun e => { e with lastCharge := t.charge }) s))
  | none => s

end Sys2Proof.Machine
end

