-- ==== Sys2Proof/Machine/Path.lean ====
section
/-! DEFINITION. The Power Path Controller (chapter 2): switches and bridging, transfers and how they end or are lost, source
selection, release requests, refusals and the forced-release grace, and the main rail going OFF. -/

namespace Sys2Proof.Machine

/-! ### The source record -/

/-- The state with the PPC changed. -/
def updPpc (f : Ppc → Ppc) (s : State) : State := { s with ppc := f s.ppc }

/-- After a change of switches or rail (R13, R30, R91): the bridge timer runs from the start of bridging and stops at its end,
and the Budget Unit is told of a change of the feeding sources and of a start or end of bridging, in that order (assumption 55). -/
def pathChanged (old s : State) : State :=
  let timer := if bridging s then (if bridging old then s.ppc.bridgeTimer else some 0) else none
  let s := updPpc (fun p => { p with bridgeTimer := timer }) s
  let s := tellBudgetIf ([Source.dc, .bay .A, .bay .B].any fun x => switchClosed old x != switchClosed s x) s
  tellBudgetIf (bridging old != bridging s) s

/-- A source's switch as the PPC drives it. -/
def driveSwitch (x : Source) (closed : Bool) (s : State) : State :=
  match x with
  | .dc => updPpc (fun p => { p with dcSwitch := closed }) s
  | .bay b => updBay b (fun r => { r with discharge := closed }) s

/-- A source's switch opens or closes, with what follows for bridging and the budget. -/
def setSwitch (x : Source) (closed : Bool) (s : State) : State := pathChanged s (driveSwitch x closed s)

/-- A source begins to feed: its switch closes, and a bay enters SUPPLYING (R16, R17, R27). -/
def feed (x : Source) (s : State) : State :=
  match x with
  | .dc => setSwitch .dc true s
  | .bay b => enterBay b .supplying (setSwitch (.bay b) true s)

/-- The voltage latest read at a source (R12). -/
def voltageOf (s : State) : Source → Nat
  | .dc => s.ppc.vdc
  | .bay .A => s.ppc.va
  | .bay .B => s.ppc.vb

/-- The method of a planned transfer from the latest readings (R26); absent when neither is possible. -/
def transferMethod (s : State) (x y : Source) : Option Method :=
  let vx : Int := voltageOf s x
  let vy : Int := voltageOf s y
  if (vx - vy).natAbs ≤ paramN s 11 then some .overlap
  else if s.ppc.reserveReady then some .bridge else none

/-- The waiting transfer set. -/
def setWaiting (w : Option WaitCause) (s : State) : State := updPpc (fun p => { p with waiting := w }) s

/-- The transfer record set. -/
def setTransfer (t : Option Transfer) (s : State) : State := updPpc (fun p => { p with transfer := t }) s

/-- Both bays judged for the load: STANDBY or CHARGING, alarm mark clear, charge above P41 (R23). -/
def eligible (s : State) (b : Bay) : Bool :=
  let r := bayOf s b
  (r.state == .standby || r.state == .charging) && !anyAlarm r.alarms && r.telemetry.isSome
    && decide (paramN s 41 < chargeOf s b)

/-- The bay with the lower charge of two that both qualify, bay A on a tie. -/
def lowerBay (s : State) : Bay := if chargeOf s .B < chargeOf s .A then .B else .A

/-- The bay to take the load when a condition admits bays: the one that qualifies, or the one with the lower charge (R23). -/
def lowestBay (s : State) (ok : Bay → Bool) : Option Bay :=
  match ok .A, ok .B with
  | true, true => some (lowerBay s)
  | true, false => some .A
  | false, true => some .B
  | false, false => none

/-- The target when no source feeds (R23): DC if PRESENT and attach pending is not set, otherwise the eligible bay with the
lower charge. -/
def gapTarget (s : State) : Option Source :=
  if dcPresent s && !attachPending s then some .dc else (lowestBay s (eligible s)).map Source.bay

/-! ### Starting a transfer (R26 to R29) -/

/-- A target bay in CHARGING is taken out of it before its discharge switch closes (R28). -/
def clearTarget (y : Source) (s : State) : State :=
  match y with
  | .dc => s
  | .bay b => stopCharging b s

/-- The next state of a source bay whose switch has opened at the start of a BRIDGE transfer (R27, R28): a RELEASING bay stays
RELEASING. Entering STANDBY evaluates charger arbitration (R81). -/
def leaveLoad (x : Source) (s : State) : State :=
  match x with
  | .dc => s
  | .bay b => if (bayOf s b).state = .supplying then arbitrate (enterBay b (restState s b) s) else s

/-- A planned transfer starts (R26, R27, R28). When any transfer starts the waiting transfer is dropped (R24). -/
def startTransfer (x y : Source) (m : Method) (cause : Cause) (s : State) : State :=
  let s := setTransfer (some ⟨some x, y, m, m, true, cause, 0⟩) (setWaiting none (clearTarget y s))
  match m with
  | .overlap => feed y s
  | .bridge => leaveLoad x (setSwitch x false s)

/-- An unplanned transfer is recorded (R29): its target's switch closes 1 ms later. -/
def startGap (x : Option Source) (y : Source) (cause : Cause) (s : State) : State :=
  setTransfer (some ⟨x, y, .bridge, .bridge, false, cause, 0⟩) (setWaiting none s)

/-! ### Source selection (R23, R24) -/

/-- The waiting transfer is dropped when its grounds are gone (R24). -/
def dropStaleWaiting (s : State) : State :=
  match s.ppc.waiting, feedingBay s with
  | none, _ => s
  | some .dcAttach, some _ => if dcPresent s then s else setWaiting none s
  | some .switchOver, some _ => s
  | some .alarm, some b => if alarmMark s b then s else setWaiting none s
  | some _, none => setWaiting none s

/-- The target a waiting transfer wants, as things stand. -/
def waitingTarget (s : State) (w : WaitCause) (b : Bay) : Option (Source × Cause) :=
  match w with
  | .dcAttach => some (.dc, .dcAttach)
  | .switchOver => if eligible s b.other then some (.bay b.other, .switchOver) else none
  | .alarm => if eligible s b.other then some (.bay b.other, .alarm) else none

/-- The waiting transfer is tried again (R24); answers the state and whether it started. -/
def retryWaiting (s : State) : State × Bool :=
  match s.ppc.waiting, feedingBay s with
  | some w, some b =>
    match waitingTarget s w b with
    | some (y, cause) =>
      match transferMethod s (.bay b) y with
      | some m => (startTransfer (.bay b) y m cause s, true)
      | none => (s, false)
    | none => (s, false)
  | _, _ => (s, false)

/-- A planned transfer is sought from a feeding bay (R24): it starts by the method of R26, or becomes the waiting transfer unless
one waits already. -/
def seekTransfer (b : Bay) (y : Source) (cause : Cause) (w : WaitCause) (s : State) : State :=
  match transferMethod s (.bay b) y with
  | some m => startTransfer (.bay b) y m cause s
  | none => if s.ppc.waiting.isNone then setWaiting (some w) s else s

/-- The supplying bay gives up the load on its charge (SWITCH_OVER) or its alarm (ALARM), in that order, if the other bay is
eligible; otherwise it stays, with BATTERY_LOW for its charge (R24, assumption 17). -/
def giveUpLoad (b : Bay) (s : State) : State :=
  let low := (bayOf s b).telemetry.isSome && decide (chargeOf s b ≤ paramN s 41)
  let alarm := alarmMark s b
  if eligible s b.other then
    if low then seekTransfer b (.bay b.other) .switchOver .switchOver s
    else if alarm then seekTransfer b (.bay b.other) .alarm .alarm s else s
  else raiseIf low (.batteryLow b (chargeOf s b)) s

/-- The choice of R23 after the waiting transfer has been tried. -/
def chooseSource (s : State) : State :=
  if dcPresent s && !attachPending s then
    if s.ppc.dcSwitch then s
    else
      match feedingBay s with
      | some b => seekTransfer b .dc .dcAttach .dcAttach s
      | none => startGap none .dc .railGap s
  else
    match feedingBay s with
    | some b => giveUpLoad b s
    | none =>
      if s.ppc.dcSwitch then s
      else
        match gapTarget s with
        | some y => startGap none y .railGap (clearTarget y s)
        | none => s

/-- Source selection (R23): evaluated while the main rail is ON and no transfer is in flight. -/
def select (s : State) : State :=
  if !s.ppc.railOn || s.ppc.transfer.isSome then s
  else
    match retryWaiting (dropStaleWaiting s) with
    | (t, true) => t
    | (t, false) => chooseSource t

/-! ### Release (section 2.6) -/

/-- The pending release mark of a bay. -/
def setPending (b : Bay) (v : Bool) (s : State) : State := updBay b (fun r => { r with pendingRelease := v }) s

/-- The forced-release record is emptied, and the Budget Unit told (R40, R91). -/
def clearForced (s : State) : State :=
  tellBudgetIf s.ppc.forced.isSome (updPpc (fun p => { p with forced := none }) s)

/-- `clearForced` if the record holds the bay. -/
def clearForcedOf (b : Bay) (s : State) : State :=
  match s.ppc.forced with
  | some f => if f.bay = b then clearForced s else s
  | none => s

/-- A bay is released (R35, R37): RELEASED with RELEASE_GRANTED, or, while the shock hold is active, its rest state with its
pending release mark set (R38). -/
def goReleased (b : Bay) (s : State) : State :=
  if s.ppc.hold then setPending b true (enterBay b (restState s b) s)
  else raise (.releaseGranted b) (enterBay b .released s)

/-- The alternative source for a release (R36). -/
def alternative (s : State) (b : Bay) : Option Source :=
  let o := bayOf s b.other
  if dcPresent s && !attachPending s then some .dc
  else if (o.state == .standby || o.state == .charging) && !anyAlarm o.alarms && !o.telemetryLost && o.telemetry.isSome
      && decide (paramN s 14 ≤ chargeOf s b.other) then some (.bay b.other)
  else none

/-- How a release of a SUPPLYING bay comes out (R36). -/
inductive ReleaseResult where
  | started
  | noBridge
  | noAlternative
  deriving DecidableEq, Repr

/-- A release of a feeding bay is sought (R36): the bay enters RELEASING and a planned transfer with cause RELEASE starts to the
alternative, which ends a grace of the bay (R40); or nothing changes. -/
def seekRelease (b : Bay) (s : State) : State × ReleaseResult :=
  match alternative s b with
  | none => (s, .noAlternative)
  | some y =>
    match transferMethod s (.bay b) y with
    | none => (s, .noBridge)
    | some m => (startTransfer (.bay b) y m .release (enterBay b .releasing (clearForcedOf b s)), .started)

/-- A refusal comes to stand (R36, R39): RELEASE_REFUSED is raised, and while REL is filtered asserted the hold timer runs. It
stands only while the bay is SUPPLYING. A hold timer already running runs on (assumption 18). A late refusal while the shock hold
is active does not stand: as R38 has it, with REL asserted the pending mark is set (assumption 16). -/
def refuseRelease (b : Bay) (reason : RefusalReason) (s : State) : State :=
  let s := raise (.releaseRefused b reason) s
  let rel := filtered s (relOf b)
  if s.ppc.hold then (if rel then setPending b true s else s)
  else if (bayOf s b).state = .supplying then
    updBay b (fun r => { r with refusal := true, holdTimer := if rel then some (r.holdTimer.getD 0) else none }) s
  else s

/-- The transfer in flight becomes the release of its source bay (R36): the bay enters RELEASING and the cause becomes RELEASE. -/
def turnIntoRelease (b : Bay) (s : State) : State :=
  let s := clearForcedOf b s
  let s := if (bayOf s b).state = .releasing then s else enterBay b .releasing s
  updPpc (fun p => { p with transfer := p.transfer.map fun t => { t with cause := .release } }) s

/-- Whether a bay that is the source of the transfer in flight still stands in it: SUPPLYING, or its BRIDGE source with the
switch open (R36, assumption 13). -/
def releasableSource (st : BayState) : Bool :=
  match st with
  | .standby => true
  | .supplying => true
  | .faulted _ => true
  | _ => false

/-- A release request of a SUPPLYING bay (R36). -/
def releaseSupplying (b : Bay) (s : State) : State × Status :=
  if s.ppc.transfer.isSome then (setPending b true s, .held)
  else
    match seekRelease b s with
    | (t, .started) => (t, .ok)
    | (t, .noBridge) => (refuseRelease b .noBridge t, .noBridge)
    | (t, .noAlternative) => (refuseRelease b .noAlternative t, .noAlternative)

/-- A release request of a CHARGING bay (R35): the charge switch opens, the bay is released, and the CC is told with no
CHARGE_HELD. -/
def releaseCharging (b : Bay) (s : State) : State :=
  sessionStopped b none (goReleased b (updBay b (fun r => { r with charge := false }) s))

/-- A release request, whatever its cause (R34, R35, R36, R38), with the status a host request is answered. DESIGN CHOICE (assumption
58): for a RELEASING bay that R32 has made the target of its own transfer, R35's row gives ALREADY and no effect, its closing paragraph
HELD and the pending mark, and the model takes the paragraph. -/
def releaseRequest (b : Bay) (s : State) : State × Status :=
  if s.ppc.hold then (setPending b true s, .held)
  else if isTransferTarget s b then (setPending b true s, .held)
  else if isTransferSource s b && releasableSource (bayOf s b).state then (turnIntoRelease b s, .ok)
  else
    match (bayOf s b).state with
    | .empty => (s, .noPack)
    | .seating => (s, .noPack)
    | .identifying => (goReleased b s, .ok)
    | .standby => (goReleased b s, .ok)
    | .faulted _ => (goReleased b s, .ok)
    | .charging => (releaseCharging b s, .ok)
    | .supplying => releaseSupplying b s
    | .releasing => (s, .already)
    | .released => (s, .already)

/-- A pending release mark is cleared and a release request evaluated (R38). -/
def evaluatePending (b : Bay) (s : State) : State :=
  if (bayOf s b).pendingRelease then (releaseRequest b (setPending b false s)).1 else s

/-- Every bay whose pending mark is set is evaluated; with both set, in either order (R38, assumption 9). -/
def evaluatePendings (s : State) : State :=
  if (bayOf s .A).pendingRelease && (bayOf s .B).pendingRelease then
    let o := freeOrder s
    if o.1 then evaluatePending .A (evaluatePending .B o.2) else evaluatePending .B (evaluatePending .A o.2)
  else evaluatePending .B (evaluatePending .A s)

/-! ### The forced-release grace (R40) -/

/-- The grace tests whether its bay now has an alternative (R40): outside the hold, with a method, it is cancelled and the release
proceeds; during the hold it is cancelled and the pending mark set. Where the bay feeds as the source of the transfer in flight, the
release proceeds as R36 has it, that transfer becoming the release; during another transfer the test waits for its end
(assumption 43). -/
def graceTest (s : State) : State :=
  match s.ppc.forced with
  | none => s
  | some f =>
    if s.ppc.hold then
      if (alternative s f.bay).isSome then setPending f.bay true (clearForced s) else s
    else if s.ppc.transfer.isSome then
      if isTransferSource s f.bay && (bayOf s f.bay).state == .supplying && (alternative s f.bay).isSome then
        turnIntoRelease f.bay s
      else s
    else if (bayOf s f.bay).state = .supplying then (seekRelease f.bay s).1 else s

/-- `graceTest` where the event concerns the bay other than the one in the record (R40). -/
def graceTestFor (b : Bay) (s : State) : State :=
  match s.ppc.forced with
  | some f => if f.bay = b.other then graceTest s else s
  | none => s

/-- The bay of the grace has left SUPPLYING under another rule (R40): the grace is cancelled and a release request evaluated
against its new state. -/
def graceLeft (s : State) : State :=
  match s.ppc.forced with
  | some f => if (bayOf s f.bay).state = .supplying then s else (releaseRequest f.bay (clearForced s)).1
  | none => s

/-- Source selection with the grace that it may end. -/
def selectSource (s : State) : State := graceLeft (select s)

/-- What follows a bay becoming STANDBY: charger arbitration (R81), the other bay's grace (R40) and source selection
(R23). -/
def becameStandby (b : Bay) (s : State) : State := selectSource (graceTestFor b (arbitrate s))

/-! ### The end of a transfer (R26, R27, R28) -/

/-- A transfer ends (R26): the record is cleared, TRANSFER_DONE raised, the CC told, selection and pending marks evaluated. -/
def endTransfer (completed : Bool) (s : State) : State :=
  match s.ppc.transfer with
  | none => s
  | some t =>
    let s := raise (.transferDone t.source t.target t.method t.cause completed) (setTransfer none s)
    let s := selectSource (arbitrate s)
    let s := if s.ppc.hold then s else evaluatePendings s
    graceTest s

/-- A source bay at the end of its transfer: RELEASING is released (R37), SUPPLYING takes its rest state (R27). -/
def sourceEnds (x : Option Source) (s : State) : State :=
  match x with
  | some (.bay b) =>
    if (bayOf s b).state = .releasing then goReleased b s
    else if (bayOf s b).state = .supplying then enterBay b (restState s b) s else s
  | _ => s

/-- A source's switch opens, if there is a source. -/
def openSource (x : Option Source) (s : State) : State :=
  match x with
  | some y => setSwitch y false s
  | none => s

/-- The OVERLAP of a transfer is complete (R27). -/
def completeOverlap (t : Transfer) (s : State) : State := endTransfer true (sourceEnds t.source (openSource t.source s))

/-- Whether the target of a transfer is the releasing bay itself, taken back after its own target was lost (R32). -/
def takesBack (t : Transfer) (s : State) : Option Bay :=
  match t.target with
  | .bay b => if (bayOf s b).state = .releasing then some b else none
  | .dc => none

/-- The target's switch of a BRIDGE transfer closes (R28): bridging ends and the transfer completes. A releasing bay that is its
own target returns to SUPPLYING and its release is refused late (R32). -/
def completeBridge (t : Transfer) (s : State) : State :=
  match takesBack t s with
  | some b => refuseRelease b .sourceLost (endTransfer true (feed (.bay b) s))
  | none => endTransfer true (sourceEnds t.source (feed t.target s))

/-! ### Losses (R29, R32, R33) -/

/-- A feeding source is lost outside a transfer (R29); its switch is already open. -/
def unplannedTransfer (x : Source) (cause : Cause) (s : State) : State :=
  let s := dropStaleWaiting (stopAllCharging s)
  if anyFeeding s || !s.ppc.railOn then selectSource s
  else
    match gapTarget s with
    | some y => startGap (some x) y cause s
    | none => raise (.powerFailWarning none) s

/-- A release whose OVERLAP target was lost is sought again as a new request under R36 (R32). While the shock hold is active it
waits as a pending mark, the bay SUPPLYING, or at rest where selection has already begun to bridge the load away from it
(assumption 16). DESIGN CHOICE (assumption 59): it is sought after the selection that ends the aborted transfer. -/
def releaseAgain (b : Bay) (s : State) : State :=
  if s.ppc.hold then setPending b true (enterBay b (if (bayOf s b).discharge then .supplying else restState s b) s)
  else if isTransferSource s b then turnIntoRelease b s
  else
    match seekRelease b s with
    | (t, .started) => t
    | (t, .noBridge) => refuseRelease b .noBridge (enterBay b .supplying t)
    | (t, .noAlternative) => refuseRelease b .sourceLost (enterBay b .supplying t)

/-- The source bay of a transfer that is to be taken as target again (R32): the releasing bay, or, for a planned transfer of
another cause, the source if it is STANDBY with a clear alarm mark. -/
def sourceAgain (t : Transfer) (s : State) : Option Bay :=
  match t.source with
  | some (.bay b) =>
    if (bayOf s b).state = .releasing then some b
    else if t.planned && (bayOf s b).state == .standby && !alarmMark s b then some b else none
  | _ => none

/-- The transfer in flight becomes unplanned towards a new target (R32). A transfer back to its own source is from none
(assumption 15). -/
def retarget (t : Transfer) (y : Source) (cause : Cause) (s : State) : State :=
  let x := if t.source = some y then none else t.source
  setWaiting none (setTransfer (some ⟨x, y, .bridge, .bridge, false, cause, 0⟩) s)

/-- The target of the transfer in flight is lost (R32); its switch is already open. DESIGN CHOICE (assumption 59): an aborted OVERLAP
ends as every transfer does, so that the selection of R23 and R26 runs for a RELEASE too, and before the release is sought again. -/
def targetLost (cause : Cause) (s : State) : State :=
  match s.ppc.transfer with
  | none => s
  | some t =>
    match t.phase with
    | .overlap =>
      let u := endTransfer false s
      match t.cause, t.source with
      | .release, some (.bay b) => releaseAgain b u
      | _, _ => u
    | .bridge =>
      let u := dropStaleWaiting (stopAllCharging s)
      match gapTarget u, sourceAgain t u with
      | some y, _ => retarget t y cause u
      | none, some b => retarget t (.bay b) cause u
      | none, none => raise (.powerFailWarning none) (endTransfer false u)

/-! ### The main rail goes OFF (R31) -/

/-- The DC switch and every bay switch open (R31). -/
def openAllSwitches (s : State) : State :=
  let s := updPpc (fun p => { p with dcSwitch := false }) s
  let s := updBay .A (fun r => { r with discharge := false }) s
  updBay .B (fun r => { r with discharge := false }) s

/-- A bay at rail OFF (R31): SUPPLYING and CHARGING are set down, the session stopped with cause DC loss. -/
def setDown (b : Bay) (s : State) : State :=
  if (bayOf s b).state = .supplying then enterBay b (restState s b) s else stopCharging b s

/-- A RELEASING bay at rail OFF enters RELEASED (R31, R37). -/
def releaseReleasing (b : Bay) (s : State) : State := if (bayOf s b).state = .releasing then goReleased b s else s

/-- The main rail goes OFF with a reason (R31). The Budget Unit is told before the BLC is handed the rail (assumption 55). -/
def railOff (reason : OffReason) (s : State) : State :=
  let old := s
  let s := openAllSwitches s
  let s := updPpc (fun p => { p with railOn := false, offReason := reason, waiting := none }) s
  let s := pathChanged old s
  let s := deliver (.blcRailChange false) s
  let s := setDown .B (setDown .A s)
  let s := releaseReleasing .B (releaseReleasing .A s)
  arbitrate (endTransfer false s)

/-- The rail goes OFF and a forced-release grace ends with it (R40): the bay of the record is released. -/
def railOffReleasing (reason : OffReason) (s : State) : State :=
  match s.ppc.forced with
  | some f => goReleased f.bay (railOff reason (clearForced s))
  | none => railOff reason s

/-- The bridge timer has reached P13 (R30): the main rail goes OFF with reason BRIDGE_EXPIRED. -/
def bridgeExpired (s : State) : State :=
  if s.ppc.bridgeTimer.isSome then graceLeft (railOff .bridgeExpired s) else s

/-! ### Presence lost (R22) -/

/-- The pack of a locked bay is gone (R22): both switches open, the bay enters EMPTY with FORCED_REMOVAL, its session stops, and a
transfer it took part in, its feeding and its grace follow their rules. -/
def forcedRemoval (b : Bay) (s : State) : State :=
  let r := bayOf s b
  let target := isTransferTarget s b
  let source := isTransferSource s b
  let s := setSwitch (.bay b) false (updBay b (fun r => { r with charge := false }) s)
  let s := raise (.forcedRemoval b r.state) (enterBay b .empty s)
  let s := clearForcedOf b s
  let s := sessionStopped b none s
  if target then targetLost .removal s
  else if source then
    match s.ppc.transfer with
    | some t => if t.phase = .overlap then endTransfer true s else s
    | none => s
  else if r.discharge then unplannedTransfer (.bay b) .removal s
  else s

/-! ### DC presence (R14) -/

/-- DC has become PRESENT (R14): DC_ATTACHED, then the grace's test (R40) and source selection (R23). -/
def dcArrived (s : State) : State := selectSource (graceTest (raise (.dcAttached s.ppc.vdc) s))

/-- DC has become ABSENT (R14): DC_DETACHED, attach pending cleared, the CC and the Budget Unit told; then a lost target, an
unplanned transfer or a selection. -/
def dcGone (s : State) : State :=
  let s := raise (.dcDetached s.ppc.vdc) s
  let s := if attachPending s then setWaiting none s else s
  let s := tellBudget (chargerLosesDc s)
  let target : Bool := match s.ppc.transfer with
    | some t => t.target == .dc
    | none => false
  let feeding := s.ppc.dcSwitch
  let s := setSwitch .dc false s
  if target then targetLost .dcLoss (stopAllCharging s)
  else if feeding then unplannedTransfer .dc .dcLoss s
  else selectSource (stopAllCharging s)

end Sys2Proof.Machine
end

