-- ==== Sys2Proof/Machine/Budget.lean ====
section
/-! DEFINITION. The Budget Unit (chapter 5): the case, the budget and its derating, the power cap level, the swap flag, the
publication and the capped mark. -/

namespace Sys2Proof.Machine

/-- The state with the budget record changed. -/
def updBu (f : Bu → Bu) (s : State) : State := { s with bu := f s.bu }

/-- The case, in the order R92 tests. -/
def budgetCase (s : State) : BudgetCase :=
  if !s.ppc.railOn then .railOff
  else if bridging s then .bridging
  else
    match s.ppc.dcSwitch, (bayOf s .A).discharge, (bayOf s .B).discharge with
    | true, false, false => .dc
    | false, true, false => .bayA
    | false, false, true => .bayB
    | _, _, _ => .overlap

/-- The discharge current of a bay: its matched profile's, or 1,000 mA when it has none (R77, R94). -/
def dischargeCurrent (s : State) (b : Bay) : Nat := ((bayProfile s b).map Profile.maxDischarge).getD 1000

/-- Whether the low-charge step applies to a bay (R94, step 2). -/
def lowCharge (s : State) (b : Bay) : Bool := (bayOf s b).telemetry.isSome && decide (chargeOf s b < paramN s 31)

/-- A bay's allowance, in mW (R94). -/
def allowance (s : State) (b : Bay) : Nat :=
  let voltage := ((bayOf s b).telemetry.map Telemetry.voltage).getD 0
  let base := voltage * dischargeCurrent s b / 1000
  let low := if lowCharge s b then base / 2 else base
  if (bayOf s b).telemetryLost then low / 2 else low

/-- The derating steps that applied to a bay (R94). -/
def deratingOf (s : State) (b : Bay) : Derating :=
  match lowCharge s b, (bayOf s b).telemetryLost with
  | false, false => .none
  | true, false => .lowCharge
  | false, true => .telemetryLost
  | true, true => .both

/-- The charger's draw on the DC budget: charge voltage times charge current of an ACTIVE session (R93). -/
def chargerDraw (s : State) : Nat :=
  match s.cc.session with
  | .active _ _ v => v.chargeVoltage * v.chargeCurrent / 1000
  | _ => 0

/-- The budget one feeding source gives during an overlap, 0 for one that does not feed (R95). -/
def overlapShare (s : State) (x : Source) : Nat :=
  if switchClosed s x then
    match x with
    | .dc => paramN s 17
    | .bay b => allowance s b
  else 0

/-- The power budget B, in mW (R92 to R95). -/
def budgetOf (s : State) : Nat :=
  match budgetCase s with
  | .railOff => 0
  | .bridging => 0
  | .dc => paramN s 17 - chargerDraw s
  | .bayA => allowance s .A
  | .bayB => allowance s .B
  | .overlap => max (overlapShare s .dc) (max (overlapShare s (.bay .A)) (overlapShare s (.bay .B)))

/-- The derating field of a bay: absent unless the case is BAY_A, BAY_B or OVERLAP and the bay feeds (R90). -/
def deratingField (s : State) (b : Bay) : Option Derating :=
  match budgetCase s with
  | .bayA => if b = .A then some (deratingOf s .A) else none
  | .bayB => if b = .B then some (deratingOf s .B) else none
  | .overlap => if (bayOf s b).discharge then some (deratingOf s b) else none
  | _ => none

/-- The backlight allowance A, in mW (R96, step 1). -/
def backlightAllowance (s : State) (budget : Nat) : Nat := budget - paramN s 18

/-- The power cap level P (R96). -/
def powerCapOf (s : State) (budget : Nat) : Nat := min (backlightAllowance s budget * 1000 / paramN s 19) 1000

/-- The three conditions of the swap flag, in R97's order: a bay in RELEASING, bridging, a filled forced-release record. -/
def swapConditions (s : State) : List Bool :=
  [(bayOf s .A).state == .releasing || (bayOf s .B).state == .releasing, bridging s, s.ppc.forced.isSome]

/-- The swap flag (R97). -/
def swapFlagOf (s : State) : Bool := (swapConditions s).any id

/-- The budget's own cap Cb (R99). -/
def budgetCap (s : State) : Nat := if s.bu.swapFlag then min s.bu.powerCap (paramN s 21) else s.bu.powerCap

/-- The budget ceiling (R99). -/
def budgetCeiling (s : State) : Nat := max (paramN s 20) (budgetCap s)

/-- The capped mark is evaluated against the demand held (R99). -/
def evaluateCapped (s : State) : State :=
  let below := decide (budgetCeiling s < s.bu.demand)
  raiseIf (below != s.bu.capped) (.backlightCapped below s.bu.demand s.bu.powerCap s.bu.swapFlag)
    (updBu (fun r => { r with capped := below }) s)

/-- The record's computed fields from the state as it stands (R91 to R97). -/
def computeBudget (s : State) : State :=
  updBu (fun r => { r with
    case := budgetCase s, budget := budgetOf s, derating := ⟨deratingField s .A, deratingField s .B⟩,
    powerCap := powerCapOf s (budgetOf s), swapFlag := swapFlagOf s }) s

/-- The pair is handed to the Backlight Controller (R98). -/
def publish (s : State) : State :=
  deliver (.blcPublication s.bu.powerCap s.bu.swapFlag)
    (updBu (fun r => { r with publishedCap := r.powerCap, publishedSwap := r.swapFlag }) s)

/-- A pair that differs from the one published is handed (R98). -/
def publishIfChanged (s : State) : State :=
  if s.bu.powerCap = s.bu.publishedCap ∧ s.bu.swapFlag = s.bu.publishedSwap then s else publish s

/-- One full recomputation (R91): the record, publication, and the capped evaluation. -/
def recomputeBudget (s : State) : State := evaluateCapped (publishIfChanged (computeBudget s))

/-- The Budget Unit takes a demand (R99). -/
def takeDemand (demand : Nat) (s : State) : State := evaluateCapped (updBu (fun r => { r with demand := demand }) s)

/-- The Budget Unit's part of a management reset (R90): the record recomputed, the pair handed again whether or not it differs,
the capped mark cleared and then evaluated. -/
def resetBudget (s : State) : State :=
  evaluateCapped (updBu (fun r => { r with capped := false }) (publish (computeBudget s)))

end Sys2Proof.Machine
end

