-- ==== Sys2Proof/Machine/Backlight.lean ====
section
/-! DEFINITION. The Backlight Controller (chapter 6): fusion and the filter, the curve, hysteresis, the offset and the override
stack, the caps, the target, the output level and the ramp. -/

namespace Sys2Proof.Machine

/-- The state with the BLC changed. -/
def updBlc (f : Blc → Blc) (s : State) : State := { s with blc := f s.blc }

/-- The record of a light sensor. -/
def sensorOf (c : Blc) : LightSensor → SensorRecord
  | .front => c.front
  | .rear => c.rear

/-- The BLC with a light sensor's record replaced. -/
def setSensor (c : Blc) (x : LightSensor) (r : SensorRecord) : Blc :=
  match x with
  | .front => { c with front := r }
  | .rear => { c with rear := r }

/-- The other light sensor. -/
def otherSensor : LightSensor → LightSensor
  | .front => .rear
  | .rear => .front

/-! ### Fusion and the filter (R104, R106) -/

/-- What a sensor enters the fusion with: its latest sample, or 0 if it is failed or has none (R104). -/
def fusedSample (r : SensorRecord) : Nat := if r.failed then 0 else r.sample.getD 0

/-- The fused ambient light E (R104). -/
def fuse (s : State) : Nat := max (fusedSample s.blc.front) (fusedSample s.blc.rear * paramN s 23 / 16)

/-- The step of the filter for a delta and the two shifts (R106): delta / 2^k truncated toward zero, or ±1 where that is 0 and
delta is not. -/
def filterDelta (delta : Int) (rise fall : Nat) : Int :=
  let k := if 0 < delta then rise else fall
  let step := delta.tdiv (2 ^ k)
  if step = 0 then (if 0 < delta then 1 else if delta < 0 then -1 else 0) else step

/-- F after a filter step (R106). -/
def filterNext (f e rise fall : Nat) : Nat := ((f : Int) + filterDelta (16 * (e : Int) - f) rise fall).toNat

/-! ### The curve (R109) and hysteresis (R111) -/

/-- The points in use. -/
def Curve.used (c : Curve) : List (Nat × Nat) := c.points.take c.count

/-- The curve level over the points from the last whose lux is at or below L: between two points by interpolation, truncated; at
or above the last point, its level (R109). -/
def curveFrom (l : Nat) : Nat × Nat → List (Nat × Nat) → Nat
  | p, [] => p.2
  | p, q :: rest =>
    if q.1 ≤ l then curveFrom l q rest else p.2 + (q.2 - p.2) * (l - p.1) / (q.1 - p.1)

/-- The curve level Tc for a filtered light (R109). -/
def curveLevelAt (c : Curve) (l : Nat) : Nat :=
  match c.used with
  | [] => 0
  | p :: rest => if l ≤ p.1 then p.2 else curveFrom l p rest

/-- Whether a level is that of the first or of the last point in use (R111). -/
def endLevel (c : Curve) (level : Nat) : Bool :=
  (c.used.head?.map Prod.snd) == some level || (c.used.getLast?.map Prod.snd) == some level

/-- The held target after a filter step (R111). -/
def heldNext (c : Curve) (band tc th : Nat) : Nat :=
  if band ≤ ((tc : Int) - th).natAbs then tc else if endLevel c tc && tc != th then tc else th

/-! ### The user level, the caps and the target (R112, R115, R116, R118, R119) -/

/-- Tu, the held target with the offset (R112). -/
def heldWithOffset (s : State) : Nat := (clampInt 0 1000 ((s.blc.held : Int) + s.blc.offset)).toNat

/-- The user level U (R115). -/
def userLevel (s : State) : Nat := s.blc.stack.head?.getD (heldWithOffset s)

/-- The thermal cap for a temperature (R116). -/
def thermalCapFor (s : State) (t : Int) : Nat :=
  let start := param s 28
  let stop := param s 29
  let least := paramN s 30
  if stop ≤ start then 1000
  else if t ≤ start then 1000
  else if stop ≤ t then least
  else 1000 - (1000 - least) * (t - start).toNat / (stop - start).toNat

/-- The thermal cap as it stands: Cmin while the temperature-silent mark is set, otherwise from the stored temperature (R116,
R117). -/
def thermalCapNow (s : State) : Nat :=
  if s.blc.tempSilent then paramN s 30
  else
    match s.blc.temperature with
    | some t => thermalCapFor s t
    | none => paramN s 30

/-- The stored publication, (0, off) until the first is taken (R118, assumption 26). -/
def publication (s : State) : Nat × Bool := s.blc.publication.getD (0, false)

/-- The effective cap C (R118). -/
def effectiveCap (s : State) : Nat :=
  let c := min s.blc.thermalCap (publication s).1
  if (publication s).2 then min c (paramN s 21) else c

/-- The ceiling K (R122). -/
def ceiling (s : State) : Nat := max (paramN s 20) (effectiveCap s)

/-- Whether the screen is blanked: the rail OFF or the lid closed, as the BLC holds them (R119). -/
def blanked (s : State) : Bool := !s.blc.railOn || s.blc.lidClosed

/-- The target T (R119). -/
def targetOf (s : State) : Nat :=
  if blanked s then 0 else max (paramN s 20) (min (userLevel s) (effectiveCap s))

/-- The demand handed to the Budget Unit (R120). -/
def demandOf (s : State) : Nat := if blanked s then 0 else min (userLevel s) s.blc.thermalCap

/-- The output level after a recomputation of the target (R122). -/
def outputAfter (s : State) (target : Nat) : Nat :=
  if blanked s then 0 else if ceiling s < s.blc.output then target else s.blc.output

/-- The lid as the ICU has it when the BLC reads it (R8). -/
def readLid (s : State) : State := updBlc (fun c => { c with lidClosed := filtered s .lid }) s

/-- A recomputation of the target from the lid and the rail as the BLC holds them (R119): the target, the demand handed (R120), the
output adjusted (R122). -/
def recomputeHeld (s : State) : State :=
  deliver (.cappedEvaluation (demandOf s))
    (updBlc (fun c => { c with target := targetOf s, demand := demandOf s, output := outputAfter s (targetOf s) }) s)

/-- A recomputation of the target (R119). The lid is read as its filtered state stands (R8, assumption 45). -/
def recomputeTarget (s : State) : State := recomputeHeld (readLid s)

/-- The output level after one ramp tick (R121). -/
def rampNext (output target up down : Nat) : Nat :=
  if output < target then min target (output + up) else if target < output then max target (output - down) else output

/-! ### The filter step (R107) -/

/-- A pending swap of table 1 is made (R110). -/
def swapCurve (s : State) : State :=
  if s.ts.t1.pending then
    raise (.tableApplied 1)
      { s with ts := { s.ts with t1 := { s.ts.t1 with active := s.ts.t1.staging, pending := false } } }
  else s

/-- F, Tc and Th after the fusion (R104, R106, R109, R111). -/
def filterLight (s : State) : State :=
  let f := filterNext s.blc.filter (fuse s) (paramN s 24) (paramN s 25)
  let tc := curveLevelAt s.ts.t1.active (f / 16)
  updBlc (fun c => { c with
    filter := f, curveLevel := tc, held := heldNext s.ts.t1.active (paramN s 22) tc c.held }) s

/-- The LIGHT frame of a step (R124). -/
def lightFrame (src : LightSensor) (s : State) : Traffic :=
  .light src s.blc.front s.blc.rear (filteredLight s.blc) s.blc.curveLevel s.blc.target (effectiveCap s) s.blc.output

/-- One filter step, driven by a sample of a sensor (R107). -/
def filterStep (src : LightSensor) (s : State) : State :=
  let s := recomputeTarget (filterLight (swapCurve s))
  handTraffic (lightFrame src s) s

/-- A light sample is stored (R101). -/
def storeLight (x : LightSensor) (lux : Nat) (saturated : Bool) (s : State) : State :=
  updBlc (fun c => setSensor c x ⟨some (if saturated then 131071 else lux), saturated, false, some 0⟩) s

/-- A light sensor fails (R102): its mark is set and AMBIENT_FAIL raised. -/
def failSensor (x : LightSensor) (s : State) : State :=
  raise (.ambientFail x (sensorOf s.blc (otherSensor x)).failed)
    (updBlc (fun c => setSensor c x { sensorOf c x with failed := true }) s)

/-- A sensor that is not failed and whose timer has reached P38 fails (R102). -/
def failIfSilent (x : LightSensor) (s : State) : State :=
  match (sensorOf s.blc x).silence with
  | some e => if !(sensorOf s.blc x).failed && decide (ms (paramN s 38) ≤ e) then failSensor x s else s
  | none => s

/-- The thermal cap recomputed as it stands (R116, R117). -/
def refreshThermalCap (s : State) : State := updBlc (fun c => { c with thermalCap := thermalCapNow s }) s

/-- The override stack is emptied (R115): an empty stack changes and recomputes nothing. -/
def emptyStack (s : State) : State :=
  if s.blc.stack.isEmpty then s else recomputeTarget (updBlc (fun c => { c with stack := [] }) s)

/-- The BLC's part of a management reset (R127): stack emptied, offset 0, the target recomputed once. -/
def resetBacklight (s : State) : State := recomputeTarget (updBlc (fun c => { c with stack := [], offset := 0 }) s)

end Sys2Proof.Machine
end

