-- ==== Sys2Proof/Machine/Inputs.lean ====
section
/-! DEFINITION. The Input Conditioning Unit (chapter 1): raw levels and stability timers, accepting a change, delivering its edges,
and a change of filter length. -/

namespace Sys2Proof.Machine

/-- The state with the ICU changed. -/
def updIcu (f : Icu → Icu) (s : State) : State := { s with icu := f s.icu }

/-- A raw level is taken (R3): the timer starts where it now differs from the filtered state and was stopped, and stops where the
two are equal. -/
def takeRaw (level : Bool) (r : InputState) : InputState :=
  { r with raw := level, timer := if level = r.filtered then none else some (r.timer.getD 0) }

/-- A change of an input's raw level (R3). In the settle interval the ICU ignores its pins: the level alone changes (R2). -/
def rawLevel (i : Input) (level : Bool) (s : State) : State :=
  if s.settling.isSome then updIcu (fun c => setInput c i { inputOf c i with raw := level }) s
  else updIcu (fun c => setInput c i (takeRaw level (inputOf c i))) s

/-- The events an accepted change delivers (R1, R7). The BBC acts on PRES falling alone, and DOCK's edges go to no block (assumption 35).
PRES falling stands for the PPC before it stands for the BBC (assumption 36). -/
def edgesOf (i : Input) (asserted : Bool) : List Instr :=
  match i, asserted with
  | .presA, true => [.ppcPresRising .A]
  | .presA, false => [.ppcPresFalling .A, .bbcPresFalling .A]
  | .latchA, true => [.ppcLatchRising .A]
  | .latchA, false => [.ppcLatchFalling .A]
  | .relA, true => [.ppcRelRising .A]
  | .relA, false => [.ppcRelFalling .A]
  | .presB, true => [.ppcPresRising .B]
  | .presB, false => [.ppcPresFalling .B, .bbcPresFalling .B]
  | .latchB, true => [.ppcLatchRising .B]
  | .latchB, false => [.ppcLatchFalling .B]
  | .relB, true => [.ppcRelRising .B]
  | .relB, false => [.ppcRelFalling .B]
  | .lid, closed => [.blcLidEdge closed]
  | .dock, _ => []

/-- Several events handed, in order. -/
def deliverAll (es : List Instr) (s : State) : State := { s with delivered := s.delivered ++ es }

/-- A candidate change is accepted (R3): the filtered state takes the raw level, the timer stops and the edge is delivered. -/
def acceptInput (i : Input) (s : State) : State :=
  let r := inputOf s.icu i
  deliverAll (edgesOf i r.raw) (updIcu (fun c => setInput c i ⟨r.raw, r.raw, none⟩) s)

/-- A running stability timer has reached the filter length (R3). -/
def stabilityExpired (i : Input) (s : State) : State :=
  if (inputOf s.icu i).timer.isSome then acceptInput i s else s

/-- The eight inputs in the order of R1. -/
def allInputs : List Input := [.presA, .latchA, .relA, .presB, .latchB, .relB, .lid, .dock]

/-- Whether an input's running timer has reached the filter length in use (R3). -/
def timerReached (c : Icu) (i : Input) : Bool :=
  match (inputOf c i).timer with
  | some e => decide (ms (filterLength c i) ≤ e)
  | none => false

/-- An input meets a new filter length (R5): a change whose elapsed time has reached it is accepted at once. -/
def meetLength (old : Icu) (s : State) (i : Input) : State :=
  if filterLength s.icu i ≠ filterLength old i ∧ timerReached s.icu i then acceptInput i s else s

/-- The filter lengths in use as the hold and the active copy of table 0 give them (R4). -/
def currentLengths (s : State) (c : Icu) : Icu :=
  { c with bayLength := if c.hold then paramN s 10 else paramN s 9, housingLength := paramN s 45 }

/-- The ICU takes new filter lengths (R5, R6). Inputs accepted at the one change hand their edges over in the order of R1's table
(assumption 36). -/
def relength (f : Icu → Icu) (s : State) : State :=
  let t := updIcu f s
  allInputs.foldl (meetLength s.icu) t

/-- A change of filter length by its cause (R4 to R6): the start or the drop of the hold changes the bay length, a table 0 apply
whichever length has changed. -/
def newLengths (s : State) (cause : LengthCause) (c : Icu) : Icu :=
  match cause with
  | .holdStart => { c with hold := true, bayLength := paramN s 10 }
  | .holdDrop => { c with hold := false, bayLength := paramN s 9 }
  | .table0 => currentLengths s c

/-- The ICU takes a filter length change. -/
def changeLengths (cause : LengthCause) (s : State) : State := relength (newLengths s cause) s

/-- The ICU at the end of the settle interval (R2): an asserted raw level starts its timer from 0. -/
def startInput (c : Icu) (i : Input) : Icu :=
  let r := inputOf c i
  setInput c i { r with timer := if r.raw then some 0 else none }

end Sys2Proof.Machine
end

