-- ==== Sys2Proof/Machine/DropLog.lean ====
section
/-! DEFINITION. The Drop Log (chapter 8): classification by table 2, the log and its limits, taking an event's hand-over and its
close. -/

namespace Sys2Proof.Machine

/-- The state with the DL changed. -/
def updDl (f : Dl → Dl) (s : State) : State := { s with dl := f s.dl }

/-- What the Shock Monitor hands over with an event (R137). -/
structure HandOver where
  outcome : DropOutcome
  fallCount : Nat
  height : Nat
  peak : Nat
  impacts : Nat
  truncated : Bool
  snapshot : Snapshot
  deriving DecidableEq, Repr

/-! ### Classification (R153) -/

/-- What a classification gives: the class, the severity and the four actions. -/
structure Verdict where
  eventClass : Nat
  severity : Nat
  log : Bool
  preserve : Bool
  markPacks : Bool
  keepQuiesce : Bool
  deriving DecidableEq, Repr

/-- Whether an entry of table 2 takes an event (R153). -/
def ClassEntry.accepts (e : ClassEntry) (h : HandOver) : Bool :=
  e.valid && window e.heightLow e.heightHigh h.height && window e.peakLow e.peakHigh h.peak
    && e.fall.holds (decide (0 < h.fallCount)) && e.lidClosed.holds h.snapshot.lidClosed && e.docked.holds h.snapshot.docked
    && e.dcPresent.holds h.snapshot.dcPresent && e.bayAOccupied.holds h.snapshot.bayAOccupied
    && e.bayBOccupied.holds h.snapshot.bayBOccupied

/-- The search from an index on: the first entry that takes the event, or class 255 with log alone (R153). -/
def classifyFrom (h : HandOver) : Nat → List ClassEntry → Verdict
  | _, [] => ⟨255, 0, true, false, false, false⟩
  | i, e :: rest =>
    if e.accepts h then ⟨i, e.severity, e.log, e.preserve, e.markPacks, e.keepQuiesce⟩ else classifyFrom h (i + 1) rest

/-- The classification of an event by the active copy of table 2 (R153). -/
def classify (s : State) (h : HandOver) : Verdict := classifyFrom h 0 s.ts.t2.active

/-! ### The log (R155, R156) -/

/-- How many records carry PRESERVED. -/
def preservedCount (log : List DropRecord) : Nat := log.countP DropRecord.preserved

/-- The log with the PRESERVED flag of its oldest preserved record cleared (R155, step 1). -/
def giveUpOldest : List DropRecord → List DropRecord
  | [] => []
  | r :: rest => if r.preserved then { r with preserved := false } :: rest else r :: giveUpOldest rest

/-- The log without its oldest record that is not preserved (R155, step 2). -/
def evictOldest : List DropRecord → List DropRecord
  | [] => []
  | r :: rest => if r.preserved then r :: evictOldest rest else rest

/-- The log after a record is stored, in the order of R155. -/
def storeRecord (r : DropRecord) (log : List DropRecord) : List DropRecord :=
  let kept := if r.preserved && decide (16 ≤ preservedCount log) then giveUpOldest log else log
  let room := if 32 ≤ kept.length then evictOldest kept else kept
  room ++ [r]

/-- The limit at which no further record is stored (R156). -/
def sequenceLimit : Nat := 4294967295

/-- The record of an event (R157, step 2). -/
def newRecord (s : State) (h : HandOver) (v : Verdict) : DropRecord where
  sequence := s.dl.nextSequence
  clockSeconds := s.dl.clock
  clockValid := s.dl.clockValid
  outcome := h.outcome
  eventClass := v.eventClass
  severity := v.severity
  fallCount := h.fallCount
  height := h.height
  peak := h.peak
  impacts := h.impacts
  unsettled := false
  truncated := h.truncated
  ejectedA := false
  ejectedB := false
  preserved := v.preserve
  isOpen := true
  snapshot := h.snapshot

/-- A record is stored, takes its number, and the open reference names it; DROP_RECORDED is raised (R155 to R157). -/
def keepRecord (r : DropRecord) (s : State) : State :=
  raise (.dropRecorded r) (updDl (fun d => { d with
    log := storeRecord r d.log, nextSequence := d.nextSequence + 1, openReference := some r.sequence }) s)

/-- The serials a snapshot holds, bay A's first. -/
def Snapshot.serials (c : Snapshot) : List Nat := c.bayASerial.toList ++ c.bayBSerial.toList

/-- The storing of R157, step 2; without a record the open reference is absent (R158). -/
def storeEvent (h : HandOver) (v : Verdict) (s : State) : State :=
  if v.log && decide (s.dl.nextSequence < sequenceLimit) then keepRecord (newRecord s h v) s
  else updDl (fun d => { d with openReference := none }) s

/-- The marking of R157, step 3: the open reference is the record's number, or none. -/
def markEvent (h : HandOver) (v : Verdict) (s : State) : State :=
  if v.markPacks then markPacks h.snapshot.serials s.dl.openReference s else s

/-- An event is handed over (R157); answers whether its class keeps quiesce. -/
def takeEvent (h : HandOver) (s : State) : State × Bool :=
  let v := classify s h
  (markEvent h v (storeEvent h v s), v.keepQuiesce)

/-! ### The close (R159) -/

/-- A record completed by its event's close (R159). -/
def completedRecord (s : State) (e : Ending) (r : DropRecord) : DropRecord :=
  { r with
    unsettled := r.unsettled || e == .unsettled
    ejectedA := r.ejectedA || (r.snapshot.bayASerial.isSome && (bayOf s .A).state == .empty)
    ejectedB := r.ejectedB || (r.snapshot.bayBSerial.isSome && (bayOf s .B).state == .empty)
    isOpen := false }

/-- The close of an event is handed over (R159). -/
def closeRecord (e : Ending) (s : State) : State :=
  match s.dl.openReference with
  | none => s
  | some n => updDl (fun d => { d with
      log := d.log.map fun r => if r.sequence = n then completedRecord s e r else r, openReference := none }) s

end Sys2Proof.Machine
end

