-- ==== Sys2Proof/Machine/Shock.lean ====
section
/-! DEFINITION. The Shock Monitor (chapter 7): the squared magnitude and its bands, beginning an event, the hand-over, settling,
the close, the shock hold and the quiesce line, sensor loss and motion forwarding. -/

namespace Sys2Proof.Machine

/-- The state with the SHM changed. -/
def updShm (f : Shm → Shm) (s : State) : State := { s with shm := f s.shm }

/-! ### Magnitude, bands, peak and height (R129, R136) -/

/-- The squared magnitude of a sample (R129). -/
def squaredMagnitude (x y z : Int) : Nat := (x * x + y * y + z * z).toNat

/-- The three bands of a sample (R129). -/
inductive Band where
  | freeFall
  | middle
  | impact
  deriving DecidableEq, Repr

/-- The band of a squared magnitude (R129). -/
def bandOf (s : State) (m2 : Nat) : Band :=
  if m2 < paramN s 0 ^ 2 then .freeFall else if m2 < paramN s 3 ^ 2 then .middle else .impact

/-- Whether a squared magnitude is a rest sample (R129): the rest band is disabled when P6 does not exceed P5. -/
def isRest (s : State) (m2 : Nat) : Bool :=
  decide (paramN s 6 ≤ paramN s 5) || (decide (paramN s 5 ^ 2 ≤ m2) && decide (m2 ≤ paramN s 6 ^ 2))

/-- The root found so far, with the bits below a place still to be tried. -/
def rootFrom (m : Nat) : Nat → Nat → Nat
  | 0, r => r
  | k + 1, r => rootFrom m k (if (r + 2 ^ k) * (r + 2 ^ k) ≤ m then r + 2 ^ k else r)

/-- The peak: the largest integer whose square does not exceed the peak m2 (R136), which is below 2^32. -/
def peakOf (m2 : Nat) : Nat := rootFrom m2 16 0

/-- The height in mm of a fall of n samples (R136). -/
def heightOf (n : Nat) : Nat := n * n * 4903 / 640000

/-! ### Table 2's swap (R148, R176) -/

/-- A pending swap of table 2 is made and TABLE_APPLIED raised. -/
def swapClasses (s : State) : State :=
  if s.ts.t2.pending then
    raise (.tableApplied 2)
      { s with ts := { s.ts with t2 := { s.ts.t2 with active := s.ts.t2.staging, pending := false } } }
  else s

/-- The SHM enters IDLE, UNAVAILABLE or DISARMED with q at 0, and reports the entry to the Table Store (R140, R146, R148). -/
def enterQuiet (st : ShmState) (s : State) : State := swapClasses (updShm (fun m => { m with state := st, qualify := 0 }) s)

/-! ### An event begins (R132, R133) -/

/-- The context snapshot as things stand (R133). -/
def takeSnapshot (s : State) : Snapshot where
  lidClosed := filtered s .lid
  docked := filtered s .dock
  dcPresent := dcPresent s
  bayAOccupied := (bayOf s .A).state != .empty
  bayASerial := serialOf s .A
  bayBOccupied := (bayOf s .B).state != .empty
  bayBSerial := serialOf s .B

/-- The monitor's record of a new event (R131, R132, R136). -/
def beginRecord (st : ShmState) (n m2 : Nat) (c : Snapshot) (m : Shm) : Shm :=
  { m with
    state := st, qualify := 0, fallCount := n, grace := 0, rest := 0, peakM2 := m2, settleTimer := none
    window := if st = .impact then 1 else 0
    impacts := if st = .impact then 1 else 0
    outcome := if st = .impact then some .knock else none
    snapshot := some c, handedOver := false, quiesceLine := true }

/-- The start of the shock hold is handed to the ICU and then to the PPC, unless the hold is active already (R132, R141). R142 lets
neither wait for the other; the order is the model's (assumption 55). -/
def deliverHoldStart (s : State) : State :=
  if shockHold s then s else deliver .ppcShockHoldStart (deliver (.filterLengthChange .holdStart) s)

/-- An event begins (R132): snapshot, hold, quiesce line, peak, FREEFALL for a fall. -/
def beginEvent (st : ShmState) (n m2 : Nat) (s : State) : State :=
  let c := takeSnapshot s
  raiseIf (st == .falling) (.freefall n c) (updShm (beginRecord st n m2 c) (deliverHoldStart s))

/-! ### The hand-over (R137) -/

/-- The snapshot of the event in progress. -/
def eventSnapshot (s : State) : Snapshot := s.shm.snapshot.getD ⟨false, false, false, false, none, false, none⟩

/-- What is handed over of the event in progress (R137). -/
def handOverOf (s : State) (o : DropOutcome) (impacts : Nat) (truncated : Bool) : HandOver :=
  ⟨o, s.shm.fallCount, heightOf s.shm.fallCount, peakOf s.shm.peakM2, impacts, truncated, eventSnapshot s⟩

/-- The event is handed to the Drop Log, and the quiesce-kept mark set where its class keeps quiesce (R137). -/
def handOver (o : DropOutcome) (impacts : Nat) (truncated : Bool) (s : State) : State :=
  let r := takeEvent (handOverOf s o impacts truncated) s
  updShm (fun m => { m with handedOver := true, quiesceKept := m.quiesceKept || r.2 }) r.1

/-- SETTLING is entered (R138). -/
def enterSettling (s : State) : State :=
  updShm (fun m => { m with state := .settling, rest := 0, qualify := 0, settleTimer := some 0 }) s

/-! ### The close (R140) -/

/-- The hold drops, SHOCK_HOLD_END is raised and the quiesce line released unless kept (R140, steps 3 and 4); no event is in
progress afterwards. The ICU is handed the drop before the PPC, so that idle steps let the PPC take the hold's end before the bay edges
accepted at it; R5 and R142 leave that open (assumption 55). -/
def dropHold (e : Ending) (outcome : Option DropOutcome) (s : State) : State :=
  let s := deliver .ppcShockHoldEnd (deliver (.filterLengthChange .holdDrop) s)
  updShm (fun m => { m with quiesceLine := m.quiesceKept, outcome := none })
    (raise (.shockHoldEnd e outcome s.shm.quiesceKept) s)

/-- The monitor leaves the event states for IDLE or UNAVAILABLE (R140, steps 2 to 4). -/
def leaveEvent (e : Ending) (st : ShmState) (s : State) : State :=
  dropHold e s.shm.outcome (enterQuiet st (updShm (fun m => { m with settleTimer := none }) s))

/-- An event is closed (R140). -/
def closeEvent (e : Ending) (st : ShmState) (s : State) : State := leaveEvent e st (closeRecord e s)

/-! ### Samples by state (R131, R134 to R136, R138, R141, R145) -/

/-- The impact window's end (R136). -/
def windowEnd (s : State) : State := enterSettling (handOver (s.shm.outcome.getD .drop) s.shm.impacts false s)

/-- The window is tested after a sample has been counted into it (R136). -/
def testWindow (s : State) : State := if paramN s 4 ≤ s.shm.window then windowEnd s else s

/-- A sample in IDLE (R131). -/
def sampleIdle (m2 : Nat) (s : State) : State :=
  match bandOf s m2 with
  | .impact => testWindow (beginEvent .impact 0 m2 s)
  | .middle => updShm (fun m => { m with qualify := 0 }) s
  | .freeFall =>
    let q := s.shm.qualify + 1
    if paramN s 1 ≤ q then beginEvent .falling q m2 s else updShm (fun m => { m with qualify := q }) s

/-- The fall has ended without an impact (R135). -/
def caughtFall (s : State) : State :=
  enterSettling (handOver .caught 0 false
    (updShm (fun m => { m with outcome := some .caught, fallCount := m.fallCount - m.grace }) s))

/-- A sample in FALLING (R134). -/
def sampleFalling (m2 : Nat) (s : State) : State :=
  let s := updShm (fun m => { m with peakM2 := max m.peakM2 m2 }) s
  match bandOf s m2 with
  | .freeFall => updShm (fun m => { m with fallCount := min (m.fallCount + 1) 1023, grace := 0 }) s
  | .middle =>
    let s := updShm (fun m => { m with fallCount := min (m.fallCount + 1) 1023, grace := m.grace + 1 }) s
    if paramN s 2 < s.shm.grace then caughtFall s else s
  | .impact => testWindow (updShm (fun m => { m with state := .impact, outcome := some .drop, window := 1, impacts := 1 }) s)

/-- A sample in IMPACT (R136). -/
def sampleImpact (m2 : Nat) (s : State) : State :=
  let hit := bandOf s m2 == .impact
  testWindow (updShm (fun m => { m with
    window := m.window + 1, impacts := if hit then m.impacts + 1 else m.impacts, peakM2 := max m.peakM2 m2 }) s)

/-- The machine falls again before it came to rest (R141). -/
def fallAgain (q m2 : Nat) (s : State) : State := beginEvent .falling q m2 (closeRecord .unsettled s)

/-- A sample in SETTLING (R138, R141): the rest run first (assumption 37), then q as in IDLE. An impact sample that lies in the rest
band, or meets a disabled one, counts as a rest sample (assumption 56). -/
def sampleSettling (m2 : Nat) (s : State) : State :=
  let r := if isRest s m2 then s.shm.rest + 1 else 0
  let q := if bandOf s m2 = .freeFall then s.shm.qualify + 1 else 0
  if isRest s m2 && decide (paramN s 7 ≤ r) then closeEvent .settled .idle (updShm (fun m => { m with rest := r }) s)
  else if bandOf s m2 = .freeFall ∧ paramN s 1 ≤ q then fallAgain q m2 (updShm (fun m => { m with rest := r }) s)
  else updShm (fun m => { m with rest := r, qualify := q }) s

/-- A sample taken in the monitor's present state (R128, step 3). -/
def takeSample (m2 : Nat) (s : State) : State :=
  match s.shm.state with
  | .disarmed => s
  | .idle => sampleIdle m2 s
  | .falling => sampleFalling m2 s
  | .impact => sampleImpact m2 s
  | .settling => sampleSettling m2 s
  | .unavailable => sampleIdle m2 (enterQuiet .idle s)

/-! ### Motion forwarding (R130) -/

/-- The decimation counter counts a sample, and a MOTION frame is handed when it reaches P36 (R130). -/
def forwardMotion (x y z : Int) (s : State) : State :=
  let every := paramN s 36
  let d := s.shm.decimation + 1
  if every = 0 then updShm (fun m => { m with decimation := 0 }) s
  else if every ≤ d then handTraffic (.motion x y z s.shm.state) (updShm (fun m => { m with decimation := 0 }) s)
  else updShm (fun m => { m with decimation := d }) s

/-! ### Timeouts (R139, R144) -/

/-- The settle timer has reached P8 (R139). -/
def settleExpired (s : State) : State :=
  if s.shm.state = .settling then closeEvent .unsettled .idle s else s

/-- The sample silence timer has reached 50 ms (R144). -/
def sensorLost (s : State) : State :=
  match s.shm.state with
  | .disarmed => s
  | .idle => enterQuiet .unavailable s
  | .falling => leaveEvent .abandoned .unavailable s
  | .impact => closeEvent .truncated .unavailable (handOver (s.shm.outcome.getD .drop) s.shm.impacts true s)
  | .settling => closeEvent .unsettled .unavailable s
  | .unavailable => s

end Sys2Proof.Machine
end

