-- ==== Sys2Proof/Machine/Tables.lean ====
section
/-! DEFINITION. The Table Store (chapter 9): entries as bytes, write ranges, validation, staging, applying, swapping, discarding
and reading back. -/

namespace Sys2Proof.Machine

/-- The state with the Table Store changed. -/
def updTs (f : TableStore → TableStore) (s : State) : State := { s with ts := f s.ts }

/-- The number of entries of a table (section 9.1); a number of 5 or more names no table. -/
def entryCount : Nat → Nat
  | 0 => 48
  | 1 => 17
  | 2 => 12
  | 3 => 6
  | 4 => 32
  | _ => 0

/-- The length in bytes of a table's entries (R190). -/
def entryLength : Nat → Nat
  | 0 => 4
  | 1 => 6
  | 2 => 17
  | 3 => 22
  | _ => 1

/-- A table's apply-pending mark (R169). -/
def pendingMark (ts : TableStore) : Nat → Bool
  | 0 => ts.t0.pending
  | 1 => ts.t1.pending
  | 2 => ts.t2.pending
  | 3 => ts.t3.pending
  | _ => ts.t4.pending

/-! ### Entries as bytes (R190) -/

/-- A ternary condition's byte: 0 ANY, 1 YES, 2 NO. -/
def Ternary.code : Ternary → Nat
  | .any => 0
  | .yes => 1
  | .no => 2

/-- The ternary condition a byte names. -/
def readTernary (b : Byte) : Option Ternary :=
  if b = 0 then some .any else if b = 1 then some .yes else if b = 2 then some .no else none

/-- Yes is 1 and no is 0; any other byte is outside the range (R152, assumption 10). -/
def readYesNo (b : Byte) : Option Bool := if b = 0 then some false else if b = 1 then some true else none

/-- A point of table 1: lux in 4 bytes and level in 2. -/
def pointBytes (p : Nat × Nat) : List Byte := byte4 p.1 ++ byte2 p.2

/-- The action byte of an entry of table 2: bits 0 to 3. -/
def ClassEntry.actionByte (e : ClassEntry) : List Byte := setByte [e.log, e.preserve, e.markPacks, e.keepQuiesce]

/-- An entry of table 2 as its 17 bytes. -/
def classBytes (e : ClassEntry) : List Byte :=
  markByte e.valid ++ byte2 e.heightLow ++ byte2 e.heightHigh ++ byte2 e.peakLow ++ byte2 e.peakHigh
    ++ byte1 e.fall.code ++ byte1 e.lidClosed.code ++ byte1 e.docked.code ++ byte1 e.dcPresent.code
    ++ byte1 e.bayAOccupied.code ++ byte1 e.bayBOccupied.code ++ byte1 e.severity ++ e.actionByte

/-- An entry of table 3 as its 22 bytes, in the field order of R76. -/
def profileBytes (p : Profile) : List Byte :=
  markByte p.valid ++ byte1 p.chemistry ++ byte2 p.capacityLow ++ byte2 p.capacityHigh ++ byte2 p.voltageLow
    ++ byte2 p.voltageHigh ++ byte2 p.chargeVoltage ++ byte2 p.chargeCurrent ++ byte2 p.terminationCurrent
    ++ byte2s p.tempLow ++ byte2s p.tempHigh ++ byte2 p.maxDischarge

/-- A curve's entry as its 6 bytes: a point, or at index 16 the count with a level of 0. -/
def curveEntryBytes (c : Curve) (i : Nat) : List Byte :=
  if i = 16 then byte4 c.count ++ byte2 0 else pointBytes (c.points.getD i (0, 0))

/-- The copy of a table that a read names (R178). -/
def chosenCopy {α : Type} (staging : Bool) (c : Copies α) : α := if staging then c.staging else c.active

/-- An entry of a table's copy as its bytes (R178, R190). -/
def entryBytes (ts : TableStore) (table index : Nat) (staging : Bool) : List Byte :=
  match table with
  | 0 => byte4s ((chosenCopy staging ts.t0).getD index 0)
  | 1 => curveEntryBytes (chosenCopy staging ts.t1) index
  | 2 => classBytes ((chosenCopy staging ts.t2).getD index blankClass)
  | 3 => profileBytes ((chosenCopy staging ts.t3).getD index defaultProfile)
  | _ => byte1 ((chosenCopy staging ts.t4).getD index 0)

/-! ### Write ranges (R76, R108, R152, R171) -/

/-- The value a write of table 0 stores: one of P23 above 16 is stored as 16; one outside its range is refused (R171). -/
def readParam (index : Nat) (bytes : List Byte) : Option Int :=
  match bytes with
  | [b0, b1, b2, b3] =>
    let v := signed32 (le4 b0 b1 b2 b3)
    let v := if index = 23 ∧ 16 < v then 16 else v
    if paramInRange index v then some v else none
  | _ => none

/-- Whether a point lies in its ranges (R108). -/
def pointInRange (p : Nat × Nat) : Bool := decide (p.1 ≤ 131071) && decide (p.2 ≤ 1000)

/-- The point a write of table 1 stores. -/
def readPoint (bytes : List Byte) : Option (Nat × Nat) :=
  match bytes with
  | [b0, b1, b2, b3, l0, l1] =>
    let p := (le4 b0 b1 b2 b3, le2 l0 l1)
    if pointInRange p then some p else none
  | _ => none

/-- Whether a count lies in its range (R108). -/
def countInRange (n : Nat) : Bool := decide (1 ≤ n) && decide (n ≤ 16)

/-- The count a write of table 1 at index 16 stores: the level field must hold 0 (R190). -/
def readCount (bytes : List Byte) : Option Nat :=
  match bytes with
  | [b0, b1, b2, b3, l0, l1] =>
    if countInRange (le4 b0 b1 b2 b3) ∧ le2 l0 l1 = 0 then some (le4 b0 b1 b2 b3) else none
  | _ => none

/-- Whether the fields of an entry of table 2 lie in their ranges (R152). -/
def classInRange (e : ClassEntry) : Bool :=
  decide (e.heightLow ≤ 65535) && decide (e.heightHigh ≤ 65535) && decide (e.peakLow ≤ 65535) && decide (e.peakHigh ≤ 65535)
    && decide (e.severity ≤ 3)

/-- The six conditions of an entry of table 2. -/
def readConditions (f l d c a b : Byte) : Option (Ternary × Ternary × Ternary × Ternary × Ternary × Ternary) := do
  let f ← readTernary f
  let l ← readTernary l
  let d ← readTernary d
  let c ← readTernary c
  let a ← readTernary a
  let b ← readTernary b
  return (f, l, d, c, a, b)

/-- The entry a write of table 2 stores. Bits 4 to 7 of the action byte must be 0 (assumption 22). -/
def readClass (bytes : List Byte) : Option ClassEntry :=
  match bytes with
  | [v, h0, h1, g0, g1, p0, p1, q0, q1, f, l, d, c, a, b, sev, act] =>
    match readYesNo v, readConditions f l d c a b with
    | some valid, some (f, l, d, c, a, b) =>
      let e : ClassEntry := ⟨valid, le2 h0 h1, le2 g0 g1, le2 p0 p1, le2 q0 q1, f, l, d, c, a, b, sev.toNat,
        act.getLsbD 0, act.getLsbD 1, act.getLsbD 2, act.getLsbD 3⟩
      if classInRange e ∧ act.toNat < 16 then some e else none
    | _, _ => none
  | _ => none

/-- Whether the fields of an entry of table 3 lie in their ranges (R76). -/
def profileInRange (p : Profile) : Bool :=
  (decide (p.chemistry ≤ 15) || p.chemistry == 255)
    && decide (p.capacityLow ≤ 65535) && decide (p.capacityHigh ≤ 65535)
    && decide (p.voltageLow ≤ 65535) && decide (p.voltageHigh ≤ 65535)
    && decide (8000 ≤ p.chargeVoltage) && decide (p.chargeVoltage ≤ 20000)
    && decide (100 ≤ p.chargeCurrent) && decide (p.chargeCurrent ≤ 6000)
    && decide (20 ≤ p.terminationCurrent) && decide (p.terminationCurrent ≤ 1000)
    && decide (-400 ≤ p.tempLow) && decide (p.tempLow ≤ 1250)
    && decide (-400 ≤ p.tempHigh) && decide (p.tempHigh ≤ 1250)
    && decide (500 ≤ p.maxDischarge) && decide (p.maxDischarge ≤ 10000)

/-- The entry a write of table 3 stores. -/
def readProfile (bytes : List Byte) : Option Profile :=
  match bytes with
  | [v, chem, a0, a1, b0, b1, c0, c1, d0, d1, e0, e1, f0, f1, g0, g1, h0, h1, i0, i1, j0, j1] =>
    match readYesNo v with
    | some valid =>
      let p : Profile := ⟨valid, chem.toNat, le2 a0 a1, le2 b0 b1, le2 c0 c1, le2 d0 d1, le2 e0 e1, le2 f0 f1, le2 g0 g1,
        signed16 (le2 h0 h1), signed16 (le2 i0 i1), le2 j0 j1⟩
      if profileInRange p then some p else none
    | none => none
  | _ => none

/-- Whether a level lies in its range: 0 to 7, and 0 alone at indices 29 to 31 (R171). -/
def levelInRange (index level : Nat) : Bool := decide (level ≤ if 29 ≤ index then 0 else 7)

/-- The level a write of table 4 stores. -/
def readLevel (index : Nat) (bytes : List Byte) : Option Nat :=
  match bytes with
  | [b] => if levelInRange index b.toNat then some b.toNat else none
  | _ => none

/-! ### Writing staging (R170) -/

/-- A table's copies with an entry written into staging. -/
def Copies.stage {α : Type} (c : Copies α) (f : α → α) : Copies α := { c with staging := f c.staging }

/-- The staging copy after a write, absent where a field is out of range (R170, steps 5 and 6). -/
def stageEntry (ts : TableStore) (table index : Nat) (bytes : List Byte) : Option TableStore :=
  match table with
  | 0 => (readParam index bytes).map fun v => { ts with t0 := ts.t0.stage fun l => l.set index v }
  | 1 =>
    if index = 16 then (readCount bytes).map fun n => { ts with t1 := ts.t1.stage fun c => { c with count := n } }
    else (readPoint bytes).map fun p => { ts with t1 := ts.t1.stage fun c => { c with points := c.points.set index p } }
  | 2 => (readClass bytes).map fun e => { ts with t2 := ts.t2.stage fun l => l.set index e }
  | 3 => (readProfile bytes).map fun p => { ts with t3 := ts.t3.stage fun l => l.set index p }
  | _ => (readLevel index bytes).map fun v => { ts with t4 := ts.t4.stage fun l => l.set index v }

/-- A TABLE_WRITE by the tests of R170, in their order. -/
def writeEntry (table index : Nat) (bytes : List Byte) (s : State) : Answer :=
  if 4 < table then answer .badValue [] s
  else if entryCount table ≤ index then answer .badIndex [] s
  else if bytes.length ≠ entryLength table then answer .badLength [] s
  else if pendingMark s.ts table then answer .busy [] s
  else
    match stageEntry s.ts table index bytes with
    | none => answer .badValue [] s
    | some ts => answer .ok (entryBytes ts table index true) { s with ts := ts }

/-! ### Validation (R172) -/

/-- The index of the first entry that fails a test, from an index on. -/
def firstBad {α : Type} (good : Nat → α → Bool) : Nat → List α → Option Nat
  | _, [] => none
  | i, x :: rest => if good i x then firstBad good (i + 1) rest else some i

/-- The first point that fails its ranges or does not follow the point before it (R108). -/
def badPoint (i : Nat) (previous : Option (Nat × Nat)) : List (Nat × Nat) → Option Nat
  | [] => none
  | p :: rest =>
    let follows : Bool := match previous with
      | none => true
      | some q => decide (q.1 < p.1) && decide (q.2 ≤ p.2)
    if pointInRange p && follows then badPoint (i + 1) (some p) rest else some i

/-- The first bad entry of a curve: the count before the points in use (R172). -/
def badCurve (c : Curve) : Option Nat :=
  if countInRange c.count then badPoint 0 none c.used else some 16

/-- An entry of table 2 that is valid and preserves also logs (R152). -/
def classSound (e : ClassEntry) : Bool := classInRange e && (!(e.valid && e.preserve) || e.log)

/-- A valid entry of table 3 ends below its charge current (R76). -/
def profileSound (p : Profile) : Bool := profileInRange p && (!p.valid || decide (p.terminationCurrent < p.chargeCurrent))

/-- The first bad entry of a staging copy, if there is one (R172). -/
def firstBadEntry (ts : TableStore) (table : Nat) : Option Nat :=
  match table with
  | 0 => firstBad paramInRange 0 ts.t0.staging
  | 1 => badCurve ts.t1.staging
  | 2 => firstBad (fun _ e => classSound e) 0 ts.t2.staging
  | 3 => firstBad (fun _ p => profileSound p) 0 ts.t3.staging
  | _ => firstBad levelInRange 0 ts.t4.staging

/-! ### Applying (R173 to R176) -/

/-- Copies after a swap (R169). -/
def Copies.swapped {α : Type} (c : Copies α) : Copies α := ⟨c.staging, c.staging, false⟩

/-- Copies with the apply-pending mark set. -/
def Copies.marked {α : Type} (c : Copies α) : Copies α := { c with pending := true }

/-- The indices of table 0 at which staging differs from the active copy. -/
def changedParams (s : State) : List Nat :=
  (List.range 48).filter fun i => s.ts.t0.staging.getD i 0 != s.ts.t0.active.getD i 0

/-- The blocks that read parameters (R174), in the order in which the model hands them a swap; R174 gives none (assumption 55). -/
def parameterBlocks : List Block := [.icu, .ppc, .bbc, .cc, .bu, .blc, .shm, .lu]

/-- Table 0 is swapped at once and the swap delivered to each block (R174). -/
def swapParams (s : State) : State :=
  let events := parameterBlocks.map fun b => Instr.table0SwapDelivery b (changedParams s)
  deliverAll events (raise (.tableApplied 0) (updTs (fun ts => { ts with t0 := ts.t0.swapped }) s))

/-- Table 3 is swapped at once and the swap delivered to the CC and the BU (R78, R175), which are not ordered; the model hands it to the
CC first (assumption 55). -/
def swapProfiles (s : State) : State :=
  deliverAll [.table3SwapDelivery .cc, .table3SwapDelivery .bu]
    (raise (.tableApplied 3) (updTs (fun ts => { ts with t3 := ts.t3.swapped }) s))

/-- Table 4 is swapped at once, and the Link Unit takes the new levels (R174, R186). -/
def swapLevels (s : State) : State :=
  raise (.tableApplied 4) (relevel (updTs (fun ts => { ts with t4 := ts.t4.swapped }) s))

/-- What an apply that passed validation does (R173). -/
def applied (table : Nat) (s : State) : State :=
  match table with
  | 0 => swapParams s
  | 1 => updTs (fun ts => { ts with t1 := ts.t1.marked }) s
  | 2 =>
    let s := updTs (fun ts => { ts with t2 := ts.t2.marked }) s
    if s.shm.state.isEvent then s else swapClasses s
  | 3 => swapProfiles s
  | _ => swapLevels s

/-- A TABLE_APPLY (R172). -/
def applyTable (table : Nat) (s : State) : Answer :=
  if 4 < table then answer .badValue [] s
  else if pendingMark s.ts table then answer .busy [] s
  else
    match firstBadEntry s.ts table with
    | some i => answer .badTable (byte1 i) s
    | none => answer .ok [] (applied table s)

/-! ### Discarding, reading back and reset (R177, R178, R180) -/

/-- Copies with staging as the active copy. -/
def Copies.discarded {α : Type} (c : Copies α) : Copies α := { c with staging := c.active }

/-- A table's staging discarded. -/
def discardStaging (table : Nat) (ts : TableStore) : TableStore :=
  match table with
  | 0 => { ts with t0 := ts.t0.discarded }
  | 1 => { ts with t1 := ts.t1.discarded }
  | 2 => { ts with t2 := ts.t2.discarded }
  | 3 => { ts with t3 := ts.t3.discarded }
  | _ => { ts with t4 := ts.t4.discarded }

/-- A TABLE_DISCARD (R177). -/
def discardTable (table : Nat) (s : State) : Answer :=
  if 4 < table then answer .badValue [] s
  else if pendingMark s.ts table then answer .busy [] s
  else answer .ok [] (updTs (discardStaging table) s)

/-- A TABLE_READ (R178). -/
def readTable (table index copy : Nat) (s : State) : Answer :=
  if 4 < table ∨ 1 < copy then answer .badValue [] s
  else if entryCount table ≤ index then answer .badIndex [] s
  else answer .ok (entryBytes s.ts table index (copy == 1) ++ markByte (pendingMark s.ts table)) s

/-- Copies after a management reset (R180). -/
def Copies.reset {α : Type} (c : Copies α) : Copies α := ⟨c.active, c.active, false⟩

/-- The Table Store's part of a management reset (R180). -/
def resetTables (s : State) : State :=
  updTs (fun ts => ⟨ts.t0.reset, ts.t1.reset, ts.t2.reset, ts.t3.reset, ts.t4.reset⟩) s

end Sys2Proof.Machine
end

