-- ==== Sys2Proof/Machine/StateRead.lean ====
section
/-! DEFINITION. The answers of STATE_READ (R190): the eight parts, their fields in the order their owners list them (R46, R89, R100,
R125, R149, R167), encoded as R183 says. -/

namespace Sys2Proof.Machine

/-- A state of an input: asserted 0, deasserted 1, in the order section 1.2 lists them. -/
def inputByte (s : State) (i : Input) : List Byte := twoStates (filtered s i)

/-- The identity fields of a bay (R15). -/
def identityBytes (d : Identity) : List Byte :=
  byte4 d.serial ++ byte1 d.chemistry ++ byte1 d.cellCount ++ byte2 d.designCapacity ++ byte2 d.designVoltage

/-- The telemetry fields of a bay in the order of R46. -/
def telemetryBytes (t : Telemetry) : List Byte :=
  byte1 t.charge ++ byte2 t.voltage ++ byte2s t.current ++ byte2s t.temperature ++ byte2 t.remainingEnergy
    ++ byte2 t.fullCapacity ++ byte2 t.cycleCount

/-- The fault reason of a state, present while it is FAULTED. -/
def BayState.reason : BayState → Option FaultReason
  | .faulted r => some r
  | _ => none

/-- Parts 0 and 1: a bay (R46). -/
def bayPart (s : State) (b : Bay) : List Byte :=
  let r := bayOf s b
  byte1 r.state.code ++ optional 10 identityBytes r.identity ++ optional 13 telemetryBytes r.telemetry
    ++ markByte r.telemetryLost ++ alarmByte r.alarms ++ optional 1 (fun x => byte1 (FaultReason.code x)) r.state.reason
    ++ optional 1 byte1 r.profile ++ twoStates r.state.locked ++ markByte r.pendingRelease
    ++ timerBytes r.holdTimer ++ timerBytes r.lapseTimer
    ++ inputByte s (presOf b) ++ inputByte s (latchOf b) ++ inputByte s (relOf b)

/-- The transfer record (R25). The source may be absent (assumption 11); the kind is planned 0 or unplanned 1 (assumption 10). -/
def transferBytes (t : Transfer) : List Byte :=
  optional 1 (fun x => byte1 (Source.code x)) t.source ++ byte1 t.target.code ++ byte1 t.method.code ++ byte1 t.phase.code
    ++ twoStates t.planned ++ byte1 t.cause.code

/-- The forced-release record with its grace timer (R39). -/
def forcedBytes (f : ForcedRelease) : List Byte := bayByte f.bay ++ byte2 (elapsedMs f.grace)

/-- Part 2: source and transfer (R46). The feeding sources are a set numbered DC, A, B (DESIGN CHOICE, assumption 61). -/
def sourcePart (s : State) : List Byte :=
  let p := s.ppc
  byte2 p.vdc ++ byte2 p.va ++ byte2 p.vb ++ byte2 p.vres ++ byte1 p.dc.code ++ markByte p.reserveReady
    ++ setByte [p.dcSwitch, (bayOf s .A).discharge, (bayOf s .B).discharge]
    ++ markByte (bridging s) ++ timerBytes p.bridgeTimer ++ twoStates p.railOn ++ byte1 p.offReason.code
    ++ optional 1 (fun w => byte1 (WaitCause.code w)) p.waiting ++ optional 7 transferBytes p.transfer
    ++ optional 3 forcedBytes p.forced ++ inputByte s .dock

/-- A session's profile index, if its record is not NONE. -/
def sessionProfile : Session → Option Nat
  | .none => none
  | .starting _ i _ => some i
  | .active _ i _ => some i

/-- The charger state (R89). -/
def chargerBytes (c : Cc) : List Byte :=
  byte1 c.session.code ++ optional 1 bayByte (sessionBay c.session) ++ optional 1 byte1 (sessionProfile c.session)
    ++ byte1 c.failedLists ++ markByte c.fault ++ markByte c.charged.a ++ markByte c.charged.b

/-- A derating field (R90). -/
def deratingBytes (d : Option Derating) : List Byte := optional 1 (fun x => byte1 (Derating.code x)) d

/-- Part 3: budget and charger (R100, R89). The allowance A is worked out as the answer is built, from the record's budget and P18 as it
stands (assumption 52). DESIGN CHOICE: each swap flag, the record's and the published pair's, is a mark, on 1 and off 0, and the flag's three
conditions are one set byte in the order of R97 (assumption 61). -/
def budgetPart (s : State) : List Byte :=
  let r := s.bu
  byte1 r.case.code ++ byte3 r.budget ++ deratingBytes r.derating.a ++ deratingBytes r.derating.b
    ++ byte3 (backlightAllowance s r.budget) ++ byte2 r.powerCap ++ markByte r.swapFlag ++ setByte (swapConditions s)
    ++ byte2 r.publishedCap ++ markByte r.publishedSwap ++ byte2 r.demand ++ markByte r.capped ++ chargerBytes s.cc

/-- A light sensor's record (R125). -/
def sensorBytes (r : SensorRecord) : List Byte :=
  optional 3 byte3 r.sample ++ markByte r.saturated ++ markByte r.failed ++ byte2 (elapsedMs (r.silence.getD 0))

/-- The override stack: its depth and four levels, top first (R183). -/
def stackBytes (stack : List Nat) : List Byte :=
  byte1 stack.length ++ (stack ++ List.replicate (4 - stack.length) 0).flatMap byte2

/-- Part 4: the backlight's first five items (R125). -/
def lightPart (s : State) : List Byte :=
  let c := s.blc
  sensorBytes c.front ++ sensorBytes c.rear ++ byte3 c.filter ++ byte3 (filteredLight c) ++ byte2 c.curveLevel ++ byte2 c.held
    ++ byte2s c.offset ++ byte2 (heldWithOffset s) ++ stackBytes c.stack ++ byte2 (userLevel s)

/-- Part 6: the backlight's remaining items (R125). The stored publication may be absent (assumption 32), and its swap flag
is a mark, on 1 and off 0 (DESIGN CHOICE, assumption 61). -/
def targetPart (s : State) : List Byte :=
  let c := s.blc
  optional 2 byte2s c.temperature ++ markByte c.tempSilent ++ byte2 c.thermalCap
    ++ optional 3 (fun p : Nat × Bool => byte2 p.1 ++ markByte p.2) c.publication ++ byte2 (effectiveCap s)
    ++ inputByte s .lid ++ twoStates c.railOn ++ byte2 (paramN s 20) ++ byte2 (ceiling s) ++ byte2 c.target
    ++ byte2 c.demand ++ byte2 c.output ++ markByte s.ts.t1.pending

/-- A counter as STATE_READ gives it: 0 where the state does not use it (R149). -/
def counterIn (used : List ShmState) (st : ShmState) (n : Nat) : Nat := if used.contains st then n else 0

/-- Part 5: the shock monitor (R149), each counter where section 7.3's column "Counters in use" lists it (assumption 12). The outcome is a
field that may be absent (assumption 11), and the quiesce line a mark (assumption 10). -/
def shockPart (s : State) : List Byte :=
  let m := s.shm
  let peak := counterIn [.impact] m.state m.peakM2
  byte1 m.state.code ++ byte2 (counterIn [.idle, .settling] m.state m.qualify) ++ byte2 (counterIn [.falling] m.state m.fallCount)
    ++ byte1 (counterIn [.falling] m.state m.grace) ++ byte2 (counterIn [.impact] m.state m.window)
    ++ byte2 (counterIn [.impact] m.state m.impacts) ++ byte2 (counterIn [.settling] m.state m.rest)
    ++ byte4 peak ++ byte2 (peakOf peak) ++ optional 1 (fun o => byte1 (DropOutcome.code o)) m.outcome
    ++ timerBytes m.settleTimer ++ byte2 (elapsedMs (m.silence.getD 0)) ++ optional 15 snapshotBytes m.snapshot
    ++ markByte m.handedOver ++ markByte (shockHold s) ++ markByte m.quiesceLine ++ markByte m.quiesceKept
    ++ byte1 m.decimation ++ markByte s.ts.t2.pending

/-- Part 7: the drop log (R167). -/
def logPart (s : State) : List Byte :=
  let d := s.dl
  byte1 d.log.length ++ byte1 (preservedCount d.log) ++ byte4 d.nextSequence ++ markByte d.clearLock ++ byte4 d.clock
    ++ markByte d.clockValid ++ optional 4 byte4 d.openReference

/-- A part of the state by its number; a number outside 0 to 7 names none (R190). -/
def statePart (s : State) : Nat → Option (List Byte)
  | 0 => some (bayPart s .A)
  | 1 => some (bayPart s .B)
  | 2 => some (sourcePart s)
  | 3 => some (budgetPart s)
  | 4 => some (lightPart s)
  | 5 => some (shockPart s)
  | 6 => some (targetPart s)
  | 7 => some (logPart s)
  | _ => none

end Sys2Proof.Machine
end

