-- ==== Sys2Proof/Machine/LinkCommands.lean ====
section
/-! DEFINITION. The meanings of the Link Unit's commands (chapter 10). -/

namespace Sys2Proof.Machine

/-- The state with the LU changed. -/
def updLu (f : Lu → Lu) (s : State) : State := { s with lu := f s.lu }

/-- The last byte of the frame on the line has left (R185, R187): the line falls free, and after the response of an accepted
COMPANION_RESET the management reset follows. -/
def lineFree (s : State) : State :=
  match s.lu.line with
  | some f =>
    let s := updLu (fun l => { l with line := none }) s
    if f.resetResponse && s.lu.resetPending then deliver .managementReset s else s
  | none => s

/-- UPSTREAM_LINE_FREE (R187). -/
def execUpstreamLineFree (s : State) : Host.Outcome State Fault Refusal := complete (lineFree s)

/-- Link silence begins (R189): the traffic queue is emptied, the timer stops, and the BLC empties its override stack (R115). -/
def silenceBegins (s : State) : State :=
  if s.lu.silenceTimer.isSome then
    emptyStack (updLu (fun l => { l with traffic := [], silence := true, silenceTimer := none }) s)
  else s

/-- LINK_SILENCE_TIMEOUT (R189). -/
def execLinkSilenceTimeout (s : State) : Host.Outcome State Fault Refusal := complete (silenceBegins s)

/-- UNKNOWN_REQUEST (R183, step 4). -/
def execUnknownRequest (tag code : Byte) (args : List Byte) (s : State) : Host.Outcome State Fault Refusal :=
  complete (handleRequest tag code (answer .unknownRequest []) (take (.unknownRequest tag code args) s))

/-- The LU's answer to IDENTIFY (R185): vendor code 0051h, part code 0138h, revision 1. -/
def identifyAnswer (args : List Byte) (s : State) : Answer :=
  match args with
  | [] => answer .ok (byte2 0x51 ++ byte2 0x138 ++ byte1 1) s
  | _ => badLength s

/-- IDENTIFY (R185). -/
def execIdentify (tag : Byte) (args : List Byte) (s : State) : Host.Outcome State Fault Refusal :=
  complete (handleRequest tag 0x01 (identifyAnswer args) (take (.identify tag args) s))

/-- The LU's answer to STATE_READ (R190). -/
def stateReadAnswer (args : List Byte) (s : State) : Answer :=
  match args with
  | [p] =>
    match statePart s p.toNat with
    | some bytes => answer .ok bytes s
    | none => answer .badValue [] s
  | _ => badLength s

/-- STATE_READ (R190). -/
def execStateRead (tag : Byte) (args : List Byte) (s : State) : Host.Outcome State Fault Refusal :=
  complete (handleRequest tag 0x02 (stateReadAnswer args) (take (.stateRead tag args) s))

/-- The LU's answer to COMPANION_RESET (R185). -/
def companionResetAnswer (args : List Byte) (s : State) : Answer :=
  match args with
  | [] => answer .ok [] (updLu (fun l => { l with resetPending := true }) s)
  | _ => badLength s

/-- COMPANION_RESET (R185). -/
def execCompanionReset (tag : Byte) (args : List Byte) (s : State) : Host.Outcome State Fault Refusal :=
  complete (handleRequest tag 0x03 (companionResetAnswer args) (take (.companionReset tag args) s))

/-- SHORT_PAYLOAD_REQUEST (R183, step 2): a valid frame with no request to answer. -/
def execShortPayloadRequest (payload : List Byte) (s : State) : Host.Outcome State Fault Refusal :=
  complete (afterSettle acceptFrame (take (.shortPayloadRequest payload) s))

end Sys2Proof.Machine
end

