-- ==== Sys2Proof/Machine/Transactions.lean ====
section
/-! DEFINITION. How bay bus transactions end and where their results go (R49 to R65), the poll timer, the deferred slot, host reads
and writes, and the BBC's part of a management reset (R67). -/

namespace Sys2Proof.Machine

/-- The state with the BBC changed. -/
def updBbc (f : Bbc → Bbc) (s : State) : State := { s with bbc := f s.bbc }

/-! ### Results (R48, R49) -/

/-- What a transaction ended with: its result and, for a read that ended DONE, the bytes. -/
structure Ended where
  result : TxResult
  bytes : List Byte
  deriving DecidableEq, Repr

/-- The result of a device's reply (R48, R49); absent while a read has not brought the bytes its length asks for
(assumption 25). -/
def replyResult (op : BusOp) (reply : BusReply) : Option Ended :=
  match op, reply with
  | _, .refused => some ⟨.nak, []⟩
  | .write _ _, .accepted _ => some ⟨.done, []⟩
  | .read _ length, .accepted bytes =>
    if bytes.length < length then none
    else if byteSum (bytes.take length) = 0 then some ⟨.done, bytes.take length⟩ else some ⟨.badCheck, []⟩

/-- The result that a block failing its field check is treated as (R50, R51). -/
def checkedResult (r : TxResult) : TxResult := if r = .done then .badCheck else r

/-! ### Identification (R55) -/

/-- A bay's identification sequence set. -/
def setSequence (b : Bay) (q : Option IdSequence) (s : State) : State := updBus b (fun r => { r with sequence := q }) s

/-- An attempt has failed (R55): the next one is ready from step 1, or the sequence ends in final failure. -/
def attemptFailed (b : Bay) (q : IdSequence) (result : TxResult) (s : State) : State :=
  if 3 ≤ q.attempt then deliver (.ppcIdentificationOutcome b (.failed result)) (setSequence b none s)
  else setSequence b (some ⟨q.attempt + 1, none⟩) s

/-- The marks a delivered telemetry block clears: the telemetry-lost mark, whose clearing is an event of its own for the Budget Unit and
stands before the block's (R91, assumption 34), and the count of failed polls (R55, R58). -/
def clearLost (b : Bay) (s : State) : State :=
  tellBudgetIf (bayOf s b).telemetryLost
    (updBus b (fun r => { r with failedPolls := 0 }) (updBay b (fun r => { r with telemetryLost := false }) s))

/-- The sequence ends in success (R55). The Budget Unit's event for the block stands behind the PPC's outcome; R55 gives no order
(assumption 55). -/
def sequencePassed (b : Bay) (id : Identity) (t : Telemetry) (block : List Byte) (s : State) : State :=
  let s := deliver (.ppcIdentificationOutcome b (.success id t)) (clearLost b (setSequence b none s))
  handTraffic (.pack b block) (tellBudget s)

/-- A step of a sequence has ended (R55); a REMOVED read is discarded (R56, R65). -/
def sequenceStep (b : Bay) (q : IdSequence) (e : Ended) (s : State) : State :=
  match q.candidate with
  | none =>
    match (if e.result = .done then readIdentity e.bytes else none) with
    | some id => setSequence b (some { q with candidate := some id }) s
    | none => attemptFailed b q (checkedResult e.result) s
  | some id =>
    match (if e.result = .done then readTelemetry e.bytes else none) with
    | some t => sequencePassed b id t e.bytes s
    | none => attemptFailed b q (checkedResult e.result) s

/-- The result of an identification read. -/
def identifyEnded (b : Bay) (e : Ended) (s : State) : State :=
  match (busOf s b).sequence with
  | some q => if e.result = .removed then s else sequenceStep b q e s
  | none => s

/-! ### Polls (R57 to R59) -/

/-- A poll has delivered a block to its four receivers (R58). None waits for another; the model hands it to the PPC, then to the CC,
then to the Budget Unit (assumption 55). -/
def pollDelivered (b : Bay) (t : Telemetry) (block : List Byte) (s : State) : State :=
  let s := deliver (.ccTelemetry b t) (deliver (.ppcTelemetry b t) (clearLost b s))
  handTraffic (.pack b block) (tellBudget s)

/-- The telemetry-lost mark of a bay comes to be set (R59): TELEMETRY_LOST, the Budget Unit told (R91), and an ACTIVE session of
the bay stopped (R87). -/
def loseTelemetry (b : Bay) (s : State) : State :=
  let s := tellBudget (raise (.telemetryLost b) (updBay b (fun r => { r with telemetryLost := true }) s))
  if sessionActive s b then stopSession b .telemetryLost s else s

/-- A failed poll (R59). -/
def pollFailed (b : Bay) (s : State) : State :=
  let n := (busOf s b).failedPolls
  let s := updBus b (fun r => { r with failedPolls := min (r.failedPolls + 1) 3 }) s
  if n = 2 then loseTelemetry b s else s

/-- The result of a poll (R58, R59). -/
def pollEnded (b : Bay) (e : Ended) (s : State) : State :=
  match (if e.result = .done then readTelemetry e.bytes else none) with
  | some t => pollDelivered b t e.bytes s
  | none => if e.result = .removed then s else pollFailed b s

/-! ### Charger lists (R60) -/

/-- The lists after a write of the head list has ended with DONE. -/
def headWritten (l : ChargerList) (rest : List ChargerList) : List ChargerList :=
  if l.writes.length ≤ 1 then rest else { l with writes := l.writes.drop 1 } :: rest

/-- The result of a charger write (R60). The result of a withdrawn list's write is ignored (R82, R84). -/
def chargerEnded (e : Ended) (s : State) : State :=
  match s.bbc.lists with
  | [] => s
  | l :: rest =>
    if l.withdrawn then updBbc (fun c => { c with lists := rest }) s
    else if e.result = .done then
      let t := updBbc (fun c => { c with lists := headWritten l rest }) s
      if l.writes.length ≤ 1 then listDone l.kind t else t
    else listFailed l.kind e.result (updBbc (fun c => { c with lists := rest }) s)

/-! ### The deferred slot and the posted writes (R62, R64) -/

/-- A deferred read becomes DONE with a result, its expiry timer from 0 (R62, R65). -/
def readDone (e : Ended) (d : DeferredRead) : DeferredRead := { d with state := .done e.result e.bytes 0 }

/-- The result of a deferred read (R62). -/
def deferredEnded (e : Ended) (s : State) : State := updBbc (fun c => { c with deferred := c.deferred.map (readDone e) }) s

/-- The result of a posted write (R64): the write leaves the queue, with WRITE_FAILED unless it ended DONE. -/
def postedEnded (e : Ended) (s : State) : State :=
  match s.bbc.posted with
  | [] => s
  | w :: rest =>
    raiseIf (e.result != .done) (.writeFailed w.segment w.command e.result) (updBbc (fun c => { c with posted := rest }) s)

/-! ### The end of a transaction (R49, R53) -/

/-- A result goes to its requester. -/
def routeResult (owner : TxOwner) (e : Ended) (s : State) : State :=
  match owner with
  | .identify b => identifyEnded b e s
  | .charger => chargerEnded e s
  | .deferred => deferredEnded e s
  | .posted => postedEnded e s
  | .poll b => pollEnded b e s

/-- The bus is free. -/
def freeBus (s : State) : State := updBbc (fun c => { c with inFlight := none }) s

/-- The transaction in flight ends with a result. -/
def endWith (t : Transaction) (e : Ended) (s : State) : State := routeResult t.owner e (freeBus s)

/-- A device's reply ends the transaction in flight (R48, R49). -/
def transactionReply (reply : BusReply) (s : State) : State :=
  match s.bbc.inFlight with
  | some t =>
    match replyResult t.op reply with
    | some e => endWith t e s
    | none => s
  | none => s

/-- The transaction in flight has reached its timeout (R48). -/
def transactionTimedOut (s : State) : State :=
  match s.bbc.inFlight with
  | some t => endWith t ⟨.timeout, []⟩ s
  | none => s

/-! ### Timers (R57, R62) -/

/-- A bay's poll timer has reached P34 (R57). -/
def pollExpired (b : Bay) (s : State) : State :=
  if (busOf s b).pollTimer.isSome then updBus b (fun r => { r with pollTimer := some 0, pollDue := true }) s else s

/-- The expiry timer of a DONE deferred read has reached P33 (R62). -/
def deferredExpired (s : State) : State :=
  match s.bbc.deferred with
  | some ⟨seg, code, len, .done _ _ _⟩ =>
    raise (.deferredExpired seg code len) (updBbc (fun c => { c with deferred := none }) s)
  | _ => s

/-! ### Removal (R65) -/

/-- The transaction in flight on a segment ends REMOVED (R65). -/
def stopOnSegment (g : Segment) (s : State) : State :=
  match s.bbc.inFlight with
  | some t => if t.segment = g then endWith t ⟨.removed, []⟩ s else s
  | none => s

/-- A deferred read that waits for a segment becomes DONE with REMOVED (R65). -/
def removeWaiting (g : Segment) (d : DeferredRead) : DeferredRead :=
  if d.segment = g ∧ d.state = .waiting then readDone ⟨.removed, []⟩ d else d

/-- A queued write is discarded with WRITE_DISCARDED (R65). -/
def discardWrite (s : State) (w : PostedWrite) : State := raise (.writeDiscarded w.segment w.command) s

/-- The queued writes for a segment are removed, WRITE_DISCARDED raised for each (R65). -/
def discardWrites (g : Segment) (s : State) : State :=
  let gone := s.bbc.posted.filter fun w => w.segment == g
  gone.foldl discardWrite (updBbc (fun c => { c with posted := c.posted.filter fun w => w.segment != g }) s)

/-- The BBC takes a PRES falling edge (R65). -/
def segmentRemoved (b : Bay) (s : State) : State :=
  let g := segmentOf b
  let s := stopOnSegment g s
  let s := updBus b (fun r => { r with sequence := none, pollTimer := none, pollDue := false }) s
  discardWrites g (updBbc (fun c => { c with deferred := c.deferred.map (removeWaiting g) }) s)

/-! ### Host reads and writes (R61, R63) -/

/-- The segment a request names: 0 A, 1 B, 2 C (R61). -/
def requestSegment (n : Byte) : Option Segment :=
  if n = 0 then some .A else if n = 1 then some .B else if n = 2 then some .C else none

/-- Whether a segment's bay is EMPTY or SEATING; segment C never is (R61, R63). -/
def noPackAt (s : State) (g : Segment) : Bool :=
  match bayOfSegment g with
  | some b => (bayOf s b).state == .empty || (bayOf s b).state == .seating
  | none => false

/-- The deferred slot set. -/
def setDeferred (d : Option DeferredRead) (s : State) : State := updBbc (fun c => { c with deferred := d }) s

/-- A result carried in an OK answer: its code, and the bytes with DONE (R61, R190). -/
def resultBytes (r : TxResult) (bytes : List Byte) : List Byte := byte1 (resultCode r) ++ (if r = .done then bytes else [])

/-- A read request for a segment that exists and a length in range (R61, steps 2 to 4). -/
def readRequest (g : Segment) (code length : Nat) (s : State) : Answer :=
  match s.bbc.deferred with
  | some d =>
    if d.segment = g ∧ d.code = code ∧ d.length = length then
      match d.state with
      | .done r bytes _ => answer .ok (resultBytes r bytes) (setDeferred none s)
      | _ => answer .deferred [] s
    else answer .busy [] s
  | none =>
    if noPackAt s g then answer .noPack [] s
    else answer .deferred [] (setDeferred (some ⟨g, code, length, .waiting⟩) s)

/-- The BBC's answer to PACK_READ (R61). -/
def packReadAnswer (args : List Byte) (s : State) : Answer :=
  match args with
  | [seg, code, len] =>
    match requestSegment seg with
    | none => answer .badValue [] s
    | some g =>
      if 1 ≤ len.toNat ∧ len.toNat ≤ 32 then readRequest g code.toNat len.toNat s else answer .badLength [] s
  | _ => badLength s

/-- A write request for a segment that exists (R63, steps 2 to 5). -/
def writeRequest (g : Segment) (command value : Nat) (s : State) : Answer :=
  if g = .C then answer .owned [] s
  else if noPackAt s g then answer .noPack [] s
  else if 4 ≤ s.bbc.posted.length then answer .busy [] s
  else answer .posted [] (updBbc (fun c => { c with posted := c.posted ++ [⟨g, command, value⟩] }) s)

/-- The BBC's answer to PACK_WRITE (R63). -/
def packWriteAnswer (args : List Byte) (s : State) : Answer :=
  match args with
  | [seg, command, v0, v1] =>
    match requestSegment seg with
    | none => answer .badValue [] s
    | some g => writeRequest g command.toNat (le2 v0 v1) s
  | _ => badLength s

/-! ### Table 0 and the management reset (R57, R62, R67) -/

/-- A bay's poll timer meets a new P34 (R57). -/
def meetPollPeriod (b : Bay) (s : State) : State :=
  match (busOf s b).pollTimer with
  | some e => if ms (paramN s 34) ≤ e then pollExpired b s else s
  | none => s

/-- A DONE read's expiry timer meets a new P33 (R62). -/
def meetDeferredExpiry (s : State) : State :=
  match s.bbc.deferred with
  | some ⟨_, _, _, .done _ _ e⟩ => if ms (paramN s 33) ≤ e then deferredExpired s else s
  | _ => s

/-- A bay's polling after a management reset (R67). -/
def resetPoll (b : Bay) (s : State) : State :=
  updBus b (fun r => { r with pollTimer := if (bayOf s b).state.polled then some 0 else none, pollDue := false }) s

/-- The BBC's part of a management reset (R67): the charger write list is kept, so a write stopped in flight stays at its head. -/
def resetBus (s : State) : State :=
  resetPoll .B (resetPoll .A (updBbc (fun c => { c with
    inFlight := none, deferred := none, posted := [] }) s))

end Sys2Proof.Machine
end

