-- ==== Sys2Proof/Machine/ResetCommands.lean ====
section
/-! DEFINITION. The meanings of the two resets and of the end of the supply-settle interval. -/

namespace Sys2Proof.Machine

/-! ### Power-on reset (R2, R10, R12, R15, R66, R68, R90, R126, R150, R168, R179) -/

/-- An input as power-on reset leaves it: its raw level is the pin's own. -/
def keepRaw (c : Icu) (d : Icu) (i : Input) : Icu := setInput d i { inputOf d i with raw := (inputOf c i).raw }

/-- The state at the start of the supply-settle interval: every block as `State.reset` has it. The pins keep their raw levels, the
queue of commands and the index of the free orders are the model's own and are kept (assumption 7). -/
def powerOn (s : State) : State :=
  { State.reset with
    icu := allInputs.foldl (keepRaw s.icu) icuAtReset, freeIndex := s.freeIndex, pending := s.pending }

/-- POWER_ON_RESET (R10). -/
def execPowerOnReset (s : State) : Host.Outcome State Fault Refusal := .next (powerOn s)

/-! ### The end of the settle interval (R2, R42, R126, R150, R164, R189) -/

/-- A light sensor's silence timer starts. -/
def startSensor (r : SensorRecord) : SensorRecord := { r with silence := some 0 }

/-- The timers that start at the end of the settle interval. -/
def startTimers (s : State) : State :=
  { s with
    settling := none
    icu := allInputs.foldl startInput s.icu
    blc := { s.blc with
      front := startSensor s.blc.front, rear := startSensor s.blc.rear, tempSilence := some 0, rampPhase := some 0 }
    shm := { s.shm with silence := some 0 }
    dl := { s.dl with clockPhase := some 0 }
    lu := { s.lu with receiver := .hunting, silenceTimer := restartedSilence s } }

/-- The settle interval ends; outside it the event has no effect (assumption 6). -/
def settleEnds (s : State) : State := if s.settling.isSome then startTimers s else s

/-- SUPPLY_SETTLE_END (R42). -/
def execSupplySettleEnd (s : State) : Host.Outcome State Fault Refusal := complete (settleEnds s)

/-! ### Management reset (R9, R11, R45, R67, R90, R127, R151, R168, R180, R185) -/

/-- The Link Unit's part (R185). -/
def resetLink (s : State) : State :=
  updLu (fun l => { l with
    responses := [], notices := [], traffic := [], overrun := false, silenceTimer := restartedSilence s, silence := false,
    resetPending := false }) s

/-- The BLC hands its demand and the BU evaluates it at once, as one part of the reset. -/
def resetBacklightFirst (s : State) : State :=
  let s := resetBacklight s
  takeDemand s.blc.demand (take (.cappedEvaluation s.blc.demand) s)

/-- The Budget Unit's and the Backlight Controller's parts, in either order (R90, R127, assumption 9). -/
def resetCaps (s : State) : State :=
  let o := freeOrder s
  if o.1 then resetBudget (resetBacklightFirst o.2) else resetBacklight (resetBudget o.2)

/-- A management reset: the LU's part first, then the other blocks' (R185). The ICU, the PPC, the CC, the SHM and the DL are left as
they stand (R9, R45, R79, R151, R168). -/
def managementReset (s : State) : State := resetCaps (resetBus (resetTables (resetLink s)))

/-- MANAGEMENT_RESET (R185). -/
def execManagementReset (s : State) : Host.Outcome State Fault Refusal := complete (managementReset (take .managementReset s))

end Sys2Proof.Machine
end

