-- ==== Sys2Proof/Machine/Clock.lean ====
section
/-! DEFINITION. Time: one tick of 5 µs advances every running timer (assumption 4), and the expiry that is due, in a fixed order
(assumption 3). What comes from outside the part (raw levels, readings, samples, a device's reply, frames) is never due: it comes
as a command. -/

namespace Sys2Proof.Machine

/-- A running timer after one tick. -/
def tickTimer (t : Option Nat) : Option Nat := t.map (· + 1)

/-- An input's stability timer after one tick. -/
def tickInput (r : InputState) : InputState := { r with timer := tickTimer r.timer }

/-- The ICU after one tick. -/
def tickIcu (c : Icu) : Icu :=
  { c with
    presA := tickInput c.presA, latchA := tickInput c.latchA, relA := tickInput c.relA,
    presB := tickInput c.presB, latchB := tickInput c.latchB, relB := tickInput c.relB,
    lid := tickInput c.lid, dock := tickInput c.dock }

/-- DC presence after one tick. -/
def tickDc : DcPresence → DcPresence
  | .qualifying e => .qualifying (e + 1)
  | p => p

/-- A bay's two timers after one tick. -/
def tickBay (r : BayRecord) : BayRecord := { r with holdTimer := tickTimer r.holdTimer, lapseTimer := tickTimer r.lapseTimer }

/-- The PPC after one tick. -/
def tickPpc (p : Ppc) : Ppc :=
  { p with
    dc := tickDc p.dc, bridgeTimer := tickTimer p.bridgeTimer, bays := ⟨tickBay p.bays.a, tickBay p.bays.b⟩,
    transfer := p.transfer.map fun t => { t with elapsed := t.elapsed + 1 },
    forced := p.forced.map fun f => { f with grace := f.grace + 1 } }

/-- A deferred read after one tick: the expiry timer of a DONE read runs. -/
def tickDeferred (d : DeferredRead) : DeferredRead :=
  match d.state with
  | .done r bytes e => { d with state := .done r bytes (e + 1) }
  | _ => d

/-- The BBC's record of a bay after one tick. -/
def tickBus (r : BayBus) : BayBus := { r with pollTimer := tickTimer r.pollTimer }

/-- The BBC after one tick. -/
def tickBbc (c : Bbc) : Bbc :=
  { c with
    inFlight := c.inFlight.map fun t => { t with elapsed := t.elapsed + 1 },
    bays := ⟨tickBus c.bays.a, tickBus c.bays.b⟩, deferred := c.deferred.map tickDeferred }

/-- A light sensor's record after one tick. -/
def tickSensor (r : SensorRecord) : SensorRecord := { r with silence := tickTimer r.silence }

/-- The BLC after one tick. -/
def tickBlc (c : Blc) : Blc :=
  { c with
    front := tickSensor c.front, rear := tickSensor c.rear, tempSilence := tickTimer c.tempSilence,
    rampPhase := tickTimer c.rampPhase }

/-- The SHM after one tick. -/
def tickShm (m : Shm) : Shm := { m with settleTimer := tickTimer m.settleTimer, silence := tickTimer m.silence }

/-- The DL after one tick. -/
def tickDl (d : Dl) : Dl := { d with clockPhase := tickTimer d.clockPhase }

/-- The LU after one tick: one character has left on the upstream line. -/
def tickLu (l : Lu) : Lu :=
  { l with
    line := l.line.map fun f => { f with left := f.left - 1 }, silenceTimer := tickTimer l.silenceTimer }

/-- One tick of 5 µs: every running timer of the part advances, and nothing else changes (assumption 4). -/
def tick (s : State) : State :=
  { s with
    settling := tickTimer s.settling, icu := tickIcu s.icu, ppc := tickPpc s.ppc, bbc := tickBbc s.bbc, blc := tickBlc s.blc,
    shm := tickShm s.shm, dl := tickDl s.dl, lu := tickLu s.lu }

/-! ### What is due -/

/-- Whether a running timer has reached a limit. -/
def reached (limit : Nat) (t : Option Nat) : Bool :=
  match t with
  | some e => decide (limit ≤ e)
  | none => false

/-- Whether the transfer in flight has run its phase: 2 ms of OVERLAP, 1 ms of BRIDGE (R27, R28). -/
def phaseReached (s : State) (m : Method) (limit : Nat) : Bool :=
  match s.ppc.transfer with
  | some t => t.phase == m && decide (limit ≤ t.elapsed)
  | none => false

/-- Whether the grace has reached P16 (R40). A limit lowered to the running time or below it is reached on the next idle step
(assumption 54). -/
def graceReached (s : State) : Bool :=
  match s.ppc.forced with
  | some f => decide (ms (paramN s 16) ≤ f.grace)
  | none => false

/-- Whether a bay's hold timer has reached P15 with the record empty (R39, assumptions 19 and 54). -/
def holdReached (s : State) (b : Bay) : Bool := s.ppc.forced.isNone && reached (ms (paramN s 15)) (bayOf s b).holdTimer

/-- Whether a RELEASED bay's lapse timer has reached P40 (R41, assumption 54). -/
def lapseReached (s : State) (b : Bay) : Bool :=
  (bayOf s b).state == .released && reached (ms (paramN s 40)) (bayOf s b).lapseTimer

/-- Whether the transaction in flight has reached the timeout it started with (R48). -/
def timeoutReached (s : State) : Bool :=
  match s.bbc.inFlight with
  | some t => decide (t.limit ≤ t.elapsed)
  | none => false

/-- Whether a DONE deferred read has reached P33 (R62). -/
def expiryReached (s : State) : Bool :=
  match s.bbc.deferred with
  | some ⟨_, _, _, .done _ _ e⟩ => decide (ms (paramN s 33) ≤ e)
  | _ => false

/-- Whether a light sensor that is not failed has been silent for P38 (R102). -/
def lightReached (s : State) (x : LightSensor) : Bool :=
  !(sensorOf s.blc x).failed && reached (ms (paramN s 38)) (sensorOf s.blc x).silence

/-- Whether the samples' silence has an effect in the monitor's state (R144). -/
def silenceMatters (st : ShmState) : Bool :=
  match st with
  | .disarmed => false
  | .unavailable => false
  | _ => true

/-- Whether the last byte of the frame on the line has left (R187). -/
def lineReached (s : State) : Bool :=
  match s.lu.line with
  | some f => f.left == 0
  | none => false

/-- Every expiry with whether it is due, in the order the model takes those that fall together (assumption 3). -/
def expiries (s : State) : List (Bool × Instr) :=
  [(reached settleInterval s.settling, .supplySettleEnd)]
  ++ allInputs.map (fun i => (timerReached s.icu i, Instr.stabilityTimerExpiry i))
  ++ [(phaseReached s .overlap (ms 2), .overlapComplete),
      (phaseReached s .bridge (ms 1), .bridgeTargetClose),
      (reached (ms (paramN s 13)) s.ppc.bridgeTimer, .bridgeTimerExpiry),
      (holdReached s .A, .releaseHoldTimerExpiry .A),
      (holdReached s .B, .releaseHoldTimerExpiry .B),
      (graceReached s, .graceExpiry),
      (lapseReached s .A, .releaseLapseExpiry .A),
      (lapseReached s .B, .releaseLapseExpiry .B),
      (timeoutReached s, .transactionTimeout),
      (reached (ms (paramN s 34)) (busOf s .A).pollTimer, .pollTimerExpiry .A),
      (reached (ms (paramN s 34)) (busOf s .B).pollTimer, .pollTimerExpiry .B),
      (expiryReached s, .deferredExpiry)]
  ++ [(lightReached s .front, .lightSensorTimeout .front),
      (lightReached s .rear, .lightSensorTimeout .rear),
      (!s.blc.tempSilent && reached tempSilenceLimit s.blc.tempSilence, .temperatureSilenceTimeout),
      (reached (ms 10) s.blc.rampPhase, .rampTick),
      (s.shm.state == .settling && reached (ms (paramN s 8)) s.shm.settleTimer, .settleTimeout),
      (silenceMatters s.shm.state && reached sampleSilenceLimit s.shm.silence, .sampleSilenceTimeout),
      (reached (ms 1000) s.dl.clockPhase, .clockAdvance),
      (lineReached s, .upstreamLineFree),
      (reached (ms (paramN s 32)) s.lu.silenceTimer, .linkSilenceTimeout)]

/-- The first expiry that is due, if any is. -/
def due (s : State) : Option Instr := ((expiries s).find? Prod.fst).map Prod.snd

end Sys2Proof.Machine
end

