-- ==== Sys2Proof/Machine/BacklightCommands.lean ====
section
/-! DEFINITION. The meanings of the Backlight Controller's commands. -/

namespace Sys2Proof.Machine

/-- BLC_LID_EDGE (R119): the edge tells the lid, and the target is recomputed with it (assumption 45). -/
def execBlcLidEdge (closed : Bool) (s : State) : Host.Outcome State Fault Refusal :=
  complete (recomputeHeld (updBlc (fun c => { c with lidClosed := closed }) (take (.blcLidEdge closed) s)))

/-- BLC_RAIL_CHANGE (R119). -/
def execBlcRailChange (on : Bool) (s : State) : Host.Outcome State Fault Refusal :=
  complete (recomputeTarget (updBlc (fun c => { c with railOn := on }) (take (.blcRailChange on) s)))

/-- BLC_PUBLICATION (R118). -/
def execBlcPublication (powerCap : Nat) (swapFlag : Bool) (s : State) : Host.Outcome State Fault Refusal :=
  complete (recomputeTarget
    (updBlc (fun c => { c with publication := some (powerCap, swapFlag) }) (take (.blcPublication powerCap swapFlag) s)))

/-- A light sample is stored, and a front sample, or a rear one with the front failed, drives a filter step (R101). -/
def takeLight (x : LightSensor) (lux : Nat) (saturated : Bool) (s : State) : State :=
  let s := storeLight x lux saturated s
  if x = .front ∨ s.blc.front.failed then filterStep x s else s

/-- LIGHT_SAMPLE (R101). -/
def execLightSample (x : LightSensor) (lux : Nat) (saturated : Bool) (s : State) : Host.Outcome State Fault Refusal :=
  complete (afterSettle (takeLight x lux saturated) s)

/-- A light sensor's silence timer has reached P38 (R102); the timer runs on. -/
def lightSilent (x : LightSensor) (s : State) : State :=
  match (sensorOf s.blc x).silence with
  | some e =>
    if (sensorOf s.blc x).failed then s
    else failSensor x (updBlc (fun c => setSensor c x { sensorOf c x with silence := some (max e (ms (paramN s 38))) }) s)
  | none => s

/-- LIGHT_SENSOR_TIMEOUT (R102). -/
def execLightSensorTimeout (x : LightSensor) (s : State) : Host.Outcome State Fault Refusal := complete (lightSilent x s)

/-- A panel temperature sample (R116): a reading beyond either bound is taken at the nearer bound. -/
def takeTemperature (reading : Int) (s : State) : State :=
  recomputeTarget (refreshThermalCap (updBlc (fun c => { c with
    temperature := some (clampInt (-400) 1250 reading), tempSilence := some 0, tempSilent := false }) s))

/-- TEMPERATURE_SAMPLE (R116). -/
def execTemperatureSample (reading : Int) (s : State) : Host.Outcome State Fault Refusal :=
  complete (afterSettle (takeTemperature reading) s)

/-- The temperature silence timer has reached 3000 ms (R117); the timer runs on. -/
def temperatureSilent (s : State) : State :=
  match s.blc.tempSilence with
  | some e => recomputeTarget (refreshThermalCap (updBlc (fun c => { c with
      tempSilence := some (max e tempSilenceLimit), tempSilent := true }) s))
  | none => s

/-- TEMPERATURE_SILENCE_TIMEOUT (R117). -/
def execTemperatureSilenceTimeout (s : State) : Host.Outcome State Fault Refusal := complete (temperatureSilent s)

/-- A ramp tick moves the output level towards the target (R121); the tick runs from the end of the settle interval. -/
def tickRamp (s : State) : State :=
  if s.blc.rampPhase.isSome then
    updBlc (fun c => { c with output := rampNext c.output c.target (paramN s 26) (paramN s 27), rampPhase := some 0 }) s
  else s

/-- RAMP_TICK (R121). -/
def execRampTick (s : State) : Host.Outcome State Fault Refusal := complete (tickRamp s)

/-- A level is pushed (R113). -/
def pushLevel (level : Int) (s : State) : Answer :=
  if 4 ≤ s.blc.stack.length then answer .full [] s
  else
    let v := (clampInt 0 1000 level).toNat
    answer .ok (byte1 (s.blc.stack.length + 1) ++ byte2 v) (recomputeTarget (updBlc (fun c => { c with stack := v :: c.stack }) s))

/-- The BLC's answer to OVERRIDE_PUSH (R113). -/
def overridePushAnswer (args : List Byte) (s : State) : Answer :=
  match args with
  | [l0, l1] => pushLevel (signed16 (le2 l0 l1)) s
  | _ => badLength s

/-- OVERRIDE_PUSH (R113). -/
def execOverridePush (tag : Byte) (args : List Byte) (s : State) : Host.Outcome State Fault Refusal :=
  complete (handleRequest tag 0x30 (overridePushAnswer args) (take (.overridePush tag args) s))

/-- The top level is popped (R114). -/
def popLevel (s : State) : Answer :=
  match s.blc.stack with
  | [] => answer .empty [] s
  | v :: rest => answer .ok (byte2 v ++ byte1 rest.length) (recomputeTarget (updBlc (fun c => { c with stack := rest }) s))

/-- The BLC's answer to OVERRIDE_POP (R114). -/
def overridePopAnswer (args : List Byte) (s : State) : Answer :=
  match args with
  | [] => popLevel s
  | _ => badLength s

/-- OVERRIDE_POP (R114). -/
def execOverridePop (tag : Byte) (args : List Byte) (s : State) : Host.Outcome State Fault Refusal :=
  complete (handleRequest tag 0x31 (overridePopAnswer args) (take (.overridePop tag args) s))

/-- The offset is set (R112). -/
def setOffset (v : Int) (s : State) : Answer :=
  let o := clampInt (-500) 500 v
  answer .ok (byte2s o) (recomputeTarget (updBlc (fun c => { c with offset := o }) s))

/-- The BLC's answer to OFFSET_SET (R112). -/
def offsetSetAnswer (args : List Byte) (s : State) : Answer :=
  match args with
  | [o0, o1] => setOffset (signed16 (le2 o0 o1)) s
  | _ => badLength s

/-- OFFSET_SET (R112). -/
def execOffsetSet (tag : Byte) (args : List Byte) (s : State) : Host.Outcome State Fault Refusal :=
  complete (handleRequest tag 0x32 (offsetSetAnswer args) (take (.offsetSet tag args) s))

end Sys2Proof.Machine
end

