-- ==== Sys2Proof/Machine/BudgetCommands.lean ====
section
/-! DEFINITION. The meanings of the Budget Unit's commands. -/

namespace Sys2Proof.Machine

/-- BUDGET_RECOMPUTE (R91). -/
def execBudgetRecompute (s : State) : Host.Outcome State Fault Refusal := complete (recomputeBudget (take .budgetRecompute s))

/-- CAPPED_EVALUATION (R99). -/
def execCappedEvaluation (demand : Nat) (s : State) : Host.Outcome State Fault Refusal :=
  complete (takeDemand demand (take (.cappedEvaluation demand) s))

end Sys2Proof.Machine
end

