-- ==== Sys2Proof/Machine/BusCommands.lean ====
section
/-! DEFINITION. The meanings of the Bay Bus Controller's commands. -/

namespace Sys2Proof.Machine

/-- BBC_PRES_FALLING (R65). -/
def execBbcPresFalling (b : Bay) (s : State) : Host.Outcome State Fault Refusal :=
  complete (segmentRemoved b (take (.bbcPresFalling b) s))

/-- TRANSACTION_END (R48, R49). -/
def execTransactionEnd (reply : BusReply) (s : State) : Host.Outcome State Fault Refusal := complete (transactionReply reply s)

/-- TRANSACTION_TIMEOUT (R48). -/
def execTransactionTimeout (s : State) : Host.Outcome State Fault Refusal := complete (transactionTimedOut s)

/-- POLL_TIMER_EXPIRY (R57). -/
def execPollTimerExpiry (b : Bay) (s : State) : Host.Outcome State Fault Refusal := complete (pollExpired b s)

/-- DEFERRED_EXPIRY (R62). -/
def execDeferredExpiry (s : State) : Host.Outcome State Fault Refusal := complete (deferredExpired s)

/-- PACK_READ (R61). -/
def execPackRead (tag : Byte) (args : List Byte) (s : State) : Host.Outcome State Fault Refusal :=
  complete (handleRequest tag 0x20 (packReadAnswer args) (take (.packRead tag args) s))

/-- PACK_WRITE (R63). -/
def execPackWrite (tag : Byte) (args : List Byte) (s : State) : Host.Outcome State Fault Refusal :=
  complete (handleRequest tag 0x21 (packWriteAnswer args) (take (.packWrite tag args) s))

end Sys2Proof.Machine
end

