-- ==== Sys2Proof/Machine/ChargeCommands.lean ====
section
/-! DEFINITION. The meanings of the Charge Controller's commands: telemetry, and the requests on the pack memory (R71, R73 to
R75). -/

namespace Sys2Proof.Machine

/-- CC_TELEMETRY (R71). -/
def execCcTelemetry (b : Bay) (t : Telemetry) (s : State) : Host.Outcome State Fault Refusal :=
  complete (chargeTelemetry b t (take (.ccTelemetry b t) s))

/-- An entry of the pack memory in the order of R68. -/
def packEntryBytes (e : PackEntry) : List Byte :=
  byte4 e.serial ++ byte1 e.chemistry ++ byte2 e.designCapacity ++ bayByte e.lastBay ++ byte1 e.lastCharge
    ++ byte2 e.insertCount ++ markByte e.shocked ++ serialBytes e.shockSequence

/-- The pin state of a serial: 0 not pinned, 1 by bay A, 2 by bay B (R73). -/
def pinState (s : State) (serial : Nat) : Nat := if pinsSerial s serial .A then 1 else if pinsSerial s serial .B then 2 else 0

/-- The CC's answer to PACK_MEMORY_READ (R73). -/
def packMemoryReadAnswer (args : List Byte) (s : State) : Answer :=
  match args with
  | [p] =>
    let held := byte1 s.cc.memory.length
    match s.cc.memory[p.toNat]? with
    | some e => answer .ok (packEntryBytes e ++ held ++ byte1 (pinState s e.serial)) s
    | none => answer .notFound held s
  | _ => badLength s

/-- PACK_MEMORY_READ (R73). -/
def execPackMemoryRead (tag : Byte) (args : List Byte) (s : State) : Host.Outcome State Fault Refusal :=
  complete (handleRequest tag 0x60 (packMemoryReadAnswer args) (take (.packMemoryRead tag args) s))

/-- An entry is forgotten by its serial (R74). -/
def forgetPack (serial : Nat) (s : State) : Answer :=
  if (findPack s.cc.memory serial).isNone then answer .notFound [] s
  else if pinned s serial then answer .pinned [] s
  else answer .ok [] (updMemory (fun m => m.filter fun e => e.serial != serial) s)

/-- The CC's answer to PACK_FORGET (R74). -/
def packForgetAnswer (args : List Byte) (s : State) : Answer :=
  match args with
  | [b0, b1, b2, b3] => forgetPack (le4 b0 b1 b2 b3) s
  | _ => badLength s

/-- PACK_FORGET (R74). -/
def execPackForget (tag : Byte) (args : List Byte) (s : State) : Host.Outcome State Fault Refusal :=
  complete (handleRequest tag 0x61 (packForgetAnswer args) (take (.packForget tag args) s))

/-- A pack's shocked mark is cleared; where that clears the mark of a pack in a bay, arbitration is evaluated (R75).
DESIGN CHOICE (assumption 60): R81 lists every clear that clears a mark, R75 only one of a pack in a bay, and the model follows R75. -/
def clearShock (serial : Nat) (s : State) : Answer :=
  match findPack s.cc.memory serial with
  | none => answer .notFound [] s
  | some e =>
    let t := updMemory (changeEntry serial fun x => { x with shocked := false, shockSequence := none }) s
    answer .ok [] (if e.shocked && pinned s serial then arbitrate t else if e.shocked then t else s)

/-- The CC's answer to PACK_CLEAR_SHOCK (R75). -/
def packClearShockAnswer (args : List Byte) (s : State) : Answer :=
  match args with
  | [b0, b1, b2, b3] => clearShock (le4 b0 b1 b2 b3) s
  | _ => badLength s

/-- PACK_CLEAR_SHOCK (R75). -/
def execPackClearShock (tag : Byte) (args : List Byte) (s : State) : Host.Outcome State Fault Refusal :=
  complete (handleRequest tag 0x62 (packClearShockAnswer args) (take (.packClearShock tag args) s))

end Sys2Proof.Machine
end

