-- ==== Sys2Proof/Machine/InputCommands.lean ====
section
/-! DEFINITION. The meanings of the Input Conditioning Unit's commands. -/

namespace Sys2Proof.Machine

/-- RAW_LEVEL_CHANGE (R3). -/
def execRawLevelChange (i : Input) (asserted : Bool) (s : State) : Host.Outcome State Fault Refusal :=
  complete (rawLevel i asserted s)

/-- STABILITY_TIMER_EXPIRY (R3). -/
def execStabilityTimerExpiry (i : Input) (s : State) : Host.Outcome State Fault Refusal := complete (stabilityExpired i s)

/-- FILTER_LENGTH_CHANGE (R5). -/
def execFilterLengthChange (cause : LengthCause) (s : State) : Host.Outcome State Fault Refusal :=
  complete (changeLengths cause (take (.filterLengthChange cause) s))

end Sys2Proof.Machine
end

