-- ==== Sys2Proof/Machine/LogCommands.lean ====
section
/-! DEFINITION. The meanings of the Drop Log's commands: the companion clock and the requests on the log (R160 to R165). -/

namespace Sys2Proof.Machine

/-- The companion clock advances by one second, from its highest value to 0 (R164). -/
def advanceClock (s : State) : State :=
  if s.dl.clockPhase.isSome then
    updDl (fun d => { d with clock := (d.clock + 1) % 4294967296, clockPhase := some 0 }) s
  else s

/-- CLOCK_ADVANCE (R164). -/
def execClockAdvance (s : State) : Host.Outcome State Fault Refusal := complete (advanceClock s)

/-- The three counts that a LOG_READ answer carries (R160). -/
def logCounts (d : Dl) : List Byte := byte1 d.log.length ++ byte1 (preservedCount d.log) ++ byte4 d.nextSequence

/-- The DL's answer to LOG_READ (R160): positions count from 0 at the newest record. -/
def logReadAnswer (args : List Byte) (s : State) : Answer :=
  match args with
  | [p] =>
    match s.dl.log.reverse[p.toNat]? with
    | some r => answer .ok (recordBytes r ++ logCounts s.dl) s
    | none => answer .notFound (logCounts s.dl) s
  | _ => badLength s

/-- LOG_READ (R160). -/
def execLogRead (tag : Byte) (args : List Byte) (s : State) : Host.Outcome State Fault Refusal :=
  complete (handleRequest tag 0x50 (logReadAnswer args) (take (.logRead tag args) s))

/-- Every record that is not preserved is removed (R161). -/
def clearLog (s : State) : Answer :=
  let kept := s.dl.log.filter DropRecord.preserved
  answer .ok (byte1 (s.dl.log.length - kept.length) ++ byte1 kept.length) (updDl (fun d => { d with log := kept }) s)

/-- The DL's answer to LOG_CLEAR (R161). -/
def logClearAnswer (args : List Byte) (s : State) : Answer :=
  match args with
  | [] => clearLog s
  | _ => badLength s

/-- LOG_CLEAR (R161). -/
def execLogClear (tag : Byte) (args : List Byte) (s : State) : Host.Outcome State Fault Refusal :=
  complete (handleRequest tag 0x51 (logClearAnswer args) (take (.logClear tag args) s))

/-- The DL's answer to LOG_CLEAR_ALL (R162). -/
def logClearAllAnswer (args : List Byte) (s : State) : Answer :=
  match args with
  | [] =>
    if s.dl.clearLock then answer .locked [] s
    else answer .ok (byte1 s.dl.log.length) (updDl (fun d => { d with log := [] }) s)
  | _ => badLength s

/-- LOG_CLEAR_ALL (R162). -/
def execLogClearAll (tag : Byte) (args : List Byte) (s : State) : Host.Outcome State Fault Refusal :=
  complete (handleRequest tag 0x52 (logClearAllAnswer args) (take (.logClearAll tag args) s))

/-- The DL's answer to LOG_LOCK (R163). -/
def logLockAnswer (args : List Byte) (s : State) : Answer :=
  match args with
  | [] => if s.dl.clearLock then answer .already [] s else answer .ok [] (updDl (fun d => { d with clearLock := true }) s)
  | _ => badLength s

/-- LOG_LOCK (R163). -/
def execLogLock (tag : Byte) (args : List Byte) (s : State) : Host.Outcome State Fault Refusal :=
  complete (handleRequest tag 0x53 (logLockAnswer args) (take (.logLock tag args) s))

/-- The DL's answer to TIME_SET (R165). -/
def timeSetAnswer (args : List Byte) (s : State) : Answer :=
  match args with
  | [b0, b1, b2, b3] =>
    answer .ok [] (updDl (fun d => { d with clock := le4 b0 b1 b2 b3, clockValid := true, clockPhase := some 0 }) s)
  | _ => badLength s

/-- TIME_SET (R165). -/
def execTimeSet (tag : Byte) (args : List Byte) (s : State) : Host.Outcome State Fault Refusal :=
  complete (handleRequest tag 0x54 (timeSetAnswer args) (take (.timeSet tag args) s))

end Sys2Proof.Machine
end

