-- ==== Sys2Proof/Machine/Bays.lean ====
section
/-! DEFINITION. What the Power Path Controller does with the events of a bay and of the sources (chapter 2): insertion, removal,
identification outcomes, telemetry and alarms, the release timers, the shock hold, monitor readings, and the RAIL request. -/

namespace Sys2Proof.Machine

/-! ### Insertion and removal (R18, R22) -/

/-- PRES has risen (R18). -/
def presRose (b : Bay) (s : State) : State :=
  if (bayOf s b).state = .empty then
    let s := raise (.bayInserted b) (enterBay b .seating s)
    if filtered s (latchOf b) then enterBay b .identifying s else s
  else s

/-- A FAULTED bay with reason ALARM whose alarm set is empty returns to STANDBY (R21). -/
def returnToStandby (b : Bay) (s : State) : State := becameStandby b (enterBay b .standby s)

/-- LATCH has risen (R18, R21). -/
def latchRose (b : Bay) (s : State) : State :=
  match (bayOf s b).state with
  | .seating => enterBay b .identifying s
  | .faulted .alarm => if alarmMark s b then s else returnToStandby b s
  | _ => s

/-- LATCH has fallen: forced with the lock locked (R34), and in IDENTIFYING back to SEATING (R18). -/
def latchFell (b : Bay) (s : State) : State :=
  if (bayOf s b).state.locked then (releaseRequest b (raise (.latchForced b) s)).1
  else if (bayOf s b).state = .identifying then enterBay b .seating s else s

/-- The pack of an unlocked bay is gone (R22): EMPTY with BAY_REMOVED. Where the bay was the target of the transfer in flight, the
transfer has lost it (R32). -/
def plainRemoval (b : Bay) (s : State) : State :=
  let target := isTransferTarget s b
  let s := raise (.bayRemoved b) (enterBay b .empty s)
  if target then targetLost .removal s else s

/-- PRES has fallen (R18, R22, R41). -/
def presFell (b : Bay) (s : State) : State :=
  match (bayOf s b).state with
  | .empty => s
  | .seating => enterBay b .empty s
  | .identifying => enterBay b .empty s
  | .released => plainRemoval b s
  | .faulted _ => plainRemoval b s
  | .standby => forcedRemoval b s
  | .supplying => forcedRemoval b s
  | .charging => forcedRemoval b s
  | .releasing => forcedRemoval b s

/-! ### The release button and its timers (R34, R39, R40, R41) -/

/-- While a refusal stands and REL is filtered asserted, the hold timer runs (R39). -/
def runHoldTimer (b : Bay) (s : State) : State :=
  if (bayOf s b).refusal && filtered s (relOf b) then
    updBay b (fun r => { r with holdTimer := some (r.holdTimer.getD 0) }) s
  else s

/-- REL has risen: a release request (R34), and a refusal that stands has its timer (R39). -/
def relRose (b : Bay) (s : State) : State := runHoldTimer b (releaseRequest b s).1

/-- A standing refusal ends and its timer stops (R39). -/
def endRefusal (b : Bay) (s : State) : State := updBay b (fun r => { r with refusal := false, holdTimer := none }) s

/-- The forced-release record is filled with a bay (R39): POWER_FAIL_WARNING, the grace from 0, and the Budget Unit told. -/
def fillForced (b : Bay) (s : State) : State :=
  tellBudget (raise (.powerFailWarning (some b)) (updPpc (fun p => { p with forced := some ⟨b, 0⟩ }) s))

/-- A hold timer has reached P15 (R39); while the record is filled nothing further is done (assumption 19). -/
def holdExpired (b : Bay) (s : State) : State :=
  match (bayOf s b).holdTimer with
  | none => s
  | some e =>
    let s := updBay b (fun r => { r with holdTimer := some (max e (ms (paramN s 15))) }) s
    if s.ppc.forced.isNone then fillForced b s else s

/-- The grace has reached P16 (R40). -/
def graceExpired (s : State) : State := if s.ppc.forced.isSome then railOffReleasing .graceExpired s else s

/-- A RELEASED bay relocks or is identified afresh (R41). -/
def relock (b : Bay) (s : State) : State :=
  if (bayOf s b).identity.isSome then
    let st := restState s b
    let s := raise (.releaseLapsed b) (enterBay b st s)
    if st = .standby then becameStandby b s else s
  else raise (.releaseLapsed b) (enterBay b .identifying s)

/-- A lapse timer has reached P40 (R41). With PRES deasserted the pack is going and the timer stops (assumption 27). -/
def lapseExpired (b : Bay) (s : State) : State :=
  if (bayOf s b).state = .released ∧ (bayOf s b).lapseTimer.isSome then
    if !filtered s (presOf b) then updBay b (fun r => { r with lapseTimer := none }) s
    else if !filtered s (latchOf b) then updBay b (fun r => { r with lapseTimer := some 0 }) s
    else relock b s
  else s

/-! ### The shock hold (R38) -/

/-- A standing refusal as the hold starts: it ends, and with REL asserted the pending mark is set (R38, R39). -/
def holdRefusal (b : Bay) (s : State) : State :=
  if (bayOf s b).refusal then
    let s := endRefusal b s
    if filtered s (relOf b) then setPending b true s else s
  else s

/-- The PPC takes the start of the shock hold (R38). -/
def holdStarted (s : State) : State := holdRefusal .B (holdRefusal .A (updPpc (fun p => { p with hold := true }) s))

/-- The PPC takes the end of the shock hold (R38). -/
def holdEnded (s : State) : State := evaluatePendings (updPpc (fun p => { p with hold := false }) s)

/-! ### Identification (R19) -/

/-- A bay is FAULTED with a reason, and BAY_FAULT raised. -/
def faultBay (b : Bay) (reason : FaultReason) (s : State) : State :=
  raise (.bayFault b reason) (enterBay b (.faulted reason) s)

/-- Whether the other bay holds a serial (R19). -/
def isDuplicate (s : State) (b : Bay) (serial : Nat) : Bool :=
  (bayOf s b.other).state != .empty && serialOf s b.other == some serial

/-- The identity and telemetry become the bay's, after the pack memory has taken them and before the profile is matched (R19,
R70, R77). -/
def adoptPack (b : Bay) (id : Identity) (t : Telemetry) (s : State) : State :=
  let s := rememberPack b id t.charge s
  updBay b (fun r => { r with
    identity := some id, telemetry := some t, profile := matchProfile s id,
    alarms := joinAlarms r.alarms t.alarms, cleanReads := if anyAlarm t.alarms then 0 else r.cleanReads }) s

/-- A success without a duplicate (R19). -/
def identified (b : Bay) (id : Identity) (t : Telemetry) (s : State) : State :=
  let s := adoptPack b id t s
  if anyAlarm t.alarms then
    graceTestFor b (faultBay b .alarm (raise (.packAlarm b (bayOf s b).alarms) s))
  else becameStandby b (raise (.bayIdentified b id.serial) (enterBay b .standby s))

/-- The PPC takes an identification outcome (R19); one that finds the bay out of IDENTIFYING is discarded (R18). -/
def identificationEnded (b : Bay) (o : IdOutcome) (s : State) : State :=
  if (bayOf s b).state = .identifying then
    match o with
    | .failed _ => faultBay b .idFail s
    | .success id t => if isDuplicate s b id.serial then faultBay b .duplicate s else identified b id t s
  else s

/-! ### Telemetry (R20, R21) -/

/-- Whether a set holds a flag that another does not. -/
def bringsNew (old new : AlarmSet) : Bool := joinAlarms old new != old

/-- The alarm set and clean-read count after a block (R20, R21). -/
def alarmsAfter (r : BayRecord) (t : Telemetry) : BayRecord :=
  if anyAlarm t.alarms then { r with alarms := joinAlarms r.alarms t.alarms, cleanReads := 0 }
  else
    { r with cleanReads := min (r.cleanReads + 1) 3
             alarms := if 3 ≤ r.cleanReads + 1 then clearedAlarms r.alarms else r.alarms }

/-- A bay whose alarm set has gone from empty to not empty acts by its state (R20). -/
def alarmSet (b : Bay) (s : State) : State :=
  match (bayOf s b).state with
  | .standby => faultBay b .alarm s
  | .charging => raise (.bayFault b .alarm) (sessionStopped b (some .alarm) (openCharge b (.faulted .alarm) s))
  | _ => s

/-- A bay whose alarm set has become empty acts by its state (R21). -/
def alarmCleared (b : Bay) (s : State) : State :=
  match (bayOf s b).state with
  | .faulted .alarm => if filtered s (latchOf b) then returnToStandby b s else s
  | .supplying => dropStaleWaiting s
  | _ => s

/-- A telemetry block is stored and its alarms compared (R20, R21). -/
def takeAlarms (b : Bay) (t : Telemetry) (s : State) : State :=
  let old := (bayOf s b).alarms
  let s := updBay b (fun r => alarmsAfter { r with telemetry := some t } t) s
  let new := (bayOf s b).alarms
  let s := raiseIf (bringsNew old t.alarms) (.packAlarm b new) s
  if !anyAlarm old && anyAlarm new then alarmSet b s
  else if anyAlarm old && !anyAlarm new then alarmCleared b s else s

/-- Whether a block for a SUPPLYING bay calls for source selection (R23): charge at or below P41, or the mark newly set. -/
def callsSelection (old s : State) (b : Bay) (t : Telemetry) : Bool :=
  (bayOf s b).state == .supplying
    && (decide (t.charge ≤ paramN s 41) || (!alarmMark old b && alarmMark s b))

/-- The PPC takes a telemetry block (R20, R21, R23, R40). A block for a bay with no identified pack is discarded (R58,
assumption 30). A bay FAULTED with ID_FAIL or DUPLICATE keeps its state alone: its record takes the block (assumption 50). -/
def pathTelemetry (b : Bay) (t : Telemetry) (s : State) : State :=
  match (bayOf s b).state with
  | .empty => s
  | .seating => s
  | .identifying => s
  | _ =>
    let u := takeAlarms b t s
    graceTestFor b (if callsSelection s u b t then selectSource u else u)

/-! ### Monitor readings (R12, R14) -/

/-- The reserve becomes ready (R12): a waiting transfer, then a release waiting in a grace, is tried again. -/
def reserveReady (s : State) : State := graceTest (if s.ppc.waiting.isSome then selectSource s else s)

/-- DC presence after a reading (R14). -/
def nextPresence (p : DcPresence) (high : Bool) : DcPresence :=
  match p, high with
  | .absent, true => .qualifying 0
  | .absent, false => .absent
  | .qualifying e, true => if ms 200 ≤ e then .present 0 else .qualifying e
  | .qualifying _, false => .absent
  | .present _, true => .present 0
  | .present n, false => if 2 ≤ n + 1 then .absent else .present (n + 1)

/-- The four readings are stored and the reserve ready mark set (R12). -/
def storeReadings (vdc va vb vres : Nat) (s : State) : State :=
  updPpc (fun p => { p with vdc := vdc, va := va, vb := vb, vres := vres, reserveReady := decide (paramN s 12 ≤ vres) }) s

/-- DC presence takes a reading (R14). -/
def takePresence (s : State) : State :=
  let high := decide (paramN s 39 ≤ s.ppc.vdc)
  let t := updPpc (fun p => { p with dc := nextPresence p.dc high }) s
  if !dcPresent s && dcPresent t then dcArrived t else if dcPresent s && !dcPresent t then dcGone t else t

/-- A source monitor reading (R12, R14). -/
def monitorReading (vdc va vb vres : Nat) (s : State) : State :=
  let t := storeReadings vdc va vb vres s
  takePresence (if !s.ppc.reserveReady && t.ppc.reserveReady then reserveReady t else t)

/-! ### The two transfer moments (R27, R28) -/

/-- 2 ms after an OVERLAP start (R27). -/
def overlapEnds (s : State) : State :=
  match s.ppc.transfer with
  | some t => if t.phase = .overlap then completeOverlap t s else s
  | none => s

/-- 1 ms after a bridge began (R28). -/
def bridgeCloses (s : State) : State :=
  match s.ppc.transfer with
  | some t => if t.phase = .bridge then completeBridge t s else s
  | none => s

/-! ### The RAIL request (R43, R44) -/

/-- The higher-charge bay of those that satisfy a condition, bay A when the two are equal. -/
def highestBay (s : State) (ok : Bay → Bool) : Option Bay :=
  match ok .A, ok .B with
  | true, true => some (if chargeOf s .A < chargeOf s .B then .B else .A)
  | true, false => some .A
  | false, true => some .B
  | false, false => none

/-- Whether a bay is STANDBY. -/
def isStandby (s : State) (b : Bay) : Bool := (bayOf s b).state == .standby

/-- Whether a bay is SEATING or IDENTIFYING. -/
def isArriving (s : State) (b : Bay) : Bool := (bayOf s b).state == .seating || (bayOf s b).state == .identifying

/-- The target of RAIL on (R43), with whether no STANDBY bay was eligible; absent where the request is refused NOT_READY. -/
def railTarget (s : State) : Option (Source × Bool) :=
  if dcPresent s then some (.dc, false)
  else if isArriving s .A || isArriving s .B then none
  else
    match lowestBay s (fun b => isStandby s b && eligible s b) with
    | some b => some (.bay b, false)
    | none => (highestBay s (isStandby s)).map fun b => (.bay b, true)

/-- BATTERY_LOW for a bay taken though not eligible (R43). -/
def warnLow (y : Source) (low : Bool) (s : State) : State :=
  match y with
  | .bay b => raiseIf low (.batteryLow b (chargeOf s b)) s
  | .dc => s

/-- The rail turns on (R43). The Budget Unit is told before the BLC is handed the rail (assumption 55). -/
def enableRail (s : State) : State :=
  let t := pathChanged s (updPpc (fun p => { p with railOn := true, offReason := .none }) s)
  arbitrate (deliver (.blcRailChange true) t)

/-- RAIL on (R43). -/
def railOn (s : State) : Answer :=
  if s.ppc.railOn then answer .ok [] s
  else
    match railTarget s with
    | none => answer .notReady [] s
    | some (y, low) => answer .ok [] (enableRail (feed y (warnLow y low s)))

/-- RAIL off (R44): a grace in progress ends with it (R40). -/
def railOffRequest (s : State) : Answer :=
  answer .ok [] (if s.ppc.railOn then railOffReleasing .host s else s)

end Sys2Proof.Machine
end

