-- ==== Sys2Proof/Machine/PathCommands.lean ====
section
/-! DEFINITION. The meanings of the Power Path Controller's commands. -/

namespace Sys2Proof.Machine

/-- PPC_PRES_RISING (R18). -/
def execPpcPresRising (b : Bay) (s : State) : Host.Outcome State Fault Refusal :=
  complete (presRose b (take (.ppcPresRising b) s))

/-- PPC_PRES_FALLING (R22). -/
def execPpcPresFalling (b : Bay) (s : State) : Host.Outcome State Fault Refusal :=
  complete (presFell b (take (.ppcPresFalling b) s))

/-- PPC_LATCH_RISING (R18, R21). -/
def execPpcLatchRising (b : Bay) (s : State) : Host.Outcome State Fault Refusal :=
  complete (latchRose b (take (.ppcLatchRising b) s))

/-- PPC_LATCH_FALLING (R18, R34). -/
def execPpcLatchFalling (b : Bay) (s : State) : Host.Outcome State Fault Refusal :=
  complete (latchFell b (take (.ppcLatchFalling b) s))

/-- PPC_REL_RISING (R34). -/
def execPpcRelRising (b : Bay) (s : State) : Host.Outcome State Fault Refusal :=
  complete (relRose b (take (.ppcRelRising b) s))

/-- PPC_REL_FALLING (R39). -/
def execPpcRelFalling (b : Bay) (s : State) : Host.Outcome State Fault Refusal :=
  complete (endRefusal b (take (.ppcRelFalling b) s))

/-- SOURCE_MONITOR_READING (R12, R14). -/
def execSourceMonitorReading (vdc va vb vres : Nat) (s : State) : Host.Outcome State Fault Refusal :=
  complete (afterSettle (monitorReading vdc va vb vres) s)

/-- OVERLAP_COMPLETE (R27). -/
def execOverlapComplete (s : State) : Host.Outcome State Fault Refusal := complete (overlapEnds s)

/-- BRIDGE_TARGET_CLOSE (R28). -/
def execBridgeTargetClose (s : State) : Host.Outcome State Fault Refusal := complete (bridgeCloses s)

/-- BRIDGE_TIMER_EXPIRY (R30). -/
def execBridgeTimerExpiry (s : State) : Host.Outcome State Fault Refusal := complete (bridgeExpired s)

/-- RELEASE_HOLD_TIMER_EXPIRY (R39). -/
def execReleaseHoldTimerExpiry (b : Bay) (s : State) : Host.Outcome State Fault Refusal := complete (holdExpired b s)

/-- GRACE_EXPIRY (R40). -/
def execGraceExpiry (s : State) : Host.Outcome State Fault Refusal := complete (graceExpired s)

/-- RELEASE_LAPSE_EXPIRY (R41). -/
def execReleaseLapseExpiry (b : Bay) (s : State) : Host.Outcome State Fault Refusal := complete (lapseExpired b s)

/-- PPC_SHOCK_HOLD_START (R38). -/
def execPpcShockHoldStart (s : State) : Host.Outcome State Fault Refusal :=
  complete (holdStarted (take .ppcShockHoldStart s))

/-- PPC_SHOCK_HOLD_END (R38). -/
def execPpcShockHoldEnd (s : State) : Host.Outcome State Fault Refusal :=
  complete (holdEnded (take .ppcShockHoldEnd s))

/-- PPC_IDENTIFICATION_OUTCOME (R19). -/
def execPpcIdentificationOutcome (b : Bay) (o : IdOutcome) (s : State) : Host.Outcome State Fault Refusal :=
  complete (identificationEnded b o (take (.ppcIdentificationOutcome b o) s))

/-- PPC_TELEMETRY (R20, R21). -/
def execPpcTelemetry (b : Bay) (t : Telemetry) (s : State) : Host.Outcome State Fault Refusal :=
  complete (pathTelemetry b t (take (.ppcTelemetry b t) s))

/-- The bay a request names: 0 A, 1 B (R190). -/
def requestBay (v : Byte) : Option Bay := if v = 0 then some .A else if v = 1 then some .B else none

/-- The PPC's answer to BAY_RELEASE (R34 to R36, R38, R190). -/
def bayReleaseAnswer (args : List Byte) (s : State) : Answer :=
  match args with
  | [v] =>
    match requestBay v with
    | some b => let r := releaseRequest b s; answer r.2 [] r.1
    | none => answer .badValue [] s
  | _ => badLength s

/-- BAY_RELEASE (R34). -/
def execBayRelease (tag : Byte) (args : List Byte) (s : State) : Host.Outcome State Fault Refusal :=
  complete (handleRequest tag 0x22 (bayReleaseAnswer args) (take (.bayRelease tag args) s))

/-- The PPC's answer to RAIL (R43, R44, R190). -/
def railAnswer (args : List Byte) (s : State) : Answer :=
  match args with
  | [v] => if v = 0 then railOffRequest s else if v = 1 then railOn s else answer .badValue [] s
  | _ => badLength s

/-- RAIL (R43, R44). -/
def execRail (tag : Byte) (args : List Byte) (s : State) : Host.Outcome State Fault Refusal :=
  complete (handleRequest tag 0x23 (railAnswer args) (take (.rail tag args) s))

end Sys2Proof.Machine
end

