-- ==== Sys2Proof/Machine/Receiver.lean ====
section
/-! DEFINITION. The receiver (R181, R182): what it makes of the bytes after a sync byte, and the search of the bytes of a
discarded candidate. -/

namespace Sys2Proof.Machine

/-- What the receiver makes of the bytes that follow a sync byte: too few yet, a candidate to discard, or a valid frame with its
payload and the bytes after it. -/
inductive Candidate where
  | incomplete
  | discarded
  | valid (payload after : List Byte)
  deriving DecidableEq, Repr

/-- The check of a frame, from its two bytes, high byte first (R181). -/
def checkOf (high low : Byte) : BitVec 16 := high ++ low

/-- Whether a frame that has been taken whole is valid: a REQUEST with a matching check (R182). -/
def judgeFrame (kind len : Byte) (rest : List Byte) : Candidate :=
  let payload := rest.take len.toNat
  match rest.drop len.toNat with
  | high :: low :: after =>
    if kind = 0x01 ∧ crc (kind :: len :: payload) = checkOf high low then .valid payload after else .discarded
  | _ => .incomplete

/-- The candidate that some bytes after a sync byte make (R182). -/
def judge (bytes : List Byte) : Candidate :=
  match bytes with
  | kind :: len :: rest => if 60 < len.toNat then .discarded else judgeFrame kind len rest
  | _ => .incomplete

/-- What a search of some bytes comes to: the receiver as the bytes leave it, with the first valid frame met and the bytes after
it. -/
inductive Hunt where
  | rests (receiver : Receiver)
  | frame (payload after : List Byte)
  deriving DecidableEq, Repr

/-- The receiver hunts through some bytes (R182). -/
def hunt : List Byte → Hunt
  | [] => .rests .hunting
  | b :: rest =>
    if b = 0xA5 then
      match judge rest with
      | .incomplete => .rests (.assembling rest)
      | .discarded => hunt rest
      | .valid payload after => .frame payload after
    else hunt rest

/-- The payloads of the valid frames among some bytes, in the order they lie, and the receiver as the bytes leave it (R182); the
search runs on after each frame. Every frame takes bytes, so as many searches as there are bytes are enough. -/
def huntAll : Nat → List Byte → List (List Byte) × Receiver
  | 0, _ => ([], .hunting)
  | fuel + 1, bytes =>
    match hunt bytes with
    | .rests r => ([], r)
    | .frame payload after => (payload :: (huntAll fuel after).1, (huntAll fuel after).2)

end Sys2Proof.Machine
end

