-- ==== Sys2Proof/Machine/ShockCommands.lean ====
section
/-! DEFINITION. The meanings of the Shock Monitor's commands. -/

namespace Sys2Proof.Machine

/-- An accelerometer sample, in the order of R128. -/
def acceptSample (x y z : Int) (s : State) : State :=
  forwardMotion x y z (takeSample (squaredMagnitude x y z) (updShm (fun m => { m with silence := some 0 }) s))

/-- ACCEL_SAMPLE (R128). -/
def execAccelSample (x y z : Int) (s : State) : Host.Outcome State Fault Refusal :=
  complete (afterSettle (acceptSample x y z) s)

/-- SETTLE_TIMEOUT (R139). -/
def execSettleTimeout (s : State) : Host.Outcome State Fault Refusal := complete (settleExpired s)

/-- The sample silence timer has reached 50 ms (R144); the timer runs on. -/
def samplesSilent (s : State) : State :=
  match s.shm.silence with
  | some e => sensorLost (updShm (fun m => { m with silence := some (max e sampleSilenceLimit) }) s)
  | none => s

/-- SAMPLE_SILENCE_TIMEOUT (R144). -/
def execSampleSilenceTimeout (s : State) : Host.Outcome State Fault Refusal := complete (samplesSilent s)

/-- Whether the sample silence timer stands at 50 ms or more. -/
def samplesLost (s : State) : Bool :=
  match s.shm.silence with
  | some e => decide (sampleSilenceLimit ≤ e)
  | none => false

/-- Arming from DISARMED (R146): IDLE, and UNAVAILABLE at once where the samples have been lost. -/
def armMonitor (s : State) : State :=
  let t := enterQuiet .idle s
  if samplesLost t then enterQuiet .unavailable t else t

/-- The SHM's answer to SHOCK_ARM (R146). -/
def shockArmAnswer (args : List Byte) (s : State) : Answer :=
  match args with
  | [] => if s.shm.state = .disarmed then answer .ok [] (armMonitor s) else answer .already [] s
  | _ => badLength s

/-- SHOCK_ARM (R146). -/
def execShockArm (tag : Byte) (args : List Byte) (s : State) : Host.Outcome State Fault Refusal :=
  complete (handleRequest tag 0x40 (shockArmAnswer args) (take (.shockArm tag args) s))

/-- Disarming by state (R146). -/
def disarmMonitor (s : State) : Answer :=
  match s.shm.state with
  | .disarmed => answer .already [] s
  | .idle => answer .ok [] (enterQuiet .disarmed s)
  | .falling => answer .busy [] s
  | .impact => answer .busy [] s
  | .settling => answer .busy [] s
  | .unavailable => answer .busy [] s

/-- The SHM's answer to SHOCK_DISARM (R146). -/
def shockDisarmAnswer (args : List Byte) (s : State) : Answer :=
  match args with
  | [] => disarmMonitor s
  | _ => badLength s

/-- SHOCK_DISARM (R146). -/
def execShockDisarm (tag : Byte) (args : List Byte) (s : State) : Host.Outcome State Fault Refusal :=
  complete (handleRequest tag 0x41 (shockDisarmAnswer args) (take (.shockDisarm tag args) s))

/-- The quiesce-kept mark is cleared, and outside an event the line released (R143). -/
def releaseQuiesce (s : State) : State :=
  if s.shm.quiesceKept then
    updShm (fun m => { m with quiesceKept := false, quiesceLine := m.state.isEvent && m.quiesceLine }) s
  else s

/-- The SHM's answer to QUIESCE_RELEASE (R143). -/
def quiesceReleaseAnswer (args : List Byte) (s : State) : Answer :=
  match args with
  | [] => answer .ok [] (releaseQuiesce s)
  | _ => badLength s

/-- QUIESCE_RELEASE (R143). -/
def execQuiesceRelease (tag : Byte) (args : List Byte) (s : State) : Host.Outcome State Fault Refusal :=
  complete (handleRequest tag 0x42 (quiesceReleaseAnswer args) (take (.quiesceRelease tag args) s))

end Sys2Proof.Machine
end

