-- ==== Sys2Proof/Machine/TableCommands.lean ====
section
/-! DEFINITION. The meanings of the Table Store's commands and of the swaps its blocks take (chapter 9). -/

namespace Sys2Proof.Machine

/-! ### The swap of table 0 at each block (R174) -/

/-- A running bridge timer meets a new P13 (R30). -/
def meetBridgeLimit (s : State) : State :=
  match s.ppc.bridgeTimer with
  | some e => if ms (paramN s 13) ≤ e then bridgeExpired s else s
  | none => s

/-- The BBC meets new P33 and P34 (R57, R62). -/
def busTakesParams (s : State) : State := meetDeferredExpiry (meetPollPeriod .B (meetPollPeriod .A s))

/-- The CC evaluates arbitration where P42 has changed (R81). -/
def chargerTakesParams (changed : List Nat) (s : State) : State := if changed.contains 42 then arbitrate s else s

/-- The BLC meets a new P38, recomputes the thermal cap, and recomputes the target (R102, R116 to R119). Where both sensors fail at once
the front fails first (assumption 53). -/
def backlightTakesParams (s : State) : State :=
  recomputeTarget (refreshThermalCap (failIfSilent .rear (failIfSilent .front s)))

/-- A running settle timer meets a new P8 (R139). -/
def meetSettleLimit (s : State) : State :=
  match s.shm.settleTimer with
  | some e => if ms (paramN s 8) ≤ e then settleExpired s else s
  | none => s

/-- The silence timer meets a new P32 (R189): 0 stops it, and a timer stopped until now starts while silence does not stand. -/
def linkTakesParams (s : State) : State :=
  let timer := if paramN s 32 = 0 ∨ s.lu.silence then none else some (s.lu.silenceTimer.getD 0)
  { s with lu := { s.lu with silenceTimer := timer } }

/-- A block takes a swap of table 0 (R174). -/
def takeParams (block : Block) (changed : List Nat) (s : State) : State :=
  match block with
  | .icu => changeLengths .table0 s
  | .ppc => meetBridgeLimit s
  | .bbc => busTakesParams s
  | .cc => chargerTakesParams changed s
  | .bu => recomputeBudget s
  | .blc => backlightTakesParams s
  | .shm => meetSettleLimit s
  | .lu => linkTakesParams s

/-- TABLE0_SWAP_DELIVERY (R174). -/
def execTable0SwapDelivery (block : Block) (changed : List Nat) (s : State) : Host.Outcome State Fault Refusal :=
  complete (takeParams block changed (take (.table0SwapDelivery block changed) s))

/-- A block takes a swap of table 3 (R175): it is delivered to the CC and the BU alone. -/
def takeProfiles (block : Block) (s : State) : State :=
  match block with
  | .cc => rematchAll s
  | .bu => recomputeBudget s
  | .icu => s
  | .ppc => s
  | .bbc => s
  | .blc => s
  | .shm => s
  | .lu => s

/-- TABLE3_SWAP_DELIVERY (R175). -/
def execTable3SwapDelivery (block : Block) (s : State) : Host.Outcome State Fault Refusal :=
  complete (takeProfiles block (take (.table3SwapDelivery block) s))

/-! ### Requests (R170, R172, R177, R178) -/

/-- The answer to TABLE_WRITE (R170, R183): the LU requires at least 2 argument bytes. -/
def tableWriteAnswer (args : List Byte) (s : State) : Answer :=
  match args with
  | table :: index :: entry => writeEntry table.toNat index.toNat entry s
  | _ => badLength s

/-- TABLE_WRITE (R170). -/
def execTableWrite (tag : Byte) (args : List Byte) (s : State) : Host.Outcome State Fault Refusal :=
  complete (handleRequest tag 0x10 (tableWriteAnswer args) (take (.tableWrite tag args) s))

/-- The answer to TABLE_APPLY (R172). -/
def tableApplyAnswer (args : List Byte) (s : State) : Answer :=
  match args with
  | [table] => applyTable table.toNat s
  | _ => badLength s

/-- TABLE_APPLY (R172). -/
def execTableApply (tag : Byte) (args : List Byte) (s : State) : Host.Outcome State Fault Refusal :=
  complete (handleRequest tag 0x11 (tableApplyAnswer args) (take (.tableApply tag args) s))

/-- The answer to TABLE_DISCARD (R177). -/
def tableDiscardAnswer (args : List Byte) (s : State) : Answer :=
  match args with
  | [table] => discardTable table.toNat s
  | _ => badLength s

/-- TABLE_DISCARD (R177). -/
def execTableDiscard (tag : Byte) (args : List Byte) (s : State) : Host.Outcome State Fault Refusal :=
  complete (handleRequest tag 0x12 (tableDiscardAnswer args) (take (.tableDiscard tag args) s))

/-- The answer to TABLE_READ (R178). -/
def tableReadAnswer (args : List Byte) (s : State) : Answer :=
  match args with
  | [table, index, copy] => readTable table.toNat index.toNat copy.toNat s
  | _ => badLength s

/-- TABLE_READ (R178). -/
def execTableRead (tag : Byte) (args : List Byte) (s : State) : Host.Outcome State Fault Refusal :=
  complete (handleRequest tag 0x13 (tableReadAnswer args) (take (.tableRead tag args) s))

end Sys2Proof.Machine
end

