-- ==== Sys2Proof/Machine/RequestCommands.lean ====
section
/-! DEFINITION. A REQUEST payload taken from the bytes of a discarded candidate (R182, R183): the owner its code names (section 10.7)
and the meaning of FRAME_DISCARDED. -/

namespace Sys2Proof.Machine

/-- The owner that answers a request code (section 10.7); a code not in the table is answered UNKNOWN_REQUEST (R183, step 4). -/
def ownerOf (code : Nat) (args : List Byte) : State → Answer :=
  match code with
  | 0x01 => identifyAnswer args
  | 0x02 => stateReadAnswer args
  | 0x03 => companionResetAnswer args
  | 0x10 => tableWriteAnswer args
  | 0x11 => tableApplyAnswer args
  | 0x12 => tableDiscardAnswer args
  | 0x13 => tableReadAnswer args
  | 0x20 => packReadAnswer args
  | 0x21 => packWriteAnswer args
  | 0x22 => bayReleaseAnswer args
  | 0x23 => railAnswer args
  | 0x30 => overridePushAnswer args
  | 0x31 => overridePopAnswer args
  | 0x32 => offsetSetAnswer args
  | 0x40 => shockArmAnswer args
  | 0x41 => shockDisarmAnswer args
  | 0x42 => quiesceReleaseAnswer args
  | 0x50 => logReadAnswer args
  | 0x51 => logClearAnswer args
  | 0x52 => logClearAllAnswer args
  | 0x53 => logLockAnswer args
  | 0x54 => timeSetAnswer args
  | 0x60 => packMemoryReadAnswer args
  | 0x61 => packForgetAnswer args
  | 0x62 => packClearShockAnswer args
  | _ => answer .unknownRequest []

/-- A valid frame's payload is taken as a request (R183); one shorter than 2 bytes is discarded (step 2). -/
def takePayload (payload : List Byte) (s : State) : State :=
  match payload with
  | tag :: code :: args => handleRequest tag code (ownerOf code.toNat args) s
  | _ => acceptFrame s

/-- The receiver in a state. -/
def setReceiver (r : Receiver) (s : State) : State := updLu (fun l => { l with receiver := r }) s

/-- The receiver searches the bytes of a discarded candidate after its sync byte (R182, assumption 28): each valid frame among them is
taken as a request, in the order the frames lie, and the receiver stays as the last bytes leave it. -/
def discardCandidate (candidate : List Byte) (s : State) : State :=
  let found := huntAll (candidate.length + 1) candidate
  setReceiver found.2 (found.1.foldl (fun u payload => finish (takePayload payload u)) s)

/-- FRAME_DISCARDED (R182). -/
def execFrameDiscarded (candidate : List Byte) (s : State) : Host.Outcome State Fault Refusal :=
  complete (afterSettle (discardCandidate candidate) (take (.frameDiscarded candidate) s))

end Sys2Proof.Machine
end

