-- ==== Sys2Proof/Machine/Dispatch.lean ====
section
/-! DEFINITION. The effect of every command on everything but the queue of commands: one arm per row of the opcode table. -/

namespace Sys2Proof.Machine

def exec (i : Instr) (s : State) : Host.Outcome State Fault Refusal :=
  match i with
  | .powerOnReset => Sys2Proof.Machine.execPowerOnReset s
  | .supplySettleEnd => Sys2Proof.Machine.execSupplySettleEnd s
  | .rawLevelChange input asserted => Sys2Proof.Machine.execRawLevelChange input asserted s
  | .stabilityTimerExpiry input => Sys2Proof.Machine.execStabilityTimerExpiry input s
  | .filterLengthChange cause => Sys2Proof.Machine.execFilterLengthChange cause s
  | .ppcPresRising bay => Sys2Proof.Machine.execPpcPresRising bay s
  | .ppcPresFalling bay => Sys2Proof.Machine.execPpcPresFalling bay s
  | .ppcLatchRising bay => Sys2Proof.Machine.execPpcLatchRising bay s
  | .ppcLatchFalling bay => Sys2Proof.Machine.execPpcLatchFalling bay s
  | .ppcRelRising bay => Sys2Proof.Machine.execPpcRelRising bay s
  | .ppcRelFalling bay => Sys2Proof.Machine.execPpcRelFalling bay s
  | .bbcPresFalling bay => Sys2Proof.Machine.execBbcPresFalling bay s
  | .blcLidEdge closed => Sys2Proof.Machine.execBlcLidEdge closed s
  | .sourceMonitorReading vdc va vb vres => Sys2Proof.Machine.execSourceMonitorReading vdc va vb vres s
  | .overlapComplete => Sys2Proof.Machine.execOverlapComplete s
  | .bridgeTargetClose => Sys2Proof.Machine.execBridgeTargetClose s
  | .bridgeTimerExpiry => Sys2Proof.Machine.execBridgeTimerExpiry s
  | .releaseHoldTimerExpiry bay => Sys2Proof.Machine.execReleaseHoldTimerExpiry bay s
  | .graceExpiry => Sys2Proof.Machine.execGraceExpiry s
  | .releaseLapseExpiry bay => Sys2Proof.Machine.execReleaseLapseExpiry bay s
  | .ppcShockHoldStart => Sys2Proof.Machine.execPpcShockHoldStart s
  | .ppcShockHoldEnd => Sys2Proof.Machine.execPpcShockHoldEnd s
  | .ppcIdentificationOutcome bay outcome => Sys2Proof.Machine.execPpcIdentificationOutcome bay outcome s
  | .ppcTelemetry bay telemetry => Sys2Proof.Machine.execPpcTelemetry bay telemetry s
  | .ccTelemetry bay telemetry => Sys2Proof.Machine.execCcTelemetry bay telemetry s
  | .transactionEnd reply => Sys2Proof.Machine.execTransactionEnd reply s
  | .transactionTimeout => Sys2Proof.Machine.execTransactionTimeout s
  | .pollTimerExpiry bay => Sys2Proof.Machine.execPollTimerExpiry bay s
  | .deferredExpiry => Sys2Proof.Machine.execDeferredExpiry s
  | .budgetRecompute => Sys2Proof.Machine.execBudgetRecompute s
  | .cappedEvaluation demand => Sys2Proof.Machine.execCappedEvaluation demand s
  | .blcPublication powerCap swapFlag => Sys2Proof.Machine.execBlcPublication powerCap swapFlag s
  | .blcRailChange on => Sys2Proof.Machine.execBlcRailChange on s
  | .lightSample sensor lux saturated => Sys2Proof.Machine.execLightSample sensor lux saturated s
  | .lightSensorTimeout sensor => Sys2Proof.Machine.execLightSensorTimeout sensor s
  | .temperatureSample reading => Sys2Proof.Machine.execTemperatureSample reading s
  | .temperatureSilenceTimeout => Sys2Proof.Machine.execTemperatureSilenceTimeout s
  | .rampTick => Sys2Proof.Machine.execRampTick s
  | .accelSample x y z => Sys2Proof.Machine.execAccelSample x y z s
  | .settleTimeout => Sys2Proof.Machine.execSettleTimeout s
  | .sampleSilenceTimeout => Sys2Proof.Machine.execSampleSilenceTimeout s
  | .clockAdvance => Sys2Proof.Machine.execClockAdvance s
  | .table0SwapDelivery block changed => Sys2Proof.Machine.execTable0SwapDelivery block changed s
  | .table3SwapDelivery block => Sys2Proof.Machine.execTable3SwapDelivery block s
  | .upstreamLineFree => Sys2Proof.Machine.execUpstreamLineFree s
  | .linkSilenceTimeout => Sys2Proof.Machine.execLinkSilenceTimeout s
  | .frameDiscarded candidate => Sys2Proof.Machine.execFrameDiscarded candidate s
  | .unknownRequest tag code args => Sys2Proof.Machine.execUnknownRequest tag code args s
  | .identify tag args => Sys2Proof.Machine.execIdentify tag args s
  | .stateRead tag args => Sys2Proof.Machine.execStateRead tag args s
  | .companionReset tag args => Sys2Proof.Machine.execCompanionReset tag args s
  | .managementReset => Sys2Proof.Machine.execManagementReset s
  | .tableWrite tag args => Sys2Proof.Machine.execTableWrite tag args s
  | .tableApply tag args => Sys2Proof.Machine.execTableApply tag args s
  | .tableDiscard tag args => Sys2Proof.Machine.execTableDiscard tag args s
  | .tableRead tag args => Sys2Proof.Machine.execTableRead tag args s
  | .packRead tag args => Sys2Proof.Machine.execPackRead tag args s
  | .packWrite tag args => Sys2Proof.Machine.execPackWrite tag args s
  | .bayRelease tag args => Sys2Proof.Machine.execBayRelease tag args s
  | .rail tag args => Sys2Proof.Machine.execRail tag args s
  | .overridePush tag args => Sys2Proof.Machine.execOverridePush tag args s
  | .overridePop tag args => Sys2Proof.Machine.execOverridePop tag args s
  | .offsetSet tag args => Sys2Proof.Machine.execOffsetSet tag args s
  | .shockArm tag args => Sys2Proof.Machine.execShockArm tag args s
  | .shockDisarm tag args => Sys2Proof.Machine.execShockDisarm tag args s
  | .quiesceRelease tag args => Sys2Proof.Machine.execQuiesceRelease tag args s
  | .logRead tag args => Sys2Proof.Machine.execLogRead tag args s
  | .logClear tag args => Sys2Proof.Machine.execLogClear tag args s
  | .logClearAll tag args => Sys2Proof.Machine.execLogClearAll tag args s
  | .logLock tag args => Sys2Proof.Machine.execLogLock tag args s
  | .timeSet tag args => Sys2Proof.Machine.execTimeSet tag args s
  | .packMemoryRead tag args => Sys2Proof.Machine.execPackMemoryRead tag args s
  | .packForget tag args => Sys2Proof.Machine.execPackForget tag args s
  | .packClearShock tag args => Sys2Proof.Machine.execPackClearShock tag args s
  | .shortPayloadRequest payload => Sys2Proof.Machine.execShortPayloadRequest payload s

end Sys2Proof.Machine
end

