-- ==== Sys2Proof/Machine/Idle.lean ====
section
/-! DEFINITION. What the part does while no command waits: events between blocks, expiries and time (assumption 3). -/

namespace Sys2Proof.Machine

/-- What the part does while no command waits: it takes the oldest event one block has handed another, or the first expiry that is
due, or lets one tick of 5 µs pass (assumption 3). -/
def idleStep (s : State) : Host.Outcome State Fault Refusal :=
  match s.delivered with
  | e :: _ => exec e s
  | [] =>
    match due s with
    | some i => exec i s
    | none => .next (tick s)

end Sys2Proof.Machine
end

