-- ==== Sys2Proof/Machine/Step.lean ====
section
/-! DEFINITION. One step of the companion: the command at the front of the queue; on an empty queue the oldest event delivered
between blocks, then the first expiry that is due, then one tick of time (assumption 3). -/

namespace Sys2Proof.Machine

/-- One step: the command at the front of the queue is executed with the queue's rest (assumption 1). -/
def step (s : State) : Host.Outcome State Fault Refusal :=
  match s.pending with
  | c :: rest => exec c { s with pending := rest }
  | [] => idleStep s

/-- The state with the command a table word spells put at the front of its queue; no table word spells one, so the state is
unchanged. -/
def State.withFetchWord (s : State) (nbits w : Nat) : State :=
  match decodeTableWord nbits w with
  | some c => { s with pending := c :: s.pending }
  | none => s

end Sys2Proof.Machine
end

