-- ==== Sys2Proof/Safety.lean ====
section
/-! DEFINITION. The words claims are written in: the parts of the state, what a step leaves unchanged, the boundary of a request,
and the invariants of the companion's bounded collections. -/

namespace Sys2Proof.Machine

/-! ### What a step leaves unchanged -/

/-- The parts of the state, one per field. -/
inductive Part where
  | settling
  | icu
  | ppc
  | bbc
  | cc
  | bu
  | blc
  | shm
  | dl
  | ts
  | lu
  | delivered
  | freeIndex
  | pending
  deriving DecidableEq, Repr

/-- Two states agree on a part. -/
def Part.Same (s t : State) : Part → Prop
  | .settling => t.settling = s.settling
  | .icu => t.icu = s.icu
  | .ppc => t.ppc = s.ppc
  | .bbc => t.bbc = s.bbc
  | .cc => t.cc = s.cc
  | .bu => t.bu = s.bu
  | .blc => t.blc = s.blc
  | .shm => t.shm = s.shm
  | .dl => t.dl = s.dl
  | .ts => t.ts = s.ts
  | .lu => t.lu = s.lu
  | .delivered => t.delivered = s.delivered
  | .freeIndex => t.freeIndex = s.freeIndex
  | .pending => t.pending = s.pending

/-- Every part of the state but the named ones is unchanged. -/
def KeepsAllBut (changed : List Part) (s t : State) : Prop := ∀ p : Part, p ∉ changed → p.Same s t

/-- In the PPC, every field but the bay record of one bay is unchanged. -/
def OnlyBayRecord (b : Bay) (s t : State) : Prop := t.ppc = { s.ppc with bays := s.ppc.bays.set b (bayOf t b) }

/-! ### Requests -/

/-- The Link Unit hands a request to its owner (R182, R183): the settle interval is over, no reset is pending, and fewer than 8
responses wait. -/
def LinkOpen (s : State) : Prop := s.settling = none ∧ s.lu.resetPending = false ∧ s.lu.responses.length < 8

/-- The state in which a request has been received and answered, nothing else having changed (R182 to R184, R189): the valid
frame has restarted the silence timer and ended silence, and the response has joined the queue with the overrun mark. -/
def answered (tag code : Byte) (status : Status) (results : List Byte) (s : State) : State :=
  respond tag code status results (acceptFrame s)

/-! ### The backlight's target -/

/-- `u` is `s` after one recomputation of the backlight's target with the lid closed or open: U is the top of the override stack, or Th
with the offset; C is the lowest of the caps that apply; T is 0 while blanked and otherwise the higher of the floor and the lower of U
and C (R112, R115, R118, R119); the demand is handed to the Budget Unit (R120); the output falls to 0 while blanked, to T while above the
ceiling, and otherwise stays (R122). Before the first publication the caps are those of (0, off) (assumption 26). The backlight keeps the lid it was recomputed with. -/
def TargetRecomputedWith (closed : Bool) (s u : State) : Prop :=
  let user := s.blc.stack.head?.getD (max 0 (min 1000 ((s.blc.held : Int) + s.blc.offset))).toNat
  let pair := s.blc.publication.getD (0, false)
  let cap := if pair.2 then min (min s.blc.thermalCap pair.1) (paramN s 21) else min s.blc.thermalCap pair.1
  let blank := s.blc.railOn = false ∨ closed = true
  let target := if blank then 0 else max (paramN s 20) (min user cap)
  let demand := if blank then 0 else min user s.blc.thermalCap
  u = { s with
    blc := { s.blc with
      lidClosed := closed,
      target := target,
      demand := demand,
      output := if blank then 0 else if max (paramN s 20) cap < s.blc.output then target else s.blc.output },
    delivered := s.delivered ++ [.cappedEvaluation demand] }

/-- `u` is `s` after one recomputation of the backlight's target, the lid as the ICU's filtered state has it (R8, R119). -/
def TargetRecomputed (s u : State) : Prop := TargetRecomputedWith (filtered s .lid) s u

/-! ### Limits of the running timers -/

/-- A running timer has reached the limit at which its expiry falls, and the expiry has something to act on: settling at 64 ms (R2), an
input at its filter length (R3), OVERLAP at 2 ms (R27), BRIDGE at 1 ms (R28), the bridge timer at P13 (R30), a hold timer at P15 with the
forced-release record empty (R39, assumption 19), the grace at P16 (R40), a RELEASED bay's lapse timer at P40 (R41), a transaction at its own
limit (R48), a poll timer at P34 (R57), a DONE read at P33 (R62), the silence of a working light sensor at P38 (R102), the temperature's at
3000 ms with its mark clear (R117), the ramp phase at 10 ms (R121), the settle timer at P8 in SETTLING (R139), the samples' silence at 50 ms
outside DISARMED and UNAVAILABLE (R144), the clock phase at 1000 ms (R164), the line's last character (R187), and link silence at P32
(R189). P15, P16 and P40 are the values now active, also where they were lowered under a running timer (assumption 54). -/
def LimitReached (s : State) : Instr → Prop
  | .supplySettleEnd => ∃ e, s.settling = some e ∧ ms 64 ≤ e
  | .stabilityTimerExpiry i => ∃ e, (inputOf s.icu i).timer = some e ∧ ms (filterLength s.icu i) ≤ e
  | .overlapComplete => ∃ t, s.ppc.transfer = some t ∧ t.phase = .overlap ∧ ms 2 ≤ t.elapsed
  | .bridgeTargetClose => ∃ t, s.ppc.transfer = some t ∧ t.phase = .bridge ∧ ms 1 ≤ t.elapsed
  | .bridgeTimerExpiry => ∃ e, s.ppc.bridgeTimer = some e ∧ ms (paramN s 13) ≤ e
  | .releaseHoldTimerExpiry b => s.ppc.forced = none ∧ ∃ e, (bayOf s b).holdTimer = some e ∧ ms (paramN s 15) ≤ e
  | .graceExpiry => ∃ f, s.ppc.forced = some f ∧ ms (paramN s 16) ≤ f.grace
  | .releaseLapseExpiry b => (bayOf s b).state = .released ∧ ∃ e, (bayOf s b).lapseTimer = some e ∧ ms (paramN s 40) ≤ e
  | .transactionTimeout => ∃ t, s.bbc.inFlight = some t ∧ t.limit ≤ t.elapsed
  | .pollTimerExpiry b => ∃ e, (busOf s b).pollTimer = some e ∧ ms (paramN s 34) ≤ e
  | .deferredExpiry => ∃ d r bytes e, s.bbc.deferred = some d ∧ d.state = .done r bytes e ∧ ms (paramN s 33) ≤ e
  | .lightSensorTimeout x =>
    (sensorOf s.blc x).failed = false ∧ ∃ e, (sensorOf s.blc x).silence = some e ∧ ms (paramN s 38) ≤ e
  | .temperatureSilenceTimeout => s.blc.tempSilent = false ∧ ∃ e, s.blc.tempSilence = some e ∧ ms 3000 ≤ e
  | .rampTick => ∃ e, s.blc.rampPhase = some e ∧ ms 10 ≤ e
  | .settleTimeout => s.shm.state = .settling ∧ ∃ e, s.shm.settleTimer = some e ∧ ms (paramN s 8) ≤ e
  | .sampleSilenceTimeout =>
    s.shm.state ≠ .disarmed ∧ s.shm.state ≠ .unavailable ∧ ∃ e, s.shm.silence = some e ∧ ms 50 ≤ e
  | .clockAdvance => ∃ e, s.dl.clockPhase = some e ∧ ms 1000 ≤ e
  | .upstreamLineFree => ∃ f, s.lu.line = some f ∧ f.left = 0
  | .linkSilenceTimeout => ∃ e, s.lu.silenceTimer = some e ∧ ms (paramN s 32) ≤ e
  | _ => False

/-! ### Table entries -/

/-- The bytes of an entry of tables 1 to 4 hold every field in its write range (R76, R108, R152, R171): a point up to 131,071 lux and
1000, the count 1 to 16 with a level of 0; yes-or-no 0 or 1 (assumption 10), conditions 0 to 2, severity to 3, actions in bits 0 to 3
(assumption 22); chemistry to 15 or 255, the charge values in R76's ranges; a level to 7, and 0 at the last three indices. -/
def EntryInRange (table index : Nat) (entry : List Byte) : Prop :=
  match table, entry with
  | 1, [b0, b1, b2, b3, l0, l1] =>
    if index = 16 then 1 ≤ le4 b0 b1 b2 b3 ∧ le4 b0 b1 b2 b3 ≤ 16 ∧ le2 l0 l1 = 0
    else le4 b0 b1 b2 b3 ≤ 131071 ∧ le2 l0 l1 ≤ 1000
  | 2, [v, _, _, _, _, _, _, _, _, f, l, d, c, a, b, severity, actions] =>
    v.toNat ≤ 1 ∧ (∀ x ∈ [f, l, d, c, a, b], x.toNat ≤ 2) ∧ severity.toNat ≤ 3 ∧ actions.toNat ≤ 15
  | 3, [v, chemistry, _, _, _, _, _, _, _, _, v0, v1, c0, c1, e0, e1, l0, l1, h0, h1, d0, d1] =>
    v.toNat ≤ 1 ∧ (chemistry.toNat ≤ 15 ∨ chemistry.toNat = 255) ∧ 8000 ≤ le2 v0 v1 ∧ le2 v0 v1 ≤ 20000
      ∧ 100 ≤ le2 c0 c1 ∧ le2 c0 c1 ≤ 6000 ∧ 20 ≤ le2 e0 e1 ∧ le2 e0 e1 ≤ 1000
      ∧ -400 ≤ signed16 (le2 l0 l1) ∧ signed16 (le2 l0 l1) ≤ 1250 ∧ -400 ≤ signed16 (le2 h0 h1) ∧ signed16 (le2 h0 h1) ≤ 1250
      ∧ 500 ≤ le2 d0 d1 ∧ le2 d0 d1 ≤ 10000
  | 4, [level] => level.toNat ≤ if 29 ≤ index then 0 else 7
  | _, _ => False

/-! ### Invariants -/

/-- The drop log's entries are bounded and ordered (R155, R158): at most 32 records, at most 16 of them preserved, sequences
rising strictly in order of age and all below the next-sequence counter. -/
def LogSound (s : State) : Prop :=
  s.dl.log.length ≤ 32 ∧ (s.dl.log.filter fun r => r.preserved).length ≤ 16
    ∧ (s.dl.log.map DropRecord.sequence).Pairwise (· < ·) ∧ ∀ r ∈ s.dl.log, r.sequence < s.dl.nextSequence

/-- The override stack holds at most 4 levels (R113), each a per-mille level. -/
def StackSound (s : State) : Prop := s.blc.stack.length ≤ 4 ∧ ∀ l ∈ s.blc.stack, l ≤ 1000

/-- The Link Unit's queues are within their lengths: 8 responses (R184) and 16 traffic frames (R188). -/
def QueuesSound (s : State) : Prop := s.lu.responses.length ≤ 8 ∧ s.lu.traffic.length ≤ 16

/-- The notice pending set holds each kind once, with a repeat count from 1 to 255 and a level above 0 (R186). -/
def NoticesSound (s : State) : Prop :=
  (s.lu.notices.map fun e => e.notice.kind).Nodup ∧ ∀ e ∈ s.lu.notices, 1 ≤ e.count ∧ e.count ≤ 255 ∧ e.level ≠ 0

/-- The posted write queue holds at most four writes (R63). -/
def PostedSound (s : State) : Prop := s.bbc.posted.length ≤ 4

/-- While the rail is OFF or the lid closed, as the Backlight Controller holds them, target and output are 0 (R119, R122). -/
def BlankedDark (s : State) : Prop := s.blc.railOn = false ∨ s.blc.lidClosed = true → s.blc.target = 0 ∧ s.blc.output = 0

/-- The quiesce line is asserted in the event states and otherwise exactly while the quiesce-kept mark is set; a kept mark keeps the
line; an event in progress has its snapshot (R132, R140, R143). -/
def QuiesceSound (s : State) : Prop :=
  (s.shm.state.isEvent = true → s.shm.quiesceLine = true ∧ s.shm.snapshot.isSome)
    ∧ (s.shm.state.isEvent = false → s.shm.quiesceLine = s.shm.quiesceKept)

/-- The switches, states and transfer of the power path agree (R13, R16, R17, R25, R27, R28, R31): a charge switch is closed exactly in
CHARGING, and then DC feeds alone; a discharge switch is closed only in SUPPLYING and RELEASING, and always in SUPPLYING; with the rail OFF
nothing feeds and no transfer is in flight; outside a transfer at most one source feeds; a transfer never has its target as its source, its
bridge has every switch open, and its overlap has exactly the switches of its source and its target closed. -/
def PathSound (s : State) : Prop :=
  (∀ b : Bay, ((bayOf s b).charge = true ↔ (bayOf s b).state = .charging)
      ∧ ((bayOf s b).discharge = true → (bayOf s b).state = .supplying ∨ (bayOf s b).state = .releasing)
      ∧ ((bayOf s b).state = .supplying → (bayOf s b).discharge = true)
      ∧ ((bayOf s b).state = .charging → dcFeedsAlone s = true))
    ∧ (s.ppc.railOn = false → anyFeeding s = false ∧ s.ppc.transfer = none)
    ∧ (s.ppc.transfer = none → ∀ x y : Source, switchClosed s x = true → switchClosed s y = true → x = y)
    ∧ ∀ t : Transfer, s.ppc.transfer = some t →
        t.source ≠ some t.target ∧ (t.phase = .bridge → anyFeeding s = false)
        ∧ (t.phase = .overlap → ∃ b : Bay, t.source = some (.bay b)
            ∧ ∀ x : Source, switchClosed s x = true ↔ x = .bay b ∨ x = t.target)

/-- The pack memory holds at most 8 entries, one per serial, and the pack of every bay that has an identity (R68, R69, R70); an EMPTY bay
has no identity (R15). -/
def MemorySound (s : State) : Prop :=
  s.cc.memory.length ≤ 8 ∧ (s.cc.memory.map PackEntry.serial).Nodup
    ∧ ∀ b : Bay, ((bayOf s b).state = .empty → (bayOf s b).identity = none)
      ∧ ∀ id : Identity, (bayOf s b).identity = some id → ∃ e ∈ s.cc.memory, e.serial = id.serial

/-- A curve with sixteen points whose count and points in use pass validation (R108, R172). -/
def CurveSound (c : Curve) : Prop :=
  c.points.length = 16 ∧ 1 ≤ c.count ∧ c.count ≤ 16 ∧ (∀ p ∈ c.used, p.1 ≤ 131071 ∧ p.2 ≤ 1000)
    ∧ (c.used.map Prod.fst).Pairwise (· < ·) ∧ (c.used.map Prod.snd).Pairwise (· ≤ ·)

/-- The tables' copies have their lengths, every parameter and level lies in its range, the active copies of tables 1 to 3 pass their
validation, and so does a staging copy that is apply pending (R169 to R173). P46 and P47 and the last three levels hold 0 (R171). -/
def TablesSound (s : State) : Prop :=
  (∀ l : List Int, l = s.ts.t0.active ∨ l = s.ts.t0.staging → l.length = 48 ∧ ∀ i < 48, paramInRange i (l.getD i 0) = true)
    ∧ (∀ l : List Nat, l = s.ts.t4.active ∨ l = s.ts.t4.staging → l.length = 32 ∧ ∀ i < 32, levelInRange i (l.getD i 0) = true)
    ∧ CurveSound s.ts.t1.active ∧ s.ts.t1.staging.points.length = 16
    ∧ (s.ts.t1.pending = true → CurveSound s.ts.t1.staging)
    ∧ s.ts.t2.active.length = 12 ∧ s.ts.t2.staging.length = 12 ∧ (∀ e ∈ s.ts.t2.active, classSound e = true)
    ∧ (s.ts.t2.pending = true → ∀ e ∈ s.ts.t2.staging, classSound e = true)
    ∧ s.ts.t3.active.length = 6 ∧ s.ts.t3.staging.length = 6 ∧ ∀ p ∈ s.ts.t3.active, profileSound p = true

end Sys2Proof.Machine
end

