-- ==== Sys2Proof/WellFormed.lean ====
section
/-! DEFINITION. Which commands are well formed: what each carries lies in the range its rule gives. A command outside its ranges is
given a meaning too (assumption 33), but no sensor, device, block or frame of the manual brings one. -/

namespace Sys2Proof

/-- A whole number within two bounds. -/
def within (low high v : Int) : Bool := decide (low ≤ v) && decide (v ≤ high)

/-- A source monitor reading in mV (R12). -/
def goodReading (v : Nat) : Bool := decide (v ≤ 25000)

/-- A two-byte field of a block. -/
def goodWord (v : Nat) : Bool := decide (v ≤ 65535)

/-- An identity as R50 lets it pass. -/
def goodIdentity (d : Identity) : Bool :=
  decide (1 ≤ d.serial) && decide (d.serial ≤ 4294967295) && decide (d.chemistry ≤ 15) && decide (1 ≤ d.cellCount)
    && decide (d.cellCount ≤ 6) && goodWord d.designCapacity && goodWord d.designVoltage

/-- A telemetry block as R51 lets it pass. -/
def goodTelemetry (t : Telemetry) : Bool :=
  goodWord t.voltage && within (-32768) 32767 t.current && within (-32768) 32767 t.temperature && decide (t.charge ≤ 100)
    && goodWord t.remainingEnergy && goodWord t.fullCapacity && goodWord t.cycleCount

/-- How an identification sequence may end (R55): a failed attempt's result is NAK, TIMEOUT or BAD_CHECK. -/
def goodOutcome : IdOutcome → Bool
  | .failed r => r != .done && r != .removed
  | .success d t => goodIdentity d && goodTelemetry t

/-- A device's reply: a block read brings at most 32 bytes (R47). -/
def goodReply : BusReply → Bool
  | .refused => true
  | .accepted bytes => decide (bytes.length ≤ 32)

/-- A per-mille level. -/
def goodLevel (v : Nat) : Bool := decide (v ≤ 1000)

/-- The argument bytes of a request fit a payload of 60 bytes beside its tag and code (R181, R183). -/
def goodArgs (args : List Byte) : Bool := decide (args.length ≤ 58)

/-- The commands whose carried values lie in their ranges. -/
def wellFormed : Instr → Bool
  | .powerOnReset => true
  | .supplySettleEnd => true
  | .rawLevelChange _ _ => true
  | .stabilityTimerExpiry _ => true
  | .filterLengthChange _ => true
  | .ppcPresRising _ => true
  | .ppcPresFalling _ => true
  | .ppcLatchRising _ => true
  | .ppcLatchFalling _ => true
  | .ppcRelRising _ => true
  | .ppcRelFalling _ => true
  | .bbcPresFalling _ => true
  | .blcLidEdge _ => true
  | .sourceMonitorReading vdc va vb vres => goodReading vdc && goodReading va && goodReading vb && goodReading vres
  | .overlapComplete => true
  | .bridgeTargetClose => true
  | .bridgeTimerExpiry => true
  | .releaseHoldTimerExpiry _ => true
  | .graceExpiry => true
  | .releaseLapseExpiry _ => true
  | .ppcShockHoldStart => true
  | .ppcShockHoldEnd => true
  | .ppcIdentificationOutcome _ o => goodOutcome o
  | .ppcTelemetry _ t => goodTelemetry t
  | .ccTelemetry _ t => goodTelemetry t
  | .transactionEnd reply => goodReply reply
  | .transactionTimeout => true
  | .pollTimerExpiry _ => true
  | .deferredExpiry => true
  | .budgetRecompute => true
  | .cappedEvaluation demand => goodLevel demand
  | .blcPublication powerCap _ => goodLevel powerCap
  | .blcRailChange _ => true
  | .lightSample _ lux _ => decide (lux ≤ 131071)
  | .lightSensorTimeout _ => true
  | .temperatureSample _ => true
  | .temperatureSilenceTimeout => true
  | .rampTick => true
  | .accelSample x y z => within (-32768) 32767 x && within (-32768) 32767 y && within (-32768) 32767 z
  | .settleTimeout => true
  | .sampleSilenceTimeout => true
  | .clockAdvance => true
  | .table0SwapDelivery _ changed => changed.all fun i => decide (i < 48)
  | .table3SwapDelivery block => block == .cc || block == .bu
  | .upstreamLineFree => true
  | .linkSilenceTimeout => true
  | .frameDiscarded candidate => decide (candidate.length ≤ 64)
  | .unknownRequest tag code args => goodArgs args && requestOf tag code args == .unknownRequest tag code args
  | .identify _ args => goodArgs args
  | .stateRead _ args => goodArgs args
  | .companionReset _ args => goodArgs args
  | .managementReset => true
  | .tableWrite _ args => goodArgs args
  | .tableApply _ args => goodArgs args
  | .tableDiscard _ args => goodArgs args
  | .tableRead _ args => goodArgs args
  | .packRead _ args => goodArgs args
  | .packWrite _ args => goodArgs args
  | .bayRelease _ args => goodArgs args
  | .rail _ args => goodArgs args
  | .overridePush _ args => goodArgs args
  | .overridePop _ args => goodArgs args
  | .offsetSet _ args => goodArgs args
  | .shockArm _ args => goodArgs args
  | .shockDisarm _ args => goodArgs args
  | .quiesceRelease _ args => goodArgs args
  | .logRead _ args => goodArgs args
  | .logClear _ args => goodArgs args
  | .logClearAll _ args => goodArgs args
  | .logLock _ args => goodArgs args
  | .timeSet _ args => goodArgs args
  | .packMemoryRead _ args => goodArgs args
  | .packForget _ args => goodArgs args
  | .packClearShock _ args => goodArgs args
  | .shortPayloadRequest payload => decide (payload.length ≤ 1)

end Sys2Proof
end

