-- ==== Sys2Proof/Certificates/Slice0/Obligations.lean ====
section
/-! DEFINITION. The statements for the provers. Each says what a command, an expiry or the whole companion does, from the
numbered rules of spec/. A step's next state is written `finish u`: `u` is the state the command's own effect leaves, and `finish`
is the bus grant and the line's choice that end every step (GrantByRank, LineTakesNextFrame). -/

section Statements

open Sys2Proof Sys2Proof.Machine

/-! ### One step -/

/-- A step runs the command at the front of the queue with the queue's rest (assumption 1). -/
def Obligations.StepRunsFrontCommand : Prop :=
  ∀ (c : Instr) (rest : List Instr) (s : State), step { s with pending := c :: rest } = exec c { s with pending := rest }

/-- Every command completes in every state: no meaning ends in a fault or a refusal, and what the manual refuses it refuses by a response
status (R183). -/
def Obligations.EveryCommandCompletes : Prop := ∀ (i : Instr) (s : State), ∃ t : State, exec i s = .next t

/-- On an empty queue the companion takes the oldest event delivered between blocks, else the first expiry that is due, else one
tick passes (section 1.5.7; the order is the model's choice, assumption 3).

One tick of 5 µs (assumption 4) counts every running timer and the times of the transfer, the grace and the transaction up by one, lets
one character leave on the line, and changes nothing else. An expiry is due exactly where some running timer has reached its limit: 64 ms
of settling, the filter lengths, 2 ms and 1 ms of a transfer, P13, P15 with the forced-release record empty (assumption 19), P16, P40, the
transaction's own limit, P34, P33, P38, 3000 ms, 10 ms, P8, 50 ms, 1000 ms, the line's last character, and P32 (R2, R3, R14, R27, R28, R30,
R39 to R41, R48, R57, R62, R102, R117, R121, R139, R144, R164, R187, R189). The model's choices: P15, P16 and P40 are compared as they are
now active, also where they were lowered under a running timer (assumption 54), and the 200 ms of R14 count in ticks (assumption 29). -/
def Obligations.IdleStepTakesEventsThenExpiries : Prop :=
  (∀ s : State, s.pending = [] →
     (∀ (e : Instr) (rest : List Instr), s.delivered = e :: rest → step s = exec e s)
     ∧ (∀ i : Instr, s.delivered = [] → due s = some i → step s = exec i s)
     ∧ (s.delivered = [] → due s = none → step s = .next (tick s)))
  ∧ (∀ s : State, (∀ i : Instr, due s = some i → LimitReached s i) ∧ (∀ i : Instr, LimitReached s i → due s ≠ none))
  ∧ ∀ (s t : State), t = tick s →
    let run := fun timer : Option Nat => timer.map (· + 1)
    KeepsAllBut [.settling, .icu, .ppc, .bbc, .blc, .shm, .dl, .lu] s t
    ∧ t.settling = run s.settling
    ∧ t.icu.hold = s.icu.hold ∧ t.icu.bayLength = s.icu.bayLength ∧ t.icu.housingLength = s.icu.housingLength
    ∧ (∀ i : Input, inputOf t.icu i = { inputOf s.icu i with timer := run (inputOf s.icu i).timer })
    ∧ t.ppc = { s.ppc with
        dc := (match s.ppc.dc with
          | .qualifying e => .qualifying (e + 1)
          | p => p),
        bridgeTimer := run s.ppc.bridgeTimer, bays := t.ppc.bays,
        transfer := s.ppc.transfer.map fun x => { x with elapsed := x.elapsed + 1 },
        forced := s.ppc.forced.map fun f => { f with grace := f.grace + 1 } }
    ∧ (∀ b : Bay, bayOf t b = { bayOf s b with
        holdTimer := run (bayOf s b).holdTimer, lapseTimer := run (bayOf s b).lapseTimer })
    ∧ t.bbc = { s.bbc with
        inFlight := s.bbc.inFlight.map fun x => { x with elapsed := x.elapsed + 1 }, bays := t.bbc.bays,
        deferred := s.bbc.deferred.map fun d => { d with
          state := (match d.state with
            | .done r bytes e => .done r bytes (e + 1)
            | st => st) } }
    ∧ (∀ b : Bay, busOf t b = { busOf s b with pollTimer := run (busOf s b).pollTimer })
    ∧ t.blc = { s.blc with
        front := { s.blc.front with silence := run s.blc.front.silence },
        rear := { s.blc.rear with silence := run s.blc.rear.silence },
        tempSilence := run s.blc.tempSilence, rampPhase := run s.blc.rampPhase }
    ∧ t.shm = { s.shm with settleTimer := run s.shm.settleTimer, silence := run s.shm.silence }
    ∧ t.dl = { s.dl with clockPhase := run s.dl.clockPhase }
    ∧ t.lu = { s.lu with
        line := s.lu.line.map fun f => { f with left := f.left - 1 }, silenceTimer := run s.lu.silenceTimer }

/-- The arbiter grants a free bus at once: IDENTIFY first, bay A's sequence before bay B's, then CHARGER, then FIELD ACCESS and
POLL in the order P37 gives; a transaction in flight is left (R47, R53, R54). -/
def Obligations.GrantByRank : Prop :=
  ∀ s : State, KeepsAllBut [.bbc] s (grantBus s)
    ∧ (s.bbc.inFlight.isSome → grantBus s = s)
    ∧ (∀ (b : Bay) (q : IdSequence), s.bbc.inFlight = none → (busOf s b).sequence = some q →
        (b = .B → (busOf s .A).sequence = none) →
        (grantBus s).bbc = { s.bbc with
          selector := some (segmentOf b),
          inFlight := some ⟨.identify b, segmentOf b, if q.candidate.isSome then .read 0x12 16 else .read 0x11 12, 0,
            ms (paramN s 35)⟩ })
    ∧ (∀ (l : ChargerList) (rest : List ChargerList) (w : Nat × Nat), s.bbc.inFlight = none →
        (busOf s .A).sequence = none → (busOf s .B).sequence = none → s.bbc.lists = l :: rest → l.writes.head? = some w →
        (grantBus s).bbc = { s.bbc with
          selector := some .C,
          inFlight := some ⟨.charger, .C, .write w.1 w.2, 0, ms (paramN s 35)⟩ })
    ∧ (∀ (w : PostedWrite) (rest : List PostedWrite), s.bbc.inFlight = none →
        (busOf s .A).sequence = none → (busOf s .B).sequence = none → s.bbc.lists = [] → s.bbc.deferred = none →
        s.bbc.posted = w :: rest →
        (paramN s 37 ≠ 1 ∨ (busOf s .A).pollDue = false ∧ (busOf s .B).pollDue = false) →
        (grantBus s).bbc = { s.bbc with
          selector := some w.segment,
          inFlight := some ⟨.posted, w.segment, .write w.command w.value, 0, ms (paramN s 35)⟩ })
    ∧ (∀ d : DeferredRead, s.bbc.inFlight = none →
        (busOf s .A).sequence = none → (busOf s .B).sequence = none → s.bbc.lists = [] → s.bbc.deferred = some d →
        d.state = .waiting → (∀ w ∈ s.bbc.posted, w.segment ≠ d.segment) →
        (paramN s 37 ≠ 1 ∨ (busOf s .A).pollDue = false ∧ (busOf s .B).pollDue = false) →
        (grantBus s).bbc = { s.bbc with
          selector := some d.segment,
          inFlight := some ⟨.deferred, d.segment, .read d.code d.length, 0, ms (paramN s 35)⟩,
          deferred := some { d with state := .inFlight } })
    ∧ (∀ b : Bay, s.bbc.inFlight = none → (busOf s .A).sequence = none → (busOf s .B).sequence = none → s.bbc.lists = [] →
        (paramN s 37 = 1 ∨ s.bbc.deferred = none ∧ s.bbc.posted = []) → (busOf s b).pollDue = true →
        (b = .B → (busOf s .A).pollDue = false) →
        (grantBus s).bbc = { s.bbc with
          selector := some (segmentOf b),
          inFlight := some ⟨.poll b, segmentOf b, .read 0x12 16, 0, ms (paramN s 35)⟩,
          bays := s.bbc.bays.set b { busOf s b with pollDue := false } })

/-- While the line is free the Link Unit begins the next frame: the response at the head, else the pending notice of the highest
level (the lowest kind among equals) unless silence stands, else the traffic at the head; a frame of n payload bytes takes n + 5
character times (R181, R187). -/
def Obligations.LineTakesNextFrame : Prop :=
  ∀ s : State, KeepsAllBut [.lu] s (startLine s)
    ∧ (s.lu.line.isSome → startLine s = s)
    ∧ (∀ (r : Response) (rest : List Response), s.lu.line = none → s.lu.responses = r :: rest →
        (startLine s).lu = { s.lu with
          responses := rest,
          line := some ⟨0x81, r.payload, r.payload.length + 5, r.code == 0x03 && r.status == .ok⟩ })
    ∧ (∀ n : PendingNotice, s.lu.line = none → s.lu.responses = [] → s.lu.silence = false → n ∈ s.lu.notices →
        (∀ e ∈ s.lu.notices, e = n ∨ e.level < n.level ∨ (e.level = n.level ∧ n.notice.kind < e.notice.kind)) →
        (startLine s).lu = { s.lu with
          notices := s.lu.notices.filter (fun e => e.notice.kind != n.notice.kind),
          line := some ⟨0x82, n.payload, n.payload.length + 5, false⟩ })
    ∧ (∀ (f : TrafficFrame) (rest : List TrafficFrame), s.lu.line = none → s.lu.responses = [] →
        (s.lu.silence = true ∨ s.lu.notices = []) → s.lu.traffic = f :: rest →
        (startLine s).lu = { s.lu with
          traffic := rest,
          line := some ⟨f.traffic.kindByte, f.payload, f.payload.length + 5, false⟩ })
    ∧ (s.lu.line = none → s.lu.responses = [] → (s.lu.silence = true ∨ s.lu.notices = []) → s.lu.traffic = [] →
        startLine s = s)

/-- A raise (R186): a kind at level 0 in table 4 is not recorded; a kind with no pending entry makes one, with its level and a count of 1;
otherwise the kind's entry takes the new detail and level and counts up, to 255. A new entry stands behind the others.

A traffic frame handed to the Link Unit (R188) is discarded while silence stands, a LIGHT frame while P43 is 0 and a PACK frame while P44
is 0; otherwise it joins the tail with its kind's number, that kind's counter goes up by 1 modulo 256, and at 16 held the oldest frame is
removed. Motion forwarding (R130): P36 at 0 keeps the decimation counter at 0; otherwise it counts each sample, and at P36 returns to 0 with a
MOTION frame of the sample and the monitor's state. -/
def Obligations.NoticesAndTrafficJoinTheirQueues : Prop :=
  (∀ (n : Notice) (level : Nat) (s : State), level = s.ts.t4.active.getD (n.kind - 1) 0 →
     (level = 0 → raise n s = s)
     ∧ (level ≠ 0 → (∀ e ∈ s.lu.notices, e.notice.kind ≠ n.kind) →
         raise n s = { s with lu := { s.lu with notices := s.lu.notices ++ [⟨n, level, 1⟩] } })
     ∧ (∀ (before after : List PendingNotice) (e : PendingNotice), level ≠ 0 → s.lu.notices = before ++ e :: after →
         e.notice.kind = n.kind → (∀ x ∈ before, x.notice.kind ≠ n.kind) →
         raise n s = { s with lu := { s.lu with
           notices := before ++ ⟨n, level, if e.count < 255 then e.count + 1 else 255⟩ :: after } }))
  ∧ (∀ s : State,
     let joined := fun f : TrafficFrame => (if s.lu.traffic.length < 16 then s.lu.traffic else s.lu.traffic.drop 1) ++ [f]
     (∀ t : Traffic, s.lu.silence = true → handTraffic t s = s)
     ∧ (∀ (src : LightSensor) (f r : SensorRecord) (l tc tgt c out : Nat), s.lu.silence = false →
         (paramN s 43 = 0 → handTraffic (.light src f r l tc tgt c out) s = s)
         ∧ (paramN s 43 ≠ 0 → handTraffic (.light src f r l tc tgt c out) s = { s with lu := { s.lu with
             traffic := joined ⟨s.lu.lightSequence, .light src f r l tc tgt c out⟩,
             lightSequence := s.lu.lightSequence + 1 } }))
     ∧ (∀ (b : Bay) (block : List Byte), s.lu.silence = false →
         (paramN s 44 = 0 → handTraffic (.pack b block) s = s)
         ∧ (paramN s 44 ≠ 0 → handTraffic (.pack b block) s = { s with lu := { s.lu with
             traffic := joined ⟨s.lu.packSequence, .pack b block⟩, packSequence := s.lu.packSequence + 1 } }))
     ∧ (∀ x y z : Int,
         let counts := fun n : Nat => { s with shm := { s.shm with decimation := n } }
         (paramN s 36 = 0 → forwardMotion x y z s = counts 0)
         ∧ (s.shm.decimation + 1 < paramN s 36 → forwardMotion x y z s = counts (s.shm.decimation + 1))
         ∧ (paramN s 36 ≠ 0 → paramN s 36 ≤ s.shm.decimation + 1 → s.lu.silence = true → forwardMotion x y z s = counts 0)
         ∧ (paramN s 36 ≠ 0 → paramN s 36 ≤ s.shm.decimation + 1 → s.lu.silence = false →
             forwardMotion x y z s = { counts 0 with lu := { s.lu with
               traffic := joined ⟨s.lu.motionSequence, .motion x y z s.shm.state⟩,
               motionSequence := s.lu.motionSequence + 1 } })))

/-! ### Discrete inputs (chapter 1) -/

/-- A raw level is taken (R3): the filtered state stays; the timer stops where the level equals the filtered state, starts from 0
where it was stopped and the level differs, and otherwise runs on. In the settle interval the pin alone changes (R2).

An input whose running timer has reached its length takes its raw level, stops its timer and delivers the edge to the blocks of
R1's table (R3, R7), PRES falling to the PPC before the BBC by the model's choice (assumption 36). An input
whose timer is stopped has nothing to accept (assumption 5); the BBC has no rule for PRES rising and none is delivered to it (assumption 35). -/
def Obligations.InputFilterFollowsItsTimer : Prop :=
  (∀ (i : Input) (level : Bool) (s : State),
     (s.settling = none →
       exec (.rawLevelChange i level) s = .next (finish { s with
         icu := setInput s.icu i
           { inputOf s.icu i with
             raw := level,
             timer :=
               if level = (inputOf s.icu i).filtered then none
               else
                 match (inputOf s.icu i).timer with
                 | none => some 0
                 | some e => some e } }))
     ∧ (s.settling.isSome →
         exec (.rawLevelChange i level) s =
           .next (finish { s with icu := setInput s.icu i { inputOf s.icu i with raw := level } })))
  ∧ ((∀ (i : Input) (e : Nat) (s : State), (inputOf s.icu i).timer = some e →
     exec (.stabilityTimerExpiry i) s = .next (finish { s with
       icu := setInput s.icu i ⟨(inputOf s.icu i).raw, (inputOf s.icu i).raw, none⟩,
       delivered := s.delivered ++ edgesOf i (inputOf s.icu i).raw }))
   ∧ (∀ (i : Input) (s : State), (inputOf s.icu i).timer = none → exec (.stabilityTimerExpiry i) s = .next (finish s))
   ∧ (∀ b : Bay, edgesOf (presOf b) true = [.ppcPresRising b]
       ∧ edgesOf (presOf b) false = [.ppcPresFalling b, .bbcPresFalling b]
       ∧ edgesOf (latchOf b) true = [.ppcLatchRising b] ∧ edgesOf (latchOf b) false = [.ppcLatchFalling b]
       ∧ edgesOf (relOf b) true = [.ppcRelRising b] ∧ edgesOf (relOf b) false = [.ppcRelFalling b])
   ∧ (∀ closed : Bool, edgesOf .lid closed = [.blcLidEdge closed] ∧ edgesOf .dock closed = []))

/-- A change of filter length (R4, R5, R6): the lengths in use follow the hold and table 0 (a length of n ms is 200 n ticks); every
running timer keeps its elapsed time, and an input whose length has changed to one its timer has reached is accepted at once, its edge
handed over as R3 has it. The edges of inputs accepted together stand in the order of R1's table: the model's choice (assumption 36). -/
def Obligations.FilterLengthChangeJudgesRunningTimers : Prop :=
  ∀ (cause : LengthCause) (s : State), ∃ u : State,
    exec (.filterLengthChange cause) s = .next (finish u)
    ∧ KeepsAllBut [.icu, .delivered] s u
    ∧ (cause = .holdStart → u.icu.hold = true ∧ u.icu.bayLength = paramN s 10 ∧ u.icu.housingLength = s.icu.housingLength)
    ∧ (cause = .holdDrop → u.icu.hold = false ∧ u.icu.bayLength = paramN s 9 ∧ u.icu.housingLength = s.icu.housingLength)
    ∧ (cause = .table0 → u.icu.hold = s.icu.hold ∧ u.icu.bayLength = (if s.icu.hold then paramN s 10 else paramN s 9)
        ∧ u.icu.housingLength = paramN s 45)
    ∧ (∀ i : Input, inputOf u.icu i =
        match (inputOf s.icu i).timer with
        | some e =>
          if filterLength u.icu i ≠ filterLength s.icu i ∧ filterLength u.icu i * 200 ≤ e then
            ⟨(inputOf s.icu i).raw, (inputOf s.icu i).raw, none⟩
          else inputOf s.icu i
        | none => inputOf s.icu i)
    ∧ u.delivered = s.delivered.erase (.filterLengthChange cause) ++
        ([.presA, .latchA, .relA, .presB, .latchB, .relB, .lid, .dock] : List Input).flatMap fun i =>
          match (inputOf s.icu i).timer with
          | some e =>
            if filterLength u.icu i ≠ filterLength s.icu i ∧ filterLength u.icu i * 200 ≤ e then
              edgesOf i (inputOf s.icu i).raw
            else []
          | none => []

/-! ### Power path (chapter 2) -/

/-- PRES rising in EMPTY takes the bay to SEATING with BAY_INSERTED, and on to IDENTIFYING with LATCH asserted; LATCH rising takes
SEATING to IDENTIFYING and LATCH falling takes IDENTIFYING to SEATING; entering IDENTIFYING asks for a sequence from attempt 1 and
leaving it discards the sequence (R18, R55, R56). Of the rest of the record, what stands in SUPPLYING and RELEASED alone ends. -/
def Obligations.InsertionFollowsPresAndLatch : Prop :=
  ∀ (b : Bay) (s : State),
    ((bayOf s b).state = .empty → ∃ u : State,
      exec (.ppcPresRising b) s = .next (finish u)
      ∧ KeepsAllBut [.ppc, .bbc, .lu, .delivered] s u ∧ OnlyBayRecord b s u
      ∧ bayOf u b = { bayOf s b with
          state := if filtered s (latchOf b) then .identifying else .seating,
          refusal := false, holdTimer := none, lapseTimer := none }
      ∧ (busOf u b).sequence = (if filtered s (latchOf b) then some ⟨1, none⟩ else none)
      ∧ busOf u b.other = busOf s b.other
      ∧ u.lu = (raise (.bayInserted b) s).lu ∧ u.delivered = s.delivered.erase (.ppcPresRising b))
    ∧ ((bayOf s b).state = .seating → ∃ u : State,
      exec (.ppcLatchRising b) s = .next (finish u)
      ∧ KeepsAllBut [.ppc, .bbc, .delivered] s u ∧ OnlyBayRecord b s u
      ∧ bayOf u b = { bayOf s b with state := .identifying, refusal := false, holdTimer := none, lapseTimer := none }
      ∧ (busOf u b).sequence = some ⟨1, none⟩ ∧ busOf u b.other = busOf s b.other
      ∧ u.delivered = s.delivered.erase (.ppcLatchRising b))
    ∧ ((bayOf s b).state = .identifying → ∃ u : State,
      exec (.ppcLatchFalling b) s = .next (finish u)
      ∧ KeepsAllBut [.ppc, .bbc, .delivered] s u ∧ OnlyBayRecord b s u
      ∧ bayOf u b = { bayOf s b with state := .seating, refusal := false, holdTimer := none, lapseTimer := none }
      ∧ (busOf u b).sequence = none ∧ (∀ t, u.bbc.inFlight = some t → t.owner ≠ .identify b)
      ∧ busOf u b.other = busOf s b.other ∧ u.delivered = s.delivered.erase (.ppcLatchFalling b))

/-- PRES falling empties the bay: from SEATING or IDENTIFYING without a notice (R18), from RELEASED or FAULTED, not the target of a
transfer, with BAY_REMOVED, and from STANDBY, in no transfer, as a forced removal with FORCED_REMOVAL (R22). The record of an EMPTY bay is
cleared (R15).

A forced removal of the feeding bay ends its grace and starts an unplanned transfer from it with cause REMOVAL, to DC or to the other bay
if eligible, and with neither raises POWER_FAIL_WARNING with the rail bridged (R22, R29, R40). One of a CHARGING bay stops its session with no
CHARGE_HELD and hands the stop list (R22, R86, R88). -/
def Obligations.PresenceLostEmptiesBay : Prop :=
  ∀ (b : Bay) (s : State), (bayOf s b).telemetryLost = false →
    let cleared := bayOf State.reset b
    ((bayOf s b).discharge = false → (bayOf s b).charge = false →
      ((bayOf s b).state = .seating ∨ (bayOf s b).state = .identifying → ∃ u : State,
        exec (.ppcPresFalling b) s = .next (finish u)
        ∧ KeepsAllBut [.ppc, .bbc, .cc, .delivered] s u ∧ OnlyBayRecord b s u ∧ bayOf u b = cleared
        ∧ u.delivered = s.delivered.erase (.ppcPresFalling b))
      ∧ ((bayOf s b).state = .released ∨ (∃ r, (bayOf s b).state = .faulted r) → isTransferTarget s b = false → ∃ u : State,
        exec (.ppcPresFalling b) s = .next (finish u)
        ∧ KeepsAllBut [.ppc, .bbc, .cc, .lu, .delivered] s u ∧ OnlyBayRecord b s u ∧ bayOf u b = cleared
        ∧ u.lu = (raise (.bayRemoved b) s).lu ∧ u.delivered = s.delivered.erase (.ppcPresFalling b))
      ∧ ((bayOf s b).state = .standby → s.ppc.transfer = none → s.ppc.forced = none → s.ppc.bridgeTimer = none →
        bridging s = false → sessionActive s b = false → ∃ u : State,
        exec (.ppcPresFalling b) s = .next (finish u)
        ∧ KeepsAllBut [.ppc, .bbc, .cc, .lu, .delivered] s u ∧ OnlyBayRecord b s u ∧ bayOf u b = cleared
        ∧ u.lu = (raise (.forcedRemoval b .standby) s).lu ∧ u.delivered = s.delivered.erase (.ppcPresFalling b)))
    ∧ ((bayOf s b).state = .supplying → (bayOf s b).discharge = true → (bayOf s b).charge = false →
        s.ppc.railOn = true → s.ppc.dcSwitch = false → (bayOf s b.other).discharge = false →
        (bayOf s b.other).state ≠ .charging → s.ppc.transfer = none → sessionActive s b = false →
        ∃ u : State, exec (.ppcPresFalling b) s = .next (finish u)
        ∧ KeepsAllBut [.ppc, .bbc, .cc, .lu, .delivered] s u ∧ bayOf u b = cleared ∧ bayOf u b.other = bayOf s b.other
        ∧ bridging u = true
        ∧ (∀ y : Source, y = .dc ∧ dcPresent s = true ∨ y = .bay b.other ∧ dcPresent s = false ∧ eligible s b.other = true →
            u.ppc = { s.ppc with
              transfer := some ⟨some (.bay b), y, .bridge, .bridge, false, .removal, 0⟩, waiting := none,
              bridgeTimer := some 0, bays := u.ppc.bays,
              forced := if s.ppc.forced.map ForcedRelease.bay = some b then none else s.ppc.forced }
            ∧ u.lu = (raise (.forcedRemoval b .supplying) s).lu)
        ∧ (dcPresent s = false → eligible s b.other = false → u.ppc.transfer = none
            ∧ u.lu = (raise (.powerFailWarning none) (raise (.forcedRemoval b .supplying) s)).lu))
    ∧ (∀ (i : Nat) (v : Recorded), (bayOf s b).state = .charging → (bayOf s b).discharge = false → s.ppc.railOn = true →
        s.ppc.dcSwitch = true → dcPresent s = true → s.ppc.transfer = none → s.ppc.forced = none → s.ppc.bridgeTimer = none →
        s.cc.session = .active b i v → ∃ u : State,
        exec (.ppcPresFalling b) s = .next (finish u)
        ∧ KeepsAllBut [.ppc, .bbc, .cc, .lu, .delivered] s u ∧ OnlyBayRecord b s u ∧ bayOf u b = cleared
        ∧ u.cc = { s.cc with session := u.cc.session, charged := s.cc.charged.set b false }
        ∧ (∀ x j w, u.cc.session ≠ .active x j w) ∧ ⟨.stop, [(0x33, 0)], false⟩ ∈ u.bbc.lists
        ∧ Instr.budgetRecompute ∈ u.delivered ∧ u.lu = (raise (.forcedRemoval b .charging) s).lu)

/-- A release request by button, latch or host of a bay in IDENTIFYING, STANDBY or FAULTED, outside the hold and any transfer, grants
it at once: RELEASED with its lapse timer from 0 and RELEASE_GRANTED; a forced latch raises LATCH_FORCED first; the host is answered
OK (R34, R35).

While the shock hold is active no release request is evaluated: the pending mark is set and nothing else changes; the host is
answered HELD (R38). -/
def Obligations.ReleaseGrantedOrDeferred : Prop :=
  (∀ (b : Bay) (s : State), s.ppc.hold = false → s.ppc.transfer = none →
     ((bayOf s b).state = .identifying ∨ (bayOf s b).state = .standby ∨ ∃ r, (bayOf s b).state = .faulted r) →
     let released : BayRecord :=
       { bayOf s b with state := .released, refusal := false, holdTimer := none, lapseTimer := some 0 }
     (∃ u : State, exec (.ppcRelRising b) s = .next (finish u)
       ∧ KeepsAllBut [.ppc, .bbc, .lu, .delivered] s u ∧ OnlyBayRecord b s u ∧ bayOf u b = released
       ∧ u.lu = (raise (.releaseGranted b) s).lu ∧ u.delivered = s.delivered.erase (.ppcRelRising b))
     ∧ ((bayOf s b).state = .standby → ∃ u : State, exec (.ppcLatchFalling b) s = .next (finish u)
       ∧ KeepsAllBut [.ppc, .bbc, .lu, .delivered] s u ∧ OnlyBayRecord b s u ∧ bayOf u b = released
       ∧ u.lu = (raise (.releaseGranted b) (raise (.latchForced b) s)).lu
       ∧ u.delivered = s.delivered.erase (.ppcLatchFalling b))
     ∧ (∀ tag : Byte, LinkOpen s → ∃ u : State, exec (.bayRelease tag [if b = .A then 0 else 1]) s = .next (finish u)
       ∧ KeepsAllBut [.ppc, .bbc, .lu, .delivered] s u ∧ OnlyBayRecord b s u ∧ bayOf u b = released
       ∧ u.lu = (answered tag 0x22 .ok [] (raise (.releaseGranted b) s)).lu))
  ∧ (∀ (b : Bay) (s : State), s.ppc.hold = true →
     ((bayOf s b).refusal = false →
       exec (.ppcRelRising b) s = .next (finish
         (updBay b (fun r => { r with pendingRelease := true }) { s with delivered := s.delivered.erase (.ppcRelRising b) })))
     ∧ ((bayOf s b).state.locked = true →
       exec (.ppcLatchFalling b) s = .next (finish (updBay b (fun r => { r with pendingRelease := true })
         (raise (.latchForced b) { s with delivered := s.delivered.erase (.ppcLatchFalling b) }))))
     ∧ (∀ tag : Byte, LinkOpen s →
       exec (.bayRelease tag [if b = .A then 0 else 1]) s = .next (finish (answered tag 0x22 .held []
         (updBay b (fun r => { r with pendingRelease := true })
           { s with delivered := s.delivered.erase (.bayRelease tag [if b = .A then 0 else 1]) })))))

/-- A release of the feeding bay with DC or the other bay as alternative enters RELEASING and starts a planned transfer with cause
RELEASE: OVERLAP within P11, with the target closing at once, else BRIDGE with a ready reserve, with the source opening at once
(R26, R27, R28, R36). With DC ABSENT and the other bay no alternative it is refused NO_ALTERNATIVE: it stays SUPPLYING, RELEASE_REFUSED is
raised, the refusal stands, and with REL asserted its hold timer runs (R36, R39). The model's choices: a hold timer already running runs on
(assumption 18), and a bay without telemetry is no alternative (assumption 24).

REL falling ends a standing refusal and stops its timer (R34, R39). A hold timer at P15 with the record empty fills it with the bay:
POWER_FAIL_WARNING (RELEASE), the grace from 0, and the Budget Unit told; with the record holding the bay nothing further is done (R39). The
model's choices: nor is anything with the record holding the other bay (assumption 19), and the timer stands at its limit or beyond
(assumption 5).

Telemetry for the other bay that makes it, or finds DC, the alternative of a bay in grace cancels the grace (R40): the release starts by its
method; under the shock hold the pending mark is set and no transfer starts (assumption 44 where no method is possible); and a
transfer from the bay in flight becomes the release (R36), the test being made at once by the model's choice (assumption 43). -/
def Obligations.FeedingReleaseTransfersOrIsForced : Prop :=
  let leaving := fun (b : Bay) (s : State) =>
    { bayOf s b with state := .releasing, refusal := false, holdTimer := none, lapseTimer := none }
  let forcedLeft := fun (b : Bay) (s : State) => if s.ppc.forced.map ForcedRelease.bay = some b then none else s.ppc.forced
  (∀ (b : Bay) (y : Source) (s : State), s.ppc.hold = false → s.ppc.transfer = none → (bayOf s b).state = .supplying →
     (bayOf s b).discharge = true → s.ppc.railOn = true →
     (y = .dc ∧ dcPresent s = true ∧ attachPending s = false
       ∨ y = .bay b.other ∧ dcPresent s = false ∧ (bayOf s b.other).state = .standby ∧ alarmMark s b.other = false
         ∧ (bayOf s b.other).telemetryLost = false ∧ (bayOf s b.other).telemetry.isSome
         ∧ paramN s 14 ≤ chargeOf s b.other) →
     (((voltageOf s (.bay b) : Int) - voltageOf s y).natAbs ≤ paramN s 11 → ∃ u : State,
       exec (.ppcRelRising b) s = .next (finish u)
       ∧ KeepsAllBut [.ppc, .bbc, .delivered] s u
       ∧ u.ppc = { s.ppc with
           transfer := some ⟨some (.bay b), y, .overlap, .overlap, true, .release, 0⟩, waiting := none,
           dcSwitch := s.ppc.dcSwitch || y == .dc, bridgeTimer := none, bays := u.ppc.bays, forced := forcedLeft b s }
       ∧ bayOf u b = leaving b s ∧ switchClosed u y = true
       ∧ (y = .dc → bayOf u b.other = bayOf s b.other)
       ∧ (y = .bay b.other → bayOf u b.other =
           { bayOf s b.other with state := .supplying, discharge := true, lapseTimer := none }))
     ∧ (paramN s 11 < ((voltageOf s (.bay b) : Int) - voltageOf s y).natAbs → s.ppc.reserveReady = true →
         s.ppc.dcSwitch = false → (bayOf s b.other).discharge = false → ∃ u : State,
       exec (.ppcRelRising b) s = .next (finish u)
       ∧ KeepsAllBut [.ppc, .bbc, .delivered] s u
       ∧ u.ppc = { s.ppc with
           transfer := some ⟨some (.bay b), y, .bridge, .bridge, true, .release, 0⟩, waiting := none,
           bridgeTimer := some 0, bays := u.ppc.bays, forced := forcedLeft b s }
       ∧ bayOf u b = { leaving b s with discharge := false } ∧ bridging u = true ∧ bayOf u b.other = bayOf s b.other))
  ∧ (∀ (b : Bay) (s : State), s.ppc.hold = false → s.ppc.transfer = none → (bayOf s b).state = .supplying → dcPresent s = false →
     ((bayOf s b.other).state ≠ .standby ∧ (bayOf s b.other).state ≠ .charging ∨ alarmMark s b.other = true
       ∨ (bayOf s b.other).telemetryLost = true ∨ chargeOf s b.other < paramN s 14) →
     let refused := fun (s : State) => updBay b (fun r => { r with
         refusal := true,
         holdTimer := if filtered s (relOf b) then some (r.holdTimer.getD 0) else none })
       (raise (.releaseRefused b .noAlternative) s)
     exec (.ppcRelRising b) s = .next (finish (refused { s with delivered := s.delivered.erase (.ppcRelRising b) }))
     ∧ ∀ tag : Byte, LinkOpen s →
         exec (.bayRelease tag [if b = .A then 0 else 1]) s = .next (finish (answered tag 0x22 .noAlternative []
           (refused { s with delivered := s.delivered.erase (.bayRelease tag [if b = .A then 0 else 1]) }))))
  ∧ (∀ (b : Bay) (s : State), exec (.ppcRelFalling b) s = .next (finish
     (updBay b (fun r => { r with refusal := false, holdTimer := none })
       { s with delivered := s.delivered.erase (.ppcRelFalling b) })))
  ∧ (∀ (b : Bay) (e : Nat) (s : State), (bayOf s b).holdTimer = some e →
     let run : State := updBay b (fun r => { r with holdTimer := some (max e (ms (paramN s 15))) }) s
     (s.ppc.forced = none → exec (.releaseHoldTimerExpiry b) s = .next (finish
       { raise (.powerFailWarning (some b)) run with
         ppc := { run.ppc with forced := some ⟨b, 0⟩ },
         delivered := s.delivered ++ [.budgetRecompute] }))
     ∧ (s.ppc.forced.isSome → exec (.releaseHoldTimerExpiry b) s = .next (finish run)))
  ∧ (∀ (b : Bay) (f : ForcedRelease) (tel : Telemetry) (s : State), s.ppc.forced = some f → f.bay = b →
     (bayOf s b).state = .supplying → (bayOf s b).discharge = true → s.ppc.railOn = true →
     (bayOf s b.other).state = .standby → alarmMark s b.other = false → (bayOf s b.other).telemetryLost = false →
     anyAlarm tel.alarms = false →
     (s.ppc.hold = false → s.ppc.transfer = none → dcPresent s = false → paramN s 14 ≤ tel.charge →
       ((voltageOf s (.bay b) : Int) - voltageOf s (.bay b.other)).natAbs ≤ paramN s 11 → ∃ u : State,
       exec (.ppcTelemetry b.other tel) s = .next (finish u) ∧ KeepsAllBut [.ppc, .bbc, .delivered] s u
       ∧ u.ppc = { s.ppc with
           transfer := some ⟨some (.bay b), .bay b.other, .overlap, .overlap, true, .release, 0⟩, waiting := none,
           bridgeTimer := none, bays := u.ppc.bays, forced := none }
       ∧ bayOf u b = leaving b s ∧ (bayOf u b.other).state = .supplying ∧ (bayOf u b.other).discharge = true
       ∧ (bayOf u b.other).telemetry = some tel)
     ∧ (s.ppc.hold = true → (dcPresent s = true ∧ attachPending s = false ∨ paramN s 14 ≤ tel.charge) → ∃ u : State,
       exec (.ppcTelemetry b.other tel) s = .next (finish u) ∧ KeepsAllBut [.ppc, .delivered] s u
       ∧ u.ppc = { s.ppc with forced := none, bays := u.ppc.bays }
       ∧ bayOf u b = { bayOf s b with pendingRelease := true } ∧ (bayOf u b.other).state = .standby
       ∧ u.delivered = s.delivered.erase (.ppcTelemetry b.other tel) ++ [.budgetRecompute])
     ∧ (∀ tr : Transfer, s.ppc.hold = false → s.ppc.transfer = some tr → tr.source = some (.bay b) →
       dcPresent s = true → attachPending s = false → ∃ u : State,
       exec (.ppcTelemetry b.other tel) s = .next (finish u) ∧ KeepsAllBut [.ppc, .bbc, .delivered] s u
       ∧ u.ppc = { s.ppc with transfer := some { tr with cause := .release }, forced := none, bays := u.ppc.bays }
       ∧ bayOf u b = leaving b s ∧ (bayOf u b.other).state = .standby))

/-- A monitor reading replaces the four values, sets the reserve ready mark from P12 and moves DC presence by the table of R14; where
presence does not change and the reserve does not become ready nothing else changes (R12, R14). Before the end of the settle interval it has
no effect, and the 200 ms of R14 count in ticks: the model's choices (assumptions 6 and 29).

DC becoming PRESENT while a bay feeds outside P11 with a ready reserve raises DC_ATTACHED and starts a BRIDGE transfer with cause
DC_ATTACH; the source bay is STANDBY and the rail is bridged (R14, R23, R26, R28).

DC lost at the second reading below P39 raises DC_DETACHED; the charger's fault mark and count are cleared, a starting attempt ends and its lists
are withdrawn (R14, R84). Where DC fed alone the rail is bridged and an unplanned transfer with cause DC_LOSS starts to the eligible bay with the
lower charge, bay A on a tie, or with none POWER_FAIL_WARNING is raised (R23, R29); with the rail OFF nothing else changes. Stated with no bay
CHARGING and no transfer. -/
def Obligations.ReadingsQualifyDcAndAttach : Prop :=
  (∀ (vdc va vb vres : Nat) (s : State),
     (s.settling.isSome → exec (.sourceMonitorReading vdc va vb vres) s = .next (finish s))
     ∧ (s.settling = none →
       (∀ p : DcPresence,
         p = (match s.ppc.dc with
           | .absent => if paramN s 39 ≤ vdc then .qualifying 0 else .absent
           | .qualifying e =>
             if paramN s 39 ≤ vdc then (if ms 200 ≤ e then .present 0 else .qualifying e) else .absent
           | .present n => if paramN s 39 ≤ vdc then .present 0 else if n = 0 then .present 1 else .absent) →
         (s.ppc.reserveReady = true ∨ vres < paramN s 12) →
         (dcPresent s = true ↔ ∃ n, p = .present n) →
         exec (.sourceMonitorReading vdc va vb vres) s = .next (finish { s with
           ppc := { s.ppc with
             vdc := vdc, va := va, vb := vb, vres := vres, reserveReady := decide (paramN s 12 ≤ vres), dc := p } }))))
  ∧ (∀ (b : Bay) (e vdc va vb vres : Nat) (s : State), s.settling = none → s.ppc.dc = .qualifying e → ms 200 ≤ e →
     paramN s 39 ≤ vdc → paramN s 12 ≤ vres → s.ppc.reserveReady = true → s.ppc.railOn = true → s.ppc.transfer = none →
     s.ppc.waiting = none → s.ppc.forced = none → s.ppc.dcSwitch = false → (bayOf s b).state = .supplying →
     (bayOf s b).discharge = true → (bayOf s b.other).discharge = false → alarmMark s b = false →
     paramN s 11 < ((if b = .A then va else vb : Nat) - (vdc : Int)).natAbs → ∃ u : State,
     exec (.sourceMonitorReading vdc va vb vres) s = .next (finish u)
       ∧ KeepsAllBut [.ppc, .bbc, .cc, .lu, .delivered] s u ∧ u.cc = { s.cc with session := u.cc.session }
       ∧ u.ppc = { s.ppc with
           vdc := vdc, va := va, vb := vb, vres := vres, dc := .present 0, bridgeTimer := some 0, bays := u.ppc.bays,
           transfer := some ⟨some (.bay b), .dc, .bridge, .bridge, true, .dcAttach, 0⟩ }
       ∧ bayOf u b = { bayOf s b with
           state := .standby, discharge := false, refusal := false, holdTimer := none, lapseTimer := none }
       ∧ bayOf u b.other = bayOf s b.other ∧ bridging u = true
       ∧ u.lu = (raise (.dcAttached vdc) s).lu)
  ∧ (∀ (n vdc va vb vres : Nat) (s : State), s.settling = none → s.ppc.dc = .present n → 1 ≤ n → vdc < paramN s 39 →
     (s.ppc.reserveReady = true ∨ vres < paramN s 12) → s.ppc.transfer = none → s.ppc.waiting = none → s.ppc.forced = none →
     (∀ b : Bay, (bayOf s b).discharge = false ∧ (bayOf s b).state ≠ .charging) →
     let lost := fun (timer : Option Nat) (tr : Option Transfer) (lu : Lu) => ∃ u : State,
       exec (.sourceMonitorReading vdc va vb vres) s = .next (finish u)
       ∧ KeepsAllBut [.ppc, .bbc, .cc, .lu, .delivered] s u
       ∧ u.ppc = { s.ppc with
           vdc := vdc, va := va, vb := vb, vres := vres, reserveReady := decide (paramN s 12 ≤ vres), dc := .absent,
           dcSwitch := false, bridgeTimer := timer, transfer := tr }
       ∧ u.cc = { s.cc with session := u.cc.session, fault := false, failedLists := 0 }
       ∧ (∀ b i v, u.cc.session ≠ .starting b i v) ∧ u.bbc = { s.bbc with lists := u.bbc.lists }
       ∧ ((∀ t, s.bbc.inFlight = some t → t.owner ≠ .charger) → u.bbc.lists = []) ∧ u.lu = lu
     (s.ppc.railOn = true → s.ppc.dcSwitch = true →
       (∀ b : Bay, eligible s b = true →
         (eligible s b.other = true → chargeOf s b < chargeOf s b.other ∨ chargeOf s b = chargeOf s b.other ∧ b = .A) →
         lost (some 0) (some ⟨some .dc, .bay b, .bridge, .bridge, false, .dcLoss, 0⟩) (raise (.dcDetached vdc) s).lu)
       ∧ ((∀ b : Bay, eligible s b = false) →
         lost (some 0) none (raise (.powerFailWarning none) (raise (.dcDetached vdc) s)).lu))
     ∧ (s.ppc.railOn = false → lost none none (raise (.dcDetached vdc) s).lu))

/-- After 2 ms of OVERLAP the source's switch opens and the transfer has completed: for a cause other than RELEASE the source bay is
STANDBY, or FAULTED with reason ALARM, and the target feeds alone; TRANSFER_DONE is raised (R26, R27). 1 ms after a bridge began the target's
switch closes: bridging ends with its timer, and a RELEASE source is RELEASED with RELEASE_GRANTED and TRANSFER_DONE (R13, R26, R28, R37). Stated
for DC as target with no pending mark and no forced release; the session and the charger lists are left to arbitration (R81).

A transfer whose DC target is lost in its OVERLAP is not completed and the source feeds on; a release's source is SUPPLYING again and, with no
alternative, refused SOURCE_LOST (R32). In its BRIDGE a transfer that loses its bay target, STANDBY or FAULTED, becomes unplanned with cause REMOVAL
towards a PRESENT DC, and one that loses its DC target with no eligible bay becomes unplanned with cause DC_LOSS back to its RELEASING source (R22,
R32); a transfer towards its own source is then recorded from none, the model's choice (assumption 15). The refusal's choices: a running hold timer
runs on (assumption 18), and a bay without telemetry is no alternative (assumption 24). A source removed in an OVERLAP completes the
transfer (R33). -/
def Obligations.TransfersEndOrLoseAnEnd : Prop :=
  let still := fun s : State => s.ppc.waiting = none ∧ s.ppc.forced = none
  let lowReading := fun (vdc vres : Nat) (s : State) => s.settling = none ∧ s.ppc.dc = .present 1 ∧ vdc < paramN s 39
    ∧ (s.ppc.reserveReady = true ∨ vres < paramN s 12) ∧ ∀ b : Bay, (bayOf s b).state ≠ .charging
  let read := fun (vdc va vb vres : Nat) (s : State) => { s.ppc with
    vdc := vdc, va := va, vb := vb, vres := vres, reserveReady := decide (paramN s 12 ≤ vres), dc := .absent, dcSwitch := false }
  (∀ (b : Bay) (m : Method) (c : Cause) (e : Nat) (s : State),
     s.ppc.transfer = some ⟨some (.bay b), .dc, m, .overlap, true, c, e⟩ →
     s.ppc.railOn = true → s.ppc.dcSwitch = true → dcPresent s = true → (bayOf s b).state = .supplying →
     (bayOf s b).discharge = true → (bayOf s b.other).discharge = false → still s →
     (bayOf s .A).pendingRelease = false → (bayOf s .B).pendingRelease = false →
     ∃ u : State, exec .overlapComplete s = .next (finish u)
       ∧ KeepsAllBut [.ppc, .bbc, .cc, .lu, .delivered] s u ∧ u.cc = { s.cc with session := u.cc.session }
       ∧ u.ppc = { s.ppc with transfer := none, bridgeTimer := none, bays := u.ppc.bays } ∧ bridging u = false
       ∧ bayOf u b = { bayOf s b with
           state := if alarmMark s b then .faulted .alarm else .standby,
           discharge := false, refusal := false, holdTimer := none, lapseTimer := none }
       ∧ bayOf u b.other = bayOf s b.other ∧ u.lu = (raise (.transferDone (some (.bay b)) .dc m c true) s).lu)
  ∧ (∀ (b : Bay) (m : Method) (e : Nat) (s : State),
     s.ppc.transfer = some ⟨some (.bay b), .dc, m, .bridge, true, .release, e⟩ →
     s.ppc.railOn = true → s.ppc.dcSwitch = false → dcPresent s = true → (bayOf s b).state = .releasing →
     (bayOf s b).discharge = false → (bayOf s b.other).discharge = false → still s → s.ppc.hold = false →
     (bayOf s .A).pendingRelease = false → (bayOf s .B).pendingRelease = false →
     ∃ u : State, exec .bridgeTargetClose s = .next (finish u)
       ∧ KeepsAllBut [.ppc, .bbc, .cc, .lu, .delivered] s u ∧ u.cc = { s.cc with session := u.cc.session }
       ∧ u.ppc = { s.ppc with transfer := none, dcSwitch := true, bridgeTimer := none, bays := u.ppc.bays }
       ∧ bridging u = false ∧ bayOf u b.other = bayOf s b.other
       ∧ bayOf u b = { bayOf s b with state := .released, refusal := false, holdTimer := none, lapseTimer := some 0 }
       ∧ u.lu = (raise (.transferDone (some (.bay b)) .dc m .release true) (raise (.releaseGranted b) s)).lu)
  ∧ (∀ (b : Bay) (m : Method) (c : Cause) (e vdc va vb vres : Nat) (s : State), lowReading vdc vres s → still s →
     s.ppc.transfer = some ⟨some (.bay b), .dc, m, .overlap, true, c, e⟩ → s.ppc.railOn = true →
     (bayOf s b).discharge = true → (bayOf s b.other).discharge = false → alarmMark s b = false →
     paramN s 41 < chargeOf s b → (bayOf s .A).pendingRelease = false → (bayOf s .B).pendingRelease = false →
     let aborted := raise (.transferDone (some (.bay b)) .dc m c false) (raise (.dcDetached vdc) s)
     let ends := fun (r : BayRecord) (lu : Lu) => ∃ u : State,
       exec (.sourceMonitorReading vdc va vb vres) s = .next (finish u)
       ∧ KeepsAllBut [.ppc, .bbc, .cc, .lu, .delivered] s u
       ∧ u.cc = { s.cc with session := u.cc.session, fault := false, failedLists := 0 }
       ∧ u.ppc = { read vdc va vb vres s with bridgeTimer := none, transfer := none, bays := s.ppc.bays.set b r } ∧ u.lu = lu
     (c ≠ .release → (bayOf s b).state = .supplying → ends (bayOf s b) aborted.lu)
     ∧ (c = .release → (bayOf s b).state = .releasing → s.ppc.hold = false →
         ((bayOf s b.other).state ≠ .standby ∧ (bayOf s b.other).state ≠ .charging ∨ alarmMark s b.other = true
           ∨ (bayOf s b.other).telemetryLost = true ∨ chargeOf s b.other < paramN s 14) →
         ends { bayOf s b with
             state := .supplying, refusal := true, lapseTimer := none,
             holdTimer := if filtered s (relOf b) then some ((bayOf s b).holdTimer.getD 0) else none }
           (raise (.releaseRefused b .sourceLost) aborted).lu))
  ∧ (∀ (b : Bay) (t : Transfer) (s : State), s.ppc.transfer = some t → t.phase = .bridge → t.target = .bay b → still s →
     ((bayOf s b).state = .standby ∨ ∃ r, (bayOf s b).state = .faulted r) → (bayOf s b).charge = false →
     (bayOf s b.other).state ≠ .charging → s.ppc.railOn = true → anyFeeding s = false → dcPresent s = true →
     sessionActive s b = false → ∃ u : State,
     exec (.ppcPresFalling b) s = .next (finish u)
       ∧ KeepsAllBut [.ppc, .bbc, .cc, .lu, .delivered] s u
       ∧ u.ppc = { s.ppc with
           transfer := some ⟨if t.source = some .dc then none else t.source, .dc, .bridge, .bridge, false, .removal, 0⟩,
           bays := s.ppc.bays.set b (bayOf State.reset b) }
       ∧ u.lu = (raise (if (bayOf s b).state = .standby then .forcedRemoval b .standby else .bayRemoved b) s).lu)
  ∧ (∀ (b : Bay) (t : Transfer) (vdc va vb vres : Nat) (s : State), lowReading vdc vres s → still s →
     s.ppc.transfer = some t → t.phase = .bridge → t.target = .dc → t.source = some (.bay b) → (bayOf s b).state = .releasing →
     s.ppc.railOn = true → anyFeeding s = false → (∀ x : Bay, eligible s x = false) → ∃ u : State,
     exec (.sourceMonitorReading vdc va vb vres) s = .next (finish u)
       ∧ KeepsAllBut [.ppc, .bbc, .cc, .lu, .delivered] s u
       ∧ u.ppc = { read vdc va vb vres s with transfer := some ⟨none, .bay b, .bridge, .bridge, false, .dcLoss, 0⟩ }
       ∧ u.lu = (raise (.dcDetached vdc) s).lu)
  ∧ (∀ (b : Bay) (m : Method) (c : Cause) (e : Nat) (s : State),
     s.ppc.transfer = some ⟨some (.bay b), .dc, m, .overlap, true, c, e⟩ → still s →
     ((bayOf s b).state = .supplying ∨ (bayOf s b).state = .releasing) → (bayOf s b).charge = false →
     s.ppc.railOn = true → s.ppc.dcSwitch = true → dcPresent s = true → (bayOf s b.other).discharge = false →
     (bayOf s b.other).pendingRelease = false → sessionActive s b = false → ∃ u : State,
     exec (.ppcPresFalling b) s = .next (finish u)
       ∧ KeepsAllBut [.ppc, .bbc, .cc, .lu, .delivered] s u
       ∧ u.ppc = { s.ppc with transfer := none, bridgeTimer := none, bays := s.ppc.bays.set b (bayOf State.reset b) }
       ∧ u.lu = (raise (.transferDone (some (.bay b)) .dc m c true) (raise (.forcedRemoval b (bayOf s b).state) s)).lu)

/-- The rail goes OFF by bridge expiry (while the bridge timer runs), by grace expiry and by RAIL off: every source switch and charge
switch is open, the reason is recorded, the transfer, the waiting transfer and the bridge timer are gone, no bay is SUPPLYING, CHARGING
or RELEASING. Where the grace ends with it, by its expiry or by RAIL off, the bay of the grace is RELEASED, or under the hold at rest, STANDBY or
FAULTED with reason ALARM, with its pending mark set (R30, R31, R38, R40, R44). -/
def Obligations.RailOffOpensEverySwitch : Prop :=
  ∀ (s : State),
    (∀ r : BayRecord, r = bayOf s .A ∨ r = bayOf s .B → r.charge = true → r.state = .charging) →
    let down := fun (reason : OffReason) (u : State) =>
      KeepsAllBut [.ppc, .bbc, .cc, .lu, .delivered, .freeIndex] s u ∧ u.cc = { s.cc with session := u.cc.session }
        ∧ u.ppc = { s.ppc with
            railOn := false, offReason := reason, dcSwitch := false, bridgeTimer := none, transfer := none, waiting := none,
            forced := u.ppc.forced, bays := u.ppc.bays }
        ∧ anyFeeding u = false ∧ bridging u = false ∧ Instr.blcRailChange false ∈ u.delivered
        ∧ (∀ b : Bay, (bayOf u b).identity = (bayOf s b).identity ∧ (bayOf u b).telemetry = (bayOf s b).telemetry
            ∧ (bayOf u b).alarms = (bayOf s b).alarms ∧ (bayOf u b).profile = (bayOf s b).profile)
        ∧ ∀ b : Bay, (bayOf u b).charge = false ∧ (bayOf u b).state ≠ .supplying ∧ (bayOf u b).state ≠ .charging
            ∧ (bayOf u b).state ≠ .releasing
    let graceBay := fun (f : ForcedRelease) (u : State) =>
      (s.ppc.hold = false → (bayOf u f.bay).state = .released)
        ∧ (s.ppc.hold = true → (bayOf u f.bay).pendingRelease = true
            ∧ (bayOf u f.bay).state = if alarmMark s f.bay then .faulted .alarm else .standby)
    (s.ppc.bridgeTimer.isSome → ∃ u : State, exec .bridgeTimerExpiry s = .next (finish u) ∧ down .bridgeExpired u)
    ∧ (∀ f : ForcedRelease, s.ppc.forced = some f → ∃ u : State,
        exec .graceExpiry s = .next (finish u) ∧ down .graceExpired u ∧ u.ppc.forced = none
        ∧ graceBay f u)
    ∧ (∀ tag : Byte, LinkOpen s → s.ppc.railOn = true → ∃ u : State,
        exec (.rail tag [0]) s = .next (finish u) ∧ down .host u ∧ u.ppc.forced = none
        ∧ ∀ f : ForcedRelease, s.ppc.forced = some f → graceBay f u)

/-- RAIL on with DC PRESENT closes the DC switch and turns the rail on with reason NONE; with DC not PRESENT and no bay STANDBY, or a
bay SEATING or IDENTIFYING, it is refused NOT_READY with no effect; with the rail ON it is OK with no effect (R43). With DC not PRESENT and no
bay arriving the load goes to the eligible STANDBY bay with the lower charge, bay A on a tie, or with none eligible to the STANDBY bay with the
higher charge, with BATTERY_LOW (R43); the model's choices: bay A is taken on the second tie (assumption 21), and a bay without telemetry counts as charge 0
(assumption 24). -/
def Obligations.RailOnNeedsASource : Prop :=
  ∀ (tag : Byte) (s : State), LinkOpen s →
    let received : State := { s with delivered := s.delivered.erase (.rail tag [1]) }
    (s.ppc.railOn = true → exec (.rail tag [1]) s = .next (finish (answered tag 0x23 .ok [] received)))
    ∧ (s.ppc.railOn = false → dcPresent s = false →
        ((bayOf s .A).state ≠ .standby ∧ (bayOf s .B).state ≠ .standby
          ∨ ∃ b, (bayOf s b).state = .seating ∨ (bayOf s b).state = .identifying) →
        exec (.rail tag [1]) s = .next (finish (answered tag 0x23 .notReady [] received)))
    ∧ (s.ppc.railOn = false → dcPresent s = true → (bayOf s .A).discharge = false → (bayOf s .B).discharge = false →
        ∃ u : State, exec (.rail tag [1]) s = .next (finish u)
          ∧ KeepsAllBut [.ppc, .bbc, .cc, .lu, .delivered] s u ∧ u.cc = { s.cc with session := u.cc.session }
          ∧ u.ppc = { s.ppc with railOn := true, offReason := .none, dcSwitch := true, bridgeTimer := none }
          ∧ Instr.blcRailChange true ∈ u.delivered
          ∧ u.lu = (answered tag 0x23 .ok [] s).lu)
    ∧ (∀ b : Bay, s.ppc.railOn = false → dcPresent s = false → s.ppc.dcSwitch = false →
        (∀ x : Bay, (bayOf s x).discharge = false ∧ (bayOf s x).state ≠ .seating ∧ (bayOf s x).state ≠ .identifying) →
        (bayOf s b).state = .standby →
        (eligible s b = true ∧ ((bayOf s b.other).state = .standby → eligible s b.other = true →
            chargeOf s b < chargeOf s b.other ∨ chargeOf s b = chargeOf s b.other ∧ b = .A)
          ∨ eligible s b = false ∧ ((bayOf s b.other).state = .standby → eligible s b.other = false
            ∧ (chargeOf s b.other < chargeOf s b ∨ chargeOf s b = chargeOf s b.other ∧ b = .A))) →
        ∃ u : State, exec (.rail tag [1]) s = .next (finish u)
          ∧ KeepsAllBut [.ppc, .bbc, .cc, .lu, .delivered] s u ∧ u.cc = { s.cc with session := u.cc.session }
          ∧ u.ppc = { s.ppc with railOn := true, offReason := .none, bridgeTimer := none, bays := u.ppc.bays }
          ∧ bayOf u b = { bayOf s b with state := .supplying, discharge := true, lapseTimer := none }
          ∧ bayOf u b.other = bayOf s b.other ∧ Instr.blcRailChange true ∈ u.delivered
          ∧ u.lu = (answered tag 0x23 .ok [] (if eligible s b then s else raise (.batteryLow b (chargeOf s b)) s)).lu)

/-- The release lapse with PRES asserted: with LATCH deasserted the timer restarts; with LATCH asserted and an identity whose bay's
alarm mark is set the bay is FAULTED with reason ALARM, and without an identity it is IDENTIFYING with a fresh sequence, each with
RELEASE_LAPSED (R41). -/
def Obligations.ReleaseLapseRelocks : Prop :=
  ∀ (b : Bay) (e : Nat) (s : State), (bayOf s b).state = .released → (bayOf s b).lapseTimer = some e →
    filtered s (presOf b) = true →
    (filtered s (latchOf b) = false →
      exec (.releaseLapseExpiry b) s = .next (finish (updBay b (fun r => { r with lapseTimer := some 0 }) s)))
    ∧ (filtered s (latchOf b) = true → (bayOf s b).identity.isSome → alarmMark s b = true → ∃ u : State,
      exec (.releaseLapseExpiry b) s = .next (finish u)
      ∧ KeepsAllBut [.ppc, .bbc, .lu] s u ∧ OnlyBayRecord b s u
      ∧ bayOf u b = { bayOf s b with
          state := .faulted .alarm, refusal := false, holdTimer := none, lapseTimer := none }
      ∧ u.lu = (raise (.releaseLapsed b) s).lu)
    ∧ (filtered s (latchOf b) = true → (bayOf s b).identity = none → ∃ u : State,
      exec (.releaseLapseExpiry b) s = .next (finish u)
      ∧ KeepsAllBut [.ppc, .bbc, .lu] s u ∧ OnlyBayRecord b s u
      ∧ bayOf u b = { bayOf s b with
          state := .identifying, refusal := false, holdTimer := none, lapseTimer := none }
      ∧ (busOf u b).sequence = some ⟨1, none⟩ ∧ u.lu = (raise (.releaseLapsed b) s).lu)

/-- The hold's start ends each standing refusal and, with REL asserted, sets its pending mark; the hold's end with no pending mark has
no other effect, and clears a pending mark and releases a STANDBY bay (R38, R39). -/
def Obligations.ShockHoldGuardsReleases : Prop :=
  ∀ s : State,
    (∃ u : State, exec .ppcShockHoldStart s = .next (finish u) ∧ KeepsAllBut [.ppc, .delivered] s u ∧ u.ppc.hold = true
      ∧ u.delivered = s.delivered.erase .ppcShockHoldStart
      ∧ u.ppc = { s.ppc with hold := true, bays := u.ppc.bays }
      ∧ ∀ b : Bay, bayOf u b =
          if (bayOf s b).refusal then
            { bayOf s b with
              refusal := false, holdTimer := none,
              pendingRelease := (bayOf s b).pendingRelease || filtered s (relOf b) }
          else bayOf s b)
    ∧ ((bayOf s .A).pendingRelease = false → (bayOf s .B).pendingRelease = false →
        exec .ppcShockHoldEnd s = .next (finish { s with
          ppc := { s.ppc with hold := false },
          delivered := s.delivered.erase .ppcShockHoldEnd }))
    ∧ (∀ b : Bay, (bayOf s b).pendingRelease = true → (bayOf s b.other).pendingRelease = false →
        (bayOf s b).state = .standby → s.ppc.transfer = none → ∃ u : State,
        exec .ppcShockHoldEnd s = .next (finish u) ∧ u.ppc.hold = false
        ∧ KeepsAllBut [.ppc, .bbc, .lu, .delivered] s u
        ∧ bayOf u b = { bayOf s b with
            state := .released, pendingRelease := false, refusal := false, holdTimer := none, lapseTimer := some 0 }
        ∧ bayOf u b.other = bayOf s b.other ∧ u.lu = (raise (.releaseGranted b) s).lu)

/-- An identification outcome in IDENTIFYING: a failure faults the bay with ID_FAIL, the other bay's serial with DUPLICATE; otherwise
the identity, telemetry and alarms become the bay's and it is FAULTED with ALARM or STANDBY, its pack first in the pack memory. Out of
IDENTIFYING the outcome is discarded (R18, R19, R70). The model's choice: a block with no alarm leaves the clean-read count as it was
(assumption 46). -/
def Obligations.IdentificationOutcomeDecidesBay : Prop :=
  ∀ (b : Bay) (s : State),
    (∀ o : IdOutcome, (bayOf s b).state ≠ .identifying →
      exec (.ppcIdentificationOutcome b o) s =
        .next (finish { s with delivered := s.delivered.erase (.ppcIdentificationOutcome b o) }))
    ∧ ((bayOf s b).state = .identifying →
      (∀ r : TxResult, ∃ u : State, exec (.ppcIdentificationOutcome b (.failed r)) s = .next (finish u)
        ∧ KeepsAllBut [.ppc, .bbc, .lu, .delivered] s u ∧ OnlyBayRecord b s u
        ∧ bayOf u b = { bayOf s b with
            state := .faulted .idFail, refusal := false, holdTimer := none, lapseTimer := none }
        ∧ u.lu = (raise (.bayFault b .idFail) s).lu)
      ∧ (∀ (id : Identity) (t : Telemetry), (bayOf s b.other).state ≠ .empty →
          (bayOf s b.other).identity.map Identity.serial = some id.serial → ∃ u : State,
          exec (.ppcIdentificationOutcome b (.success id t)) s = .next (finish u)
          ∧ KeepsAllBut [.ppc, .bbc, .lu, .delivered] s u ∧ OnlyBayRecord b s u
          ∧ bayOf u b = { bayOf s b with
              state := .faulted .duplicate, refusal := false, holdTimer := none, lapseTimer := none }
          ∧ u.lu = (raise (.bayFault b .duplicate) s).lu)
      ∧ (∀ (id : Identity) (t : Telemetry),
          ((bayOf s b.other).state = .empty ∨ (bayOf s b.other).identity.map Identity.serial ≠ some id.serial) →
          s.ppc.forced = none → (anyAlarm t.alarms = true ∨ s.ppc.railOn = false) →
          ∃ u : State, exec (.ppcIdentificationOutcome b (.success id t)) s = .next (finish u)
          ∧ KeepsAllBut [.ppc, .bbc, .cc, .lu, .delivered] s u ∧ OnlyBayRecord b s u
          ∧ bayOf u b = { bayOf s b with
              state := if anyAlarm t.alarms then .faulted .alarm else .standby,
              identity := some id, telemetry := some t, profile := s.ts.t3.active.findIdx? (profileMatches id),
              alarms := joinAlarms (bayOf s b).alarms t.alarms,
              cleanReads := if anyAlarm t.alarms then 0 else (bayOf s b).cleanReads,
              refusal := false, holdTimer := none, lapseTimer := none }
          ∧ u.cc.memory.head?.map PackEntry.serial = some id.serial
          ∧ u.lu = (if anyAlarm t.alarms then
              raise (.bayFault b .alarm) (raise (.packAlarm b (joinAlarms (bayOf s b).alarms t.alarms)) s)
            else raise (.bayIdentified b id.serial) s).lu))

/-- A telemetry block is stored and its alarms compared (R20, R21): flags join the set and return the clean-read count to 0; a clean block
counts up to 3, where OVER_TEMP and OVER_CURRENT leave the set. A STANDBY bay whose set comes to hold an alarm is FAULTED with PACK_ALARM
and BAY_FAULT; flags for a FAULTED or RELEASED bay join its set, with PACK_ALARM where they bring a new one, and the bay stays; a bay FAULTED with
reason ALARM whose set a clean block empties stays with LATCH deasserted and is STANDBY with LATCH asserted. A block for an EMPTY, SEATING or
IDENTIFYING bay is discarded (R58, assumption 30). The model's choice: a bay FAULTED with ID_FAIL or DUPLICATE takes the block into its record
(assumption 50). -/
def Obligations.TelemetryUpdatesAlarms : Prop :=
  ∀ (b : Bay) (t : Telemetry) (s : State),
    let received : State := { s with delivered := s.delivered.erase (.ppcTelemetry b t) }
    (((bayOf s b).state = .empty ∨ (bayOf s b).state = .seating ∨ (bayOf s b).state = .identifying) →
      exec (.ppcTelemetry b t) s = .next (finish received))
    ∧ ((bayOf s b).state = .standby → (bayOf s b).alarms = noAlarms → anyAlarm t.alarms = true → s.ppc.forced = none →
        ∃ u : State, exec (.ppcTelemetry b t) s = .next (finish u)
        ∧ KeepsAllBut [.ppc, .bbc, .lu, .delivered] s u ∧ OnlyBayRecord b s u
        ∧ bayOf u b = { bayOf s b with
            telemetry := some t, alarms := t.alarms, cleanReads := 0, state := .faulted .alarm,
            refusal := false, holdTimer := none, lapseTimer := none }
        ∧ u.lu = (raise (.bayFault b .alarm) (raise (.packAlarm b t.alarms) s)).lu)
    ∧ (s.ppc.forced = none → anyAlarm t.alarms = true →
        ((bayOf s b).state = .released ∨ ∃ r, (bayOf s b).state = .faulted r) →
        let all := joinAlarms (bayOf s b).alarms t.alarms
        let joined : State := updBay b (fun r => { r with telemetry := some t, alarms := all, cleanReads := 0 }) received
        exec (.ppcTelemetry b t) s =
          .next (finish (if all = (bayOf s b).alarms then joined else raise (.packAlarm b all) joined)))
    ∧ (s.ppc.forced = none → anyAlarm t.alarms = false →
        let reads := if (bayOf s b).cleanReads < 2 then (bayOf s b).cleanReads + 1 else 3
        let left := if (bayOf s b).cleanReads < 2 then (bayOf s b).alarms
          else { (bayOf s b).alarms with overTemp := false, overCurrent := false }
        ((bayOf s b).state = .released ∨ (∃ r, r ≠ .alarm ∧ (bayOf s b).state = .faulted r)
          ∨ (bayOf s b).state = .faulted .alarm ∧ (anyAlarm left = true ∨ filtered s (latchOf b) = false) →
          exec (.ppcTelemetry b t) s = .next (finish
            (updBay b (fun r => { r with telemetry := some t, cleanReads := reads, alarms := left }) received)))
        ∧ ((bayOf s b).state = .faulted .alarm → alarmMark s b = true → anyAlarm left = false →
            filtered s (latchOf b) = true → s.ppc.railOn = false → ∃ u : State,
          exec (.ppcTelemetry b t) s = .next (finish u)
          ∧ KeepsAllBut [.ppc, .bbc, .cc, .delivered] s u ∧ OnlyBayRecord b s u ∧ u.cc = { s.cc with session := u.cc.session }
          ∧ bayOf u b = { bayOf s b with
              state := .standby, telemetry := some t, cleanReads := reads, alarms := left,
              refusal := false, holdTimer := none, lapseTimer := none }))

/-! ### Bay bus (chapter 3) -/

/-- PRES falling at the BBC (R65): with no transaction in flight on the segment, the bay's sequence, poll timer and due poll go, a
WAITING read of the segment becomes DONE with REMOVED, and its queued writes are dropped, WRITE_DISCARDED for each; a deferred read or a
posted write in flight on the segment ends REMOVED. -/
def Obligations.RemovalClearsSegment : Prop :=
  ∀ (b : Bay) (s : State),
    ((∀ t, s.bbc.inFlight = some t → t.segment ≠ segmentOf b) → ∃ u : State,
      exec (.bbcPresFalling b) s = .next (finish u) ∧ KeepsAllBut [.bbc, .lu, .delivered] s u
      ∧ u.delivered = s.delivered.erase (.bbcPresFalling b)
      ∧ u.bbc = { s.bbc with
          bays := s.bbc.bays.set b { busOf s b with sequence := none, pollTimer := none, pollDue := false },
          deferred := s.bbc.deferred.map fun d =>
            if d.segment = segmentOf b ∧ d.state = .waiting then { d with state := .done .removed [] 0 } else d,
          posted := s.bbc.posted.filter fun w => w.segment != segmentOf b }
      ∧ u.lu = ((s.bbc.posted.filter fun w => w.segment == segmentOf b).foldl
          (fun s w => raise (.writeDiscarded w.segment w.command) s) s).lu)
    ∧ (∀ (t : Transaction) (d : DeferredRead), s.bbc.inFlight = some t → t.segment = segmentOf b → t.owner = .deferred →
        s.bbc.deferred = some d → d.state = .inFlight → ∃ u : State,
        exec (.bbcPresFalling b) s = .next (finish u)
        ∧ KeepsAllBut [.bbc, .lu, .delivered] s u
        ∧ u.bbc = { s.bbc with
            inFlight := none, deferred := some { d with state := .done .removed [] 0 },
            bays := s.bbc.bays.set b { busOf s b with sequence := none, pollTimer := none, pollDue := false },
            posted := s.bbc.posted.filter fun w => w.segment != segmentOf b })
    ∧ (∀ (t : Transaction) (w : PostedWrite), s.bbc.inFlight = some t → t.segment = segmentOf b → t.owner = .posted →
        s.bbc.posted = [w] → ∃ u : State,
        exec (.bbcPresFalling b) s = .next (finish u)
        ∧ KeepsAllBut [.bbc, .lu, .delivered] s u
        ∧ u.bbc = { s.bbc with
            inFlight := none, posted := [],
            bays := s.bbc.bays.set b { busOf s b with sequence := none, pollTimer := none, pollDue := false },
            deferred := u.bbc.deferred }
        ∧ u.lu = (raise (.writeFailed w.segment w.command .removed) s).lu)

/-- The end of a host access (R48, R49, R62, R64): a refusal is NAK; a read whose bytes sum to 0 modulo 256 is DONE with them, otherwise
BAD_CHECK, and the slot becomes DONE with its expiry timer from 0; a posted write leaves the queue, WRITE_FAILED unless it ended
DONE.

A good poll is handed to the PPC, the CC, the Budget Unit and the Link Unit, clears the telemetry-lost mark and returns the count of
failed polls to 0 (R58); the Budget Unit is told of a set mark's clearing as well (R91), first by the model's choice
(assumption 34), as is the order of the block's receivers (assumption 55); a good
identity read makes the attempt's candidate (R55). -/
def Obligations.TransactionResultsReachTheirRequesters : Prop :=
  ((∀ (t : Transaction) (d : DeferredRead) (code : Nat) (reply : BusReply) (bytes : List Byte) (s : State),
     s.bbc.inFlight = some t → t.owner = .deferred → t.op = .read code bytes.length → s.bbc.deferred = some d →
     reply = .refused ∨ reply = .accepted bytes →
     exec (.transactionEnd reply) s = .next (finish { s with
       bbc := { s.bbc with
         inFlight := none,
         deferred := some { d with
           state :=
             if reply = .refused then .done .nak [] 0
             else if byteSum bytes = 0 then .done .done bytes 0 else .done .badCheck [] 0 } } }))
   ∧ (∀ (t : Transaction) (w : PostedWrite) (rest : List PostedWrite) (command value : Nat) (bytes : List Byte) (s : State),
     s.bbc.inFlight = some t → t.owner = .posted → t.op = .write command value → s.bbc.posted = w :: rest →
     let left : State := { s with bbc := { s.bbc with inFlight := none, posted := rest } }
     exec (.transactionEnd (.accepted bytes)) s = .next (finish left)
     ∧ exec (.transactionEnd .refused) s = .next (finish (raise (.writeFailed w.segment w.command .nak) left))))
  ∧ ((∀ (b : Bay) (t : Transaction) (code : Nat) (bytes : List Byte) (tel : Telemetry) (s : State),
     s.bbc.inFlight = some t → t.owner = .poll b → t.op = .read code bytes.length → byteSum bytes = 0 →
     readTelemetry bytes = some tel → ∃ u : State,
     exec (.transactionEnd (.accepted bytes)) s = .next (finish u)
     ∧ KeepsAllBut [.ppc, .bbc, .lu, .delivered] s u
     ∧ u.delivered = s.delivered ++ (if (bayOf s b).telemetryLost then [.budgetRecompute] else [])
         ++ [.ppcTelemetry b tel, .ccTelemetry b tel, .budgetRecompute]
     ∧ u.bbc = { s.bbc with inFlight := none, bays := s.bbc.bays.set b { busOf s b with failedPolls := 0 } }
     ∧ OnlyBayRecord b s u ∧ bayOf u b = { bayOf s b with telemetryLost := false }
     ∧ u.lu = (handTraffic (.pack b bytes) s).lu)
   ∧ (∀ (b : Bay) (t : Transaction) (q : IdSequence) (code : Nat) (bytes : List Byte) (id : Identity) (s : State),
     s.bbc.inFlight = some t → t.owner = .identify b → t.op = .read code bytes.length → byteSum bytes = 0 →
     (busOf s b).sequence = some q → q.candidate = none → readIdentity bytes = some id →
     exec (.transactionEnd (.accepted bytes)) s = .next (finish { s with
       bbc := { s.bbc with
         inFlight := none,
         bays := s.bbc.bays.set b { busOf s b with sequence := some { q with candidate := some id } } } })))

/-- A transaction at P35 ends with TIMEOUT (R48): an identification attempt fails, the third one with an outcome for the PPC (R55); a poll
counts as failed, and the third sets the telemetry-lost mark with TELEMETRY_LOST (R59); a deferred read is DONE with TIMEOUT
(R62).

A poll timer at P34 makes a poll due and starts again from 0 (R57); a DONE read at P33 is freed with DEFERRED_EXPIRED, while a
WAITING or IN_FLIGHT read does not expire (R62). The model's choice: a failed poll of a bay emptied since the grant counts as any other
(assumption 47). -/
def Obligations.BusTimersExpire : Prop :=
  (∀ (t : Transaction) (s : State), s.bbc.inFlight = some t →
     (∀ d : DeferredRead, t.owner = .deferred → s.bbc.deferred = some d →
       exec .transactionTimeout s = .next (finish { s with
         bbc := { s.bbc with
           inFlight := none,
           deferred := some { d with state := .done .timeout [] 0 } } }))
     ∧ (∀ (b : Bay) (q : IdSequence), t.owner = .identify b → (busOf s b).sequence = some q →
       exec .transactionTimeout s = .next (finish { s with
         bbc := { s.bbc with
           inFlight := none,
           bays := s.bbc.bays.set b
             { busOf s b with sequence := if q.attempt < 3 then some ⟨q.attempt + 1, none⟩ else none } },
         delivered := if q.attempt < 3 then s.delivered
           else s.delivered ++ [.ppcIdentificationOutcome b (.failed .timeout)] }))
     ∧ (∀ b : Bay, t.owner = .poll b → (busOf s b).failedPolls ≤ 3 → sessionActive s b = false → ∃ u : State,
       exec .transactionTimeout s = .next (finish u)
       ∧ u.bbc = { s.bbc with
           inFlight := none,
           bays := s.bbc.bays.set b { busOf s b with failedPolls := min ((busOf s b).failedPolls + 1) 3 } }
       ∧ ((busOf s b).failedPolls = 2 → KeepsAllBut [.ppc, .bbc, .lu, .delivered] s u ∧ OnlyBayRecord b s u
           ∧ bayOf u b = { bayOf s b with telemetryLost := true }
           ∧ u.lu = (raise (.telemetryLost b) s).lu ∧ u.delivered = s.delivered ++ [.budgetRecompute])
       ∧ ((busOf s b).failedPolls ≠ 2 → KeepsAllBut [.bbc] s u)))
  ∧ ((∀ (b : Bay) (e : Nat) (s : State), (busOf s b).pollTimer = some e →
     exec (.pollTimerExpiry b) s = .next (finish { s with
       bbc := { s.bbc with bays := s.bbc.bays.set b { busOf s b with pollTimer := some 0, pollDue := true } } }))
   ∧ (∀ (g : Segment) (code length : Nat) (r : TxResult) (bytes : List Byte) (e : Nat) (s : State),
     s.bbc.deferred = some ⟨g, code, length, .done r bytes e⟩ →
     exec .deferredExpiry s = .next (finish
       (raise (.deferredExpired g code length) { s with bbc := { s.bbc with deferred := none } })))
   ∧ (∀ (g : Segment) (code length : Nat) (s : State),
     s.bbc.deferred = some ⟨g, code, length, .waiting⟩ ∨ s.bbc.deferred = some ⟨g, code, length, .inFlight⟩ →
     exec .deferredExpiry s = .next (finish s)))

/-- PACK_READ with the segment and the length in range (R61): the same read DONE is answered OK with its result and frees the slot;
the same read not DONE is DEFERRED; another read is BUSY; with the slot free an EMPTY or SEATING bay is NO_PACK and any other is
captured and answered DEFERRED. A wrong segment is BAD_VALUE and a wrong length BAD_LENGTH. -/
def Obligations.PackReadUsesDeferredSlot : Prop :=
  ∀ (tag code len seg : Byte) (g : Segment) (s : State), LinkOpen s →
    (g = .A ∧ seg = 0 ∨ g = .B ∧ seg = 1 ∨ g = .C ∧ seg = 2) → 1 ≤ len.toNat → len.toNat ≤ 32 →
    let received : State := { s with delivered := s.delivered.erase (.packRead tag [seg, code, len]) }
    let slot := fun (d : Option DeferredRead) (s : State) => { s with bbc := { s.bbc with deferred := d } }
    (∀ (r : TxResult) (bytes : List Byte) (e : Nat), s.bbc.deferred = some ⟨g, code.toNat, len.toNat, .done r bytes e⟩ →
      exec (.packRead tag [seg, code, len]) s = .next (finish (answered tag 0x20 .ok
        (BitVec.ofNat 8 (resultCode r) :: if r = .done then bytes else []) (slot none received))))
    ∧ (s.bbc.deferred = some ⟨g, code.toNat, len.toNat, .waiting⟩ ∨ s.bbc.deferred = some ⟨g, code.toNat, len.toNat, .inFlight⟩ →
      exec (.packRead tag [seg, code, len]) s = .next (finish (answered tag 0x20 .deferred [] received)))
    ∧ (∀ d : DeferredRead, s.bbc.deferred = some d → (d.segment ≠ g ∨ d.code ≠ code.toNat ∨ d.length ≠ len.toNat) →
      exec (.packRead tag [seg, code, len]) s = .next (finish (answered tag 0x20 .busy [] received)))
    ∧ (s.bbc.deferred = none →
      (∀ b : Bay, bayOfSegment g = some b → ((bayOf s b).state = .empty ∨ (bayOf s b).state = .seating) →
        exec (.packRead tag [seg, code, len]) s = .next (finish (answered tag 0x20 .noPack [] received)))
      ∧ ((∀ b : Bay, bayOfSegment g = some b → (bayOf s b).state ≠ .empty ∧ (bayOf s b).state ≠ .seating) →
        exec (.packRead tag [seg, code, len]) s = .next (finish (answered tag 0x20 .deferred []
          (slot (some ⟨g, code.toNat, len.toNat, .waiting⟩) received)))))
    ∧ (∀ v : Byte, 2 < v.toNat → exec (.packRead tag [v, code, len]) s = .next (finish (answered tag 0x20 .badValue []
        { s with delivered := s.delivered.erase (.packRead tag [v, code, len]) })))
    ∧ (∀ n : Byte, n = 0 ∨ 32 < n.toNat → exec (.packRead tag [seg, code, n]) s = .next (finish (answered tag 0x20 .badLength []
        { s with delivered := s.delivered.erase (.packRead tag [seg, code, n]) })))

/-- PACK_WRITE (R63): segment C is OWNED, an EMPTY or SEATING bay NO_PACK, a queue of four BUSY, and otherwise the write joins the tail
and the answer is POSTED; a segment outside 0 to 2 is BAD_VALUE. -/
def Obligations.PackWriteJoinsPostedQueue : Prop :=
  ∀ (tag seg command v0 v1 : Byte) (s : State), LinkOpen s →
    let c : Instr := .packWrite tag [seg, command, v0, v1]
    let received : State := { s with delivered := s.delivered.erase c }
    (2 < seg.toNat → exec c s = .next (finish (answered tag 0x21 .badValue [] received)))
    ∧ (seg = 2 → exec c s = .next (finish (answered tag 0x21 .owned [] received)))
    ∧ (∀ b : Bay, seg = (if b = .A then 0 else 1) →
      (((bayOf s b).state = .empty ∨ (bayOf s b).state = .seating) →
        exec c s = .next (finish (answered tag 0x21 .noPack [] received)))
      ∧ ((bayOf s b).state ≠ .empty → (bayOf s b).state ≠ .seating →
        (4 ≤ s.bbc.posted.length → exec c s = .next (finish (answered tag 0x21 .busy [] received)))
        ∧ (s.bbc.posted.length < 4 → exec c s = .next (finish (answered tag 0x21 .posted []
            { received with
              bbc := { s.bbc with
                posted := s.bbc.posted ++ [⟨segmentOf b, command.toNat, v0.toNat + 256 * v1.toNat⟩] } })))))

/-! ### Charging and the pack memory (chapter 4) -/

/-- The pack memory takes an identification by serial (R70): a held entry moves to position 0 with its insert count up by 1 (to 65,535) and
its mark kept; a new entry enters at position 0; with 8 held the least recent entry that is not pinned leaves first.

The host's requests on the pack memory (R69, R73, R74, R75): a read answers the entry at a position, the count held and the pin state,
or NOT_FOUND; PACK_FORGET removes an unpinned entry, refuses a pinned one PINNED and an unknown serial NOT_FOUND; PACK_CLEAR_SHOCK clears
the mark of an entry. The model's choice: clearing the mark of a pack in no bay evaluates no arbitration (assumption 60), and marks
are answered as 1 or 0 (assumption 10). -/
def Obligations.PackMemoryKeepsAndAnswers : Prop :=
  (∀ (b : Bay) (id : Identity) (charge : Nat) (s : State),
     KeepsAllBut [.cc] s (rememberPack b id charge s)
     ∧ (∀ (before after : List PackEntry) (e : PackEntry), s.cc.memory = before ++ e :: after → e.serial = id.serial →
         (∀ x ∈ before ++ after, x.serial ≠ id.serial) →
         (rememberPack b id charge s).cc = { s.cc with
           memory := { e with
             chemistry := id.chemistry, designCapacity := id.designCapacity, lastBay := b, lastCharge := charge,
             insertCount := min (e.insertCount + 1) 65535 } :: (before ++ after) })
     ∧ (∀ fresh : PackEntry, fresh = ⟨id.serial, id.chemistry, id.designCapacity, b, charge, 1, false, none⟩ →
         (∀ x ∈ s.cc.memory, x.serial ≠ id.serial) →
         (s.cc.memory.length < 8 → (rememberPack b id charge s).cc = { s.cc with memory := fresh :: s.cc.memory })
         ∧ (∀ (before after : List PackEntry) (e : PackEntry), s.cc.memory = before ++ e :: after → 8 ≤ s.cc.memory.length →
             pinned s e.serial = false → (∀ x ∈ after, pinned s x.serial = true) →
             (rememberPack b id charge s).cc = { s.cc with memory := fresh :: (before ++ after) })))
  ∧ (∀ (tag : Byte) (s : State), LinkOpen s →
     (∀ p : Byte,
       let received : State := { s with delivered := s.delivered.erase (.packMemoryRead tag [p]) }
       (∀ e : PackEntry, s.cc.memory[p.toNat]? = some e →
         exec (.packMemoryRead tag [p]) s = .next (finish (answered tag 0x60 .ok
           (packEntryBytes e ++ byte1 s.cc.memory.length ++ byte1 (pinState s e.serial)) received)))
       ∧ (s.cc.memory.length ≤ p.toNat →
         exec (.packMemoryRead tag [p]) s = .next (finish (answered tag 0x60 .notFound (byte1 s.cc.memory.length) received))))
     ∧ (∀ (b0 b1 b2 b3 : Byte) (serial : Nat), serial = le4 b0 b1 b2 b3 →
       let forget : Instr := .packForget tag [b0, b1, b2, b3]
       let clear : Instr := .packClearShock tag [b0, b1, b2, b3]
       let pins := fun b : Bay => (bayOf s b).state ≠ .empty ∧ (bayOf s b).identity.map Identity.serial = some serial
       ((∀ e ∈ s.cc.memory, e.serial ≠ serial) →
         exec forget s = .next (finish (answered tag 0x61 .notFound [] { s with delivered := s.delivered.erase forget }))
         ∧ exec clear s = .next (finish (answered tag 0x62 .notFound [] { s with delivered := s.delivered.erase clear })))
       ∧ ((∃ e ∈ s.cc.memory, e.serial = serial) →
         ((∃ b, pins b) →
           exec forget s = .next (finish (answered tag 0x61 .pinned [] { s with delivered := s.delivered.erase forget })))
         ∧ ((∀ b, ¬ pins b) →
           exec forget s = .next (finish (answered tag 0x61 .ok [] { s with
             delivered := s.delivered.erase forget,
             cc := { s.cc with memory := s.cc.memory.filter fun e => e.serial != serial } }))
           ∧ ((s.cc.memory.map PackEntry.serial).Nodup →
             (∀ e ∈ s.cc.memory, e.shocked = false → e.shockSequence = none) →
             exec clear s = .next (finish (answered tag 0x62 .ok [] { s with
               delivered := s.delivered.erase clear,
               cc := { s.cc with
                 memory := s.cc.memory.map fun e =>
                   if e.serial = serial then { e with shocked := false, shockSequence := none } else e } })))))))

/-- A telemetry block at the CC (R71, R85, R87): for a bay with no identity nothing changes; otherwise the entry of the serial takes the
charge in place. For the bay of an ACTIVE session a temperature outside the recorded window ends it with CHARGE_HELD (TEMPERATURE), and
otherwise a full pack ends it with CHARGE_DONE and the charged mark; the charge switch is then open and the bay STANDBY. -/
def Obligations.ChargeTelemetryUpdatesMemoryAndSession : Prop :=
  ∀ (b : Bay) (t : Telemetry) (s : State),
    let received : State := { s with delivered := s.delivered.erase (.ccTelemetry b t) }
    let taken := fun id : Identity =>
      s.cc.memory.map fun e => if e.serial = id.serial then { e with lastCharge := t.charge } else e
    let ended : BayRecord :=
      { bayOf s b with state := .standby, charge := false, refusal := false, holdTimer := none, lapseTimer := none }
    ((bayOf s b).identity = none → exec (.ccTelemetry b t) s = .next (finish received))
    ∧ (∀ id : Identity, (bayOf s b).identity = some id →
      (s.cc.session = .none → s.cc.fault = true →
        exec (.ccTelemetry b t) s = .next (finish { received with
          cc := { s.cc with memory := taken id } }))
      ∧ (∀ (i : Nat) (v : Recorded), s.cc.session = .active b i v → (bayOf s b).state = .charging →
          v.tempLow < v.tempHigh →
          (t.temperature < v.tempLow ∨ v.tempHigh < t.temperature → ∃ u : State,
            exec (.ccTelemetry b t) s = .next (finish u)
            ∧ KeepsAllBut [.ppc, .bbc, .cc, .lu, .delivered] s u ∧ OnlyBayRecord b s u ∧ bayOf u b = ended
            ∧ u.cc = { s.cc with memory := taken id, session := u.cc.session } ∧ (∀ x j w, u.cc.session ≠ .active x j w)
            ∧ u.lu = (raise (.chargeHeld b .temperature) s).lu)
          ∧ (v.tempLow ≤ t.temperature → t.temperature ≤ v.tempHigh → t.current ≤ v.terminationCurrent →
              (v.chargeVoltage : Int) - 50 ≤ t.voltage → ∃ u : State,
            exec (.ccTelemetry b t) s = .next (finish u)
            ∧ KeepsAllBut [.ppc, .bbc, .cc, .lu, .delivered] s u ∧ OnlyBayRecord b s u ∧ bayOf u b = ended
            ∧ u.cc = { s.cc with memory := taken id, session := u.cc.session, charged := s.cc.charged.set b true }
            ∧ (∀ x j w, u.cc.session ≠ .active x j w) ∧ u.lu = (raise (.chargeDone b t.charge) s).lu)))

/-- Charger arbitration (R80, R81, R82). A bay is eligible when it is STANDBY with DC feeding alone, a matched profile, no shocked mark, no alarm, its
telemetry not lost, a temperature inside the profile's window, and a charge at or below P42 or, not yet charged since insertion, below 100. With the
record NONE and no fault the eligible bay with the lower charge, bay A on a tie, starts an attempt with its profile's values, and with DC PRESENT its start
list is handed; otherwise nothing is chosen. A STARTING attempt that no longer meets R80 is abandoned: its lists are withdrawn, a stop list is handed
and the record is NONE, where no other bay is eligible. An ACTIVE session stands. The model's choice: an attempt stands under its recorded values also
where its bay was emptied and identified afresh, or matched to another profile (assumption 51).

Marking an event's packs (R72) sets the mark and the record's number in the entry of each serial, held or not in a bay; an ACTIVE session on a marked
pack ends with CHARGE_HELD (SHOCKED), its charge switch open and the bay STANDBY. The model's choice: every serial is marked before the session ends
(assumption 57). -/
def Obligations.ArbitrationStartsAndAbandonsAttempts : Prop :=
  (∀ s : State,
     let stop : ChargerList := ⟨.stop, [(0x33, 0)], false⟩
     (∀ b : Bay, eligibleToCharge s b = true ↔
       (bayOf s b).state = .standby ∧ dcFeedsAlone s = true ∧ alarmMark s b = false ∧ (bayOf s b).telemetryLost = false
         ∧ (∀ id, (bayOf s b).identity = some id → ∀ e ∈ s.cc.memory, e.serial = id.serial → e.shocked = false)
         ∧ ∃ (i : Nat) (p : Profile) (t : Telemetry), (bayOf s b).profile = some i ∧ s.ts.t3.active[i]? = some p
           ∧ (bayOf s b).telemetry = some t
           ∧ (p.tempHigh ≤ p.tempLow ∨ p.tempLow ≤ t.temperature ∧ t.temperature ≤ p.tempHigh)
           ∧ (t.charge ≤ paramN s 42 ∨ s.cc.charged.get b = false ∧ t.charge < 100))
     ∧ (s.cc.session = .none →
       (s.cc.fault = true ∨ (∀ b : Bay, eligibleToCharge s b = false) → arbitrate s = s)
       ∧ (∀ (b : Bay) (i : Nat) (p : Profile), s.cc.fault = false → eligibleToCharge s b = true →
           (eligibleToCharge s b.other = true → chargeOf s b < chargeOf s b.other ∨ chargeOf s b = chargeOf s b.other ∧ b = .A) →
           (bayOf s b).profile = some i → s.ts.t3.active[i]? = some p → arbitrate s = { s with
             cc := { s.cc with
               session := .starting b i ⟨p.chargeVoltage, p.chargeCurrent, p.terminationCurrent, p.tempLow, p.tempHigh⟩ },
             bbc := { s.bbc with lists := s.bbc.lists ++
               (if dcPresent s then [⟨.start, [(0x31, p.chargeVoltage), (0x32, p.chargeCurrent), (0x33, 1)], false⟩] else []) } }))
     ∧ (∀ (b : Bay) (i : Nat) (v : Recorded), s.cc.session = .starting b i v →
       (chargeable s b v.tempLow v.tempHigh = true → arbitrate s = s)
       ∧ (chargeable s b v.tempLow v.tempHigh = false → (∀ x : Bay, eligibleToCharge s x = false) → dcPresent s = true →
           ((∀ t, s.bbc.inFlight = some t → t.owner ≠ .charger) → (∃ l, s.bbc.lists = [l] ∧ l.kind = .start) →
             arbitrate s = { s with cc := { s.cc with session := .none }, bbc := { s.bbc with lists := [stop] } })
           ∧ (∀ (t : Transaction) (l : ChargerList), s.bbc.inFlight = some t → t.owner = .charger → s.bbc.lists = [l] →
               l.kind = .start → arbitrate s = { s with
                 cc := { s.cc with session := .none },
                 bbc := { s.bbc with lists := [{ l with writes := l.writes.take 1, withdrawn := true }, stop] } })))
     ∧ (∀ (b : Bay) (i : Nat) (v : Recorded), s.cc.session = .active b i v → arbitrate s = s))
  ∧ (∀ (serials : List Nat) (seq : Option Nat) (s : State),
     let marked := s.cc.memory.map fun e => if e.serial ∈ serials then { e with shocked := true, shockSequence := seq } else e
     (s.cc.session = .none → markPacks serials seq s = { s with cc := { s.cc with memory := marked } })
     ∧ (∀ (b : Bay) (i : Nat) (v : Recorded) (id : Identity), s.cc.session = .active b i v → (bayOf s b).state = .charging →
         (bayOf s b).identity = some id → id.serial ∈ serials → (∃ e ∈ s.cc.memory, e.serial = id.serial) →
         let u := markPacks serials seq s
         KeepsAllBut [.ppc, .bbc, .cc, .lu, .delivered] s u ∧ OnlyBayRecord b s u
         ∧ bayOf u b = { bayOf s b with state := .standby, charge := false, refusal := false, holdTimer := none, lapseTimer := none }
         ∧ u.cc = { s.cc with memory := marked, session := u.cc.session } ∧ (∀ x j w, u.cc.session ≠ .active x j w)
         ∧ (∀ j w, u.cc.session ≠ .starting b j w) ∧ u.lu = (raise (.chargeHeld b .shocked) s).lu))

/-- The last write of a start list ending DONE closes the charge switch of a bay that is still eligible (R82): the bay is CHARGING, the
session ACTIVE, the count of failed lists 0, CHARGE_STARTED raised and the Budget Unit told. A failed one with DC PRESENT ends the attempt
and counts, the third setting the fault mark with CHARGER_FAULT (R83). The model's choice: eligible means under the attempt's recorded values, also
where the bay was identified afresh (assumption 51). -/
def Obligations.StartListReportDecidesAttempt : Prop :=
  ∀ (t : Transaction) (w : Nat × Nat) (b : Bay) (i : Nat) (v : Recorded) (s : State),
    s.bbc.inFlight = some t → t.owner = .charger → t.op = .write w.1 w.2 → s.bbc.lists = [⟨.start, [w], false⟩] →
    s.cc.session = .starting b i v →
    (∀ bytes : List Byte, chargeable s b v.tempLow v.tempHigh = true → ∃ u : State,
      exec (.transactionEnd (.accepted bytes)) s = .next (finish u)
      ∧ KeepsAllBut [.ppc, .bbc, .cc, .lu, .delivered] s u
      ∧ bayOf u b = { bayOf s b with
          state := .charging, charge := true, refusal := false, holdTimer := none, lapseTimer := none }
      ∧ OnlyBayRecord b s u ∧ u.cc = { s.cc with session := .active b i v, failedLists := 0 }
      ∧ u.bbc = { s.bbc with
          inFlight := none, lists := [], bays := s.bbc.bays.set b { busOf s b with sequence := none } }
      ∧ u.lu = (raise (.chargeStarted b i) s).lu ∧ Instr.budgetRecompute ∈ u.delivered)
    ∧ (dcPresent s = true → s.cc.failedLists < 3 → ∃ u : State,
      exec (.transactionEnd .refused) s = .next (finish u)
      ∧ KeepsAllBut [.bbc, .cc, .lu] s u
      ∧ u.cc = { s.cc with
          session := .none, failedLists := s.cc.failedLists + 1, fault := s.cc.fault || s.cc.failedLists == 2 }
      ∧ u.bbc = { s.bbc with inFlight := none, lists := [⟨.stop, [(0x33, 0)], false⟩] }
      ∧ u.lu = (if s.cc.failedLists = 2 then raise (.chargerFault .nak) s else s).lu)

/-! ### Power budget (chapter 5) -/

/-- A recomputation (R91 to R99): the case and the budget from the source record, the power cap level P = (B − P18) × 1000 / P19 bounded
to 0 and 1000, the swap flag, the pair published if it differs, and the capped mark against the demand held.

A demand handed to the Budget Unit (R99): the mark is set with BACKLIGHT_CAPPED (CAPPED) when the budget ceiling lies below it, and
cleared with BACKLIGHT_CAPPED (RELEASED) when it does not; an unchanged mark raises nothing. -/
def Obligations.BudgetRecomputedAndDemandCapped : Prop :=
  (∀ s : State, ∃ u : State, exec .budgetRecompute s = .next (finish u) ∧ KeepsAllBut [.bu, .lu, .delivered] s u
     ∧ (s.ppc.railOn = false → u.bu.case = .railOff ∧ u.bu.budget = 0)
     ∧ (s.ppc.railOn = true → anyFeeding s = false → u.bu.case = .bridging ∧ u.bu.budget = 0)
     ∧ (s.ppc.railOn = true → dcFeedsAlone s = true → u.bu.case = .dc ∧
         u.bu.budget = paramN s 17 - match s.cc.session with
           | .active _ _ v => v.chargeVoltage * v.chargeCurrent / 1000
           | _ => 0)
     ∧ (∀ (b : Bay) (t : Telemetry), s.ppc.railOn = true → s.ppc.dcSwitch = false → (bayOf s b).discharge = true →
         (bayOf s b.other).discharge = false → (bayOf s b).telemetry = some t →
         u.bu.case = (if b = .A then .bayA else .bayB)
         ∧ u.bu.budget =
             (let base := t.voltage * ((bayProfile s b).map Profile.maxDischarge).getD 1000 / 1000
              let low := if t.charge < paramN s 31 then base / 2 else base
              if (bayOf s b).telemetryLost then low / 2 else low))
     ∧ u.bu.powerCap = min ((u.bu.budget - paramN s 18) * 1000 / paramN s 19) 1000
     ∧ (u.bu.swapFlag = true ↔ (∃ b, (bayOf s b).state = .releasing) ∨ bridging s = true ∨ s.ppc.forced.isSome)
     ∧ u.bu.publishedCap = u.bu.powerCap ∧ u.bu.publishedSwap = u.bu.swapFlag ∧ u.bu.demand = s.bu.demand
     ∧ u.delivered = s.delivered.erase .budgetRecompute ++
         (if u.bu.powerCap = s.bu.publishedCap ∧ u.bu.swapFlag = s.bu.publishedSwap then []
          else [.blcPublication u.bu.powerCap u.bu.swapFlag])
     ∧ (u.bu.capped = true ↔
         max (paramN s 20) (if u.bu.swapFlag then min u.bu.powerCap (paramN s 21) else u.bu.powerCap) < s.bu.demand))
  ∧ (∀ (demand : Nat) (s : State) (below : Bool),
     (below = true ↔
       max (paramN s 20) (if s.bu.swapFlag then min s.bu.powerCap (paramN s 21) else s.bu.powerCap) < demand) →
     let held : State := { s with
       delivered := s.delivered.erase (.cappedEvaluation demand),
       bu := { s.bu with demand := demand, capped := below } }
     exec (.cappedEvaluation demand) s = .next (finish
       (if below = s.bu.capped then held else raise (.backlightCapped below demand s.bu.powerCap s.bu.swapFlag) held)))

/-! ### Backlight (chapter 6) -/

/-- A publication, a rail change and a LID edge are stored and the target recomputed, with the demand handed and the output adjusted
(R118, R119, R120, R122). The model's choice: a LID edge's recomputation takes the lid from the edge, every other reads the filtered state
(assumption 45), and before the first publication the backlight works with (0, off) (assumption 26). -/
def Obligations.CapsRailAndLidMoveTarget : Prop :=
  ∀ s : State,
    (∀ (p : Nat) (swap : Bool), ∃ u : State, exec (.blcPublication p swap) s = .next (finish u)
      ∧ TargetRecomputed { s with
          delivered := s.delivered.erase (.blcPublication p swap),
          blc := { s.blc with publication := some (p, swap) } } u)
    ∧ (∀ on : Bool, ∃ u : State, exec (.blcRailChange on) s = .next (finish u)
      ∧ TargetRecomputed { s with
          delivered := s.delivered.erase (.blcRailChange on),
          blc := { s.blc with railOn := on } } u)
    ∧ (∀ closed : Bool, ∃ u : State, exec (.blcLidEdge closed) s = .next (finish u)
      ∧ TargetRecomputedWith closed { s with delivered := s.delivered.erase (.blcLidEdge closed) } u)

/-- OFFSET_SET clamps to −500 to 500 and answers the offset taken (R112); OVERRIDE_PUSH clamps to 0 to 1000, pushes and answers the depth and
the level, or FULL at depth 4 (R113); OVERRIDE_POP removes the top and answers it with the depth, or EMPTY (R114). Each change recomputes
the target, by the model's choices of the lid it reads (assumption 45) and of the publication before the first (assumption 26). -/
def Obligations.OffsetAndOverridesMoveTarget : Prop :=
  ∀ (tag lo hi : Byte) (v : Int) (s : State), LinkOpen s → v = signed16 (le2 lo hi) →
    let offset : Instr := .offsetSet tag [lo, hi]
    let push : Instr := .overridePush tag [lo, hi]
    let pop : Instr := .overridePop tag []
    (∃ u : State, exec offset s = .next (finish (answered tag 0x32 .ok (byte2s (max (-500) (min 500 v))) u))
      ∧ TargetRecomputed { s with
          delivered := s.delivered.erase offset,
          blc := { s.blc with offset := max (-500) (min 500 v) } } u)
    ∧ (4 ≤ s.blc.stack.length →
        exec push s = .next (finish (answered tag 0x30 .full [] { s with delivered := s.delivered.erase push })))
    ∧ (s.blc.stack.length < 4 → ∃ u : State,
        exec push s = .next (finish (answered tag 0x30 .ok
          (byte1 (s.blc.stack.length + 1) ++ byte2 (max 0 (min 1000 v)).toNat) u))
        ∧ TargetRecomputed { s with
            delivered := s.delivered.erase push,
            blc := { s.blc with stack := (max 0 (min 1000 v)).toNat :: s.blc.stack } } u)
    ∧ (s.blc.stack = [] →
        exec pop s = .next (finish (answered tag 0x31 .empty [] { s with delivered := s.delivered.erase pop })))
    ∧ (∀ (top : Nat) (rest : List Nat), s.blc.stack = top :: rest → ∃ u : State,
        exec pop s = .next (finish (answered tag 0x31 .ok (byte2 top ++ byte1 rest.length) u))
        ∧ TargetRecomputed { s with
            delivered := s.delivered.erase pop,
            blc := { s.blc with stack := rest } } u)

/-- A light sample (R101, R104, R106, R107): stored, a saturated one as 131,071; a rear sample with the front working drives no step. A step
moves F towards 16 × E by delta / 2^k, or by ±1 where that is 0, with k = P24 rising and P25 falling; it then computes Tc, moves Th to Tc where they
differ by P22 or more or Tc is the level of the first or the last point in use (R111), and hands the LIGHT frame of the state it has left.

A light sensor silent for P38 fails with AMBIENT_FAIL naming the other's mark, its sample kept (R102); the failed mark of one already
failed stands.

A temperature sample is brought to −400 to 1250, stored, clears the silent mark and sets C_t by the derate span of R116; 3000 ms of silence
set the mark and hold C_t at P30 (R117); each recomputes the target.

The model's choices: before the end of the settle interval a sample has no effect (assumption 6), an expired silence timer stands at its
limit or beyond (assumption 5), and the recomputation takes the lid and the publication as assumptions 45 and 26 say. -/
def Obligations.LightAndTemperatureAreSampled : Prop :=
  ((∀ (x : LightSensor) (lux : Nat) (saturated : Bool) (s : State),
     (s.settling.isSome → exec (.lightSample x lux saturated) s = .next (finish s))
     ∧ (s.settling = none →
       let r : SensorRecord := ⟨some (if saturated then 131071 else lux), saturated, false, some 0⟩
       (x = .rear → s.blc.front.failed = false →
         exec (.lightSample x lux saturated) s = .next (finish { s with blc := { s.blc with rear := r } }))
       ∧ ((x = .front ∨ s.blc.front.failed = true) → s.ts.t1.pending = false →
         ∀ (front rear : SensorRecord) (e f k : Nat) (delta : Int),
         front = (if x = .front then r else s.blc.front) → rear = (if x = .rear then r else s.blc.rear) →
         e = max (if front.failed then 0 else front.sample.getD 0)
           ((if rear.failed then 0 else rear.sample.getD 0) * paramN s 23 / 16) →
         delta = 16 * (e : Int) - s.blc.filter → k = (if 0 < delta then paramN s 24 else paramN s 25) →
         (f : Int) = s.blc.filter + (if delta = 0 then 0
           else if delta.tdiv (2 ^ k) = 0 then delta.sign else delta.tdiv (2 ^ k)) →
         ∀ tc : Nat, tc = curveLevelAt s.ts.t1.active (f / 16) →
         let atEnd := (s.ts.t1.active.used.head?.map Prod.snd) = some tc ∨ (s.ts.t1.active.used.getLast?.map Prod.snd) = some tc
         ∃ u v : State,
         exec (.lightSample x lux saturated) s = .next (finish v)
         ∧ TargetRecomputed { s with
             blc := { s.blc with
               front := front, rear := rear, filter := f,
               curveLevel := tc,
               held := if paramN s 22 ≤ ((tc : Int) - s.blc.held).natAbs ∨ atEnd then tc else s.blc.held } } u
         ∧ v = handTraffic (lightFrame x u) u)))
  ∧ (∀ (e : Nat) (s : State),
     (s.blc.front.silence = some e →
       (s.blc.front.failed = false → exec (.lightSensorTimeout .front) s = .next (finish
         (raise (.ambientFail .front s.blc.rear.failed) { s with
           blc := { s.blc with
             front := { s.blc.front with failed := true, silence := some (max e (ms (paramN s 38))) } } })))
       ∧ (s.blc.front.failed = true → exec (.lightSensorTimeout .front) s = .next (finish s)))
     ∧ (s.blc.rear.silence = some e →
       (s.blc.rear.failed = false → exec (.lightSensorTimeout .rear) s = .next (finish
         (raise (.ambientFail .rear s.blc.front.failed) { s with
           blc := { s.blc with
             rear := { s.blc.rear with failed := true, silence := some (max e (ms (paramN s 38))) } } })))
       ∧ (s.blc.rear.failed = true → exec (.lightSensorTimeout .rear) s = .next (finish s)))))
  ∧ ∀ s : State,
    (∀ (reading t : Int) (cap : Nat), s.settling = none → t = max (-400) (min 1250 reading) →
      cap = (if param s 29 ≤ param s 28 ∨ t ≤ param s 28 then 1000
        else if param s 29 ≤ t then paramN s 30
        else 1000 - (1000 - paramN s 30) * (t - param s 28).toNat / (param s 29 - param s 28).toNat) → ∃ u : State,
      exec (.temperatureSample reading) s = .next (finish u)
      ∧ TargetRecomputed { s with
          blc := { s.blc with temperature := some t, tempSilence := some 0, tempSilent := false, thermalCap := cap } } u)
    ∧ (∀ reading : Int, s.settling.isSome → exec (.temperatureSample reading) s = .next (finish s))
    ∧ (∀ e : Nat, s.blc.tempSilence = some e → ∃ u : State,
      exec .temperatureSilenceTimeout s = .next (finish u)
      ∧ TargetRecomputed { s with
          blc := { s.blc with tempSilence := some (max e (ms 3000)), tempSilent := true, thermalCap := paramN s 30 } } u)

/-- F never passes 16 × E and moves towards it by at least 1 while it differs, so a steady light is reached exactly (R106).

The brightness curve (R109): the first level at or below the first point's lux, the last level at or above the last point's, and between
two points the exact interpolation, truncated. The points' lux values rise strictly and the levels do not fall, as R108 checks. -/
def Obligations.FilterAndCurveFollowLight : Prop :=
  (∀ f e rise fall : Nat,
     (f < 16 * e → f < filterNext f e rise fall ∧ filterNext f e rise fall ≤ 16 * e)
     ∧ (16 * e < f → filterNext f e rise fall < f ∧ 16 * e ≤ filterNext f e rise fall)
     ∧ (f = 16 * e → filterNext f e rise fall = f)
     ∧ (f < 16 * e → rise = 0 → filterNext f e rise fall = 16 * e)
     ∧ (16 * e < f → fall = 0 → filterNext f e rise fall = 16 * e))
  ∧ (∀ (c : Curve) (l : Nat), (c.used.map Prod.fst).Pairwise (· < ·) → (c.used.map Prod.snd).Pairwise (· ≤ ·) →
     (∀ (p : Nat × Nat) (rest : List (Nat × Nat)), c.used = p :: rest → l ≤ p.1 → curveLevelAt c l = p.2)
     ∧ (∀ (before : List (Nat × Nat)) (p : Nat × Nat), c.used = before ++ [p] → p.1 ≤ l → curveLevelAt c l = p.2)
     ∧ (∀ (before after : List (Nat × Nat)) (p q : Nat × Nat), c.used = before ++ p :: q :: after → p.1 ≤ l → l < q.1 →
         curveLevelAt c l = p.2 + (q.2 - p.2) * (l - p.1) / (q.1 - p.1)
           ∧ p.2 ≤ curveLevelAt c l ∧ curveLevelAt c l ≤ q.2))

/-- A ramp tick moves the output towards the target by at most P26 up or P27 down, and restarts its phase (R121). -/
def Obligations.RampTickStepsTowardsTarget : Prop :=
  ∀ (e : Nat) (s : State), s.blc.rampPhase = some e →
    exec .rampTick s = .next (finish { s with
      blc := { s.blc with
        rampPhase := some 0,
        output :=
          if s.blc.output < s.blc.target then min s.blc.target (s.blc.output + paramN s 26)
          else if s.blc.target < s.blc.output then max s.blc.target (s.blc.output - paramN s 27)
          else s.blc.output } })

/-! ### Motion and drops (chapters 7 and 8) -/

/-- A sample in DISARMED or IDLE (R128, R129, R131, R132): the silence timer restarts; in IDLE a free-fall sample counts q up and at P1 begins a
fall with n = q, the snapshot, the hold delivered, the quiesce line asserted and FREEFALL; a middle sample returns q to 0; an impact sample
begins a KNOCK in IMPACT. Motion forwarding follows.

A sample in FALLING or IMPACT that does not end the measurement (R134, R136): in FALLING a free-fall sample counts n (to 1023) and clears g, a
middle sample counts both up to P2, and an impact sample enters IMPACT with outcome DROP; in IMPACT w counts every sample and the impact
count the impact samples; the peak m2 takes the larger throughout. The model's choice: the ICU is handed the hold's start before the PPC
(assumption 55). -/
def Obligations.AccelSamplesWatchAndMeasure : Prop :=
  (∀ (x y z : Int) (m2 : Nat) (s : State), s.settling = none → m2 = (x * x + y * y + z * z).toNat →
     let answers := fun v : State => exec (.accelSample x y z) s = .next (finish (forwardMotion x y z v))
     (s.shm.state = .disarmed → answers { s with shm := { s.shm with silence := some 0 } })
     ∧ (s.shm.state = .idle →
       (m2 < paramN s 0 ^ 2 → s.shm.qualify + 1 < paramN s 1 →
         answers { s with shm := { s.shm with silence := some 0, qualify := s.shm.qualify + 1 } })
       ∧ (paramN s 0 ^ 2 ≤ m2 → m2 < paramN s 3 ^ 2 → answers { s with shm := { s.shm with silence := some 0, qualify := 0 } })
       ∧ (m2 < paramN s 0 ^ 2 → paramN s 1 ≤ s.shm.qualify + 1 →
         answers (raise (.freefall (s.shm.qualify + 1) (takeSnapshot s)) { s with
           shm := { s.shm with
             silence := some 0, state := .falling, qualify := 0, fallCount := s.shm.qualify + 1, grace := 0, window := 0,
             impacts := 0, rest := 0, peakM2 := m2, outcome := none, settleTimer := none,
             snapshot := some (takeSnapshot s), handedOver := false, quiesceLine := true },
           delivered := s.delivered ++ [.filterLengthChange .holdStart, .ppcShockHoldStart] }))
       ∧ (paramN s 0 ^ 2 ≤ m2 → paramN s 3 ^ 2 ≤ m2 → 1 < paramN s 4 →
         answers { s with
           shm := { s.shm with
             silence := some 0, state := .impact, qualify := 0, fallCount := 0, grace := 0, window := 1,
             impacts := 1, rest := 0, peakM2 := m2, outcome := some .knock, settleTimer := none,
             snapshot := some (takeSnapshot s), handedOver := false, quiesceLine := true },
           delivered := s.delivered ++ [.filterLengthChange .holdStart, .ppcShockHoldStart] })))
  ∧ (∀ (x y z : Int) (m2 : Nat) (s : State), s.settling = none → m2 = (x * x + y * y + z * z).toNat →
     let answers := fun m : Shm => exec (.accelSample x y z) s = .next (finish (forwardMotion x y z { s with shm := m }))
     (s.shm.state = .falling →
       (m2 < paramN s 0 ^ 2 → answers { s.shm with
         silence := some 0, peakM2 := max s.shm.peakM2 m2, fallCount := min (s.shm.fallCount + 1) 1023, grace := 0 })
       ∧ (paramN s 0 ^ 2 ≤ m2 → m2 < paramN s 3 ^ 2 → s.shm.grace + 1 ≤ paramN s 2 → answers { s.shm with
         silence := some 0, peakM2 := max s.shm.peakM2 m2, fallCount := min (s.shm.fallCount + 1) 1023,
         grace := s.shm.grace + 1 })
       ∧ (paramN s 0 ^ 2 ≤ m2 → paramN s 3 ^ 2 ≤ m2 → 1 < paramN s 4 → answers { s.shm with
         silence := some 0, peakM2 := max s.shm.peakM2 m2, state := .impact, outcome := some .drop, window := 1, impacts := 1 }))
     ∧ (s.shm.state = .impact → s.shm.window + 1 < paramN s 4 → answers { s.shm with
         silence := some 0, peakM2 := max s.shm.peakM2 m2, window := s.shm.window + 1,
         impacts := if paramN s 0 ^ 2 ≤ m2 ∧ paramN s 3 ^ 2 ≤ m2 then s.shm.impacts + 1 else s.shm.impacts }))

/-- The sample that brings w to P4 hands the event over and enters SETTLING with r and q at 0 and the settle timer from 0 (R136, R137, R138):
with no entry of table 2 that takes it, the event is class 255 and is stored as an open record under the next sequence number, with
DROP_RECORDED, and nothing is marked or kept (R153, R157). -/
def Obligations.WindowEndRecordsEvent : Prop :=
  ∀ (x y z : Int) (m2 : Nat) (c : Snapshot) (o : DropOutcome) (s : State), s.settling = none →
    m2 = (x * x + y * y + z * z).toNat → s.shm.state = .impact → paramN s 4 ≤ s.shm.window + 1 →
    s.shm.snapshot = some c → s.shm.outcome = some o → (∀ e ∈ s.ts.t2.active, e.valid = false) →
    s.dl.nextSequence < 4294967295 → s.dl.log.length < 32 →
    let impacts := if paramN s 0 ^ 2 ≤ m2 ∧ paramN s 3 ^ 2 ≤ m2 then s.shm.impacts + 1 else s.shm.impacts
    let record : DropRecord :=
      { sequence := s.dl.nextSequence, clockSeconds := s.dl.clock, clockValid := s.dl.clockValid, outcome := o,
        eventClass := 255, severity := 0, fallCount := s.shm.fallCount,
        height := s.shm.fallCount * s.shm.fallCount * 4903 / 640000, peak := peakOf (max s.shm.peakM2 m2),
        impacts := impacts, unsettled := false, truncated := false, ejectedA := false, ejectedB := false,
        preserved := false, isOpen := true, snapshot := c }
    exec (.accelSample x y z) s = .next (finish (forwardMotion x y z (raise (.dropRecorded record) { s with
      shm := { s.shm with
        silence := some 0, peakM2 := max s.shm.peakM2 m2, window := s.shm.window + 1, impacts := impacts,
        state := .settling, rest := 0, qualify := 0, settleTimer := some 0, handedOver := true },
      dl := { s.dl with
        log := s.dl.log ++ [record], nextSequence := s.dl.nextSequence + 1,
        openReference := some s.dl.nextSequence } })))

/-- A record is stored as the newest in the order of R155: where it carries PRESERVED and 16 do already, the oldest of those loses the flag; then with 32
records held the oldest that does not carry it is removed.

A close (R159) completes the record that the open reference names: an ending of UNSETTLED sets its flag, each bay whose serial the snapshot holds and
which is EMPTY now is marked ejected, its open mark is cleared and the reference becomes absent; a record that has left the log is not completed. Stated
for the settle timer's end, with no pending swap of table 2 (R139, R140). The model's choice: the ICU is handed the hold's drop before the PPC
(assumption 55). -/
def Obligations.DropLogKeepsLimitsAndCompletes : Prop :=
  (∀ (r : DropRecord) (log : List DropRecord),
     let kept := log.countP DropRecord.preserved
     ((r.preserved = false ∨ kept < 16) →
       (log.length < 32 → storeRecord r log = log ++ [r])
       ∧ (∀ (before after : List DropRecord) (x : DropRecord), 32 ≤ log.length → log = before ++ x :: after →
           x.preserved = false → (∀ y ∈ before, y.preserved = true) → storeRecord r log = before ++ after ++ [r]))
     ∧ (∀ (before after : List DropRecord) (x : DropRecord), r.preserved = true → 16 ≤ kept → log = before ++ x :: after →
         x.preserved = true → (∀ y ∈ before, y.preserved = false) →
         (log.length < 32 → storeRecord r log = before ++ { x with preserved := false } :: after ++ [r])
         ∧ (32 ≤ log.length → before ≠ [] →
             storeRecord r log = before.drop 1 ++ { x with preserved := false } :: after ++ [r])
         ∧ (32 ≤ log.length → before = [] → storeRecord r log = after ++ [r])))
  ∧ (∀ (n : Nat) (s : State), s.shm.state = .settling → s.dl.openReference = some n → s.ts.t2.pending = false →
     exec .settleTimeout s = .next (finish (raise (.shockHoldEnd .unsettled s.shm.outcome s.shm.quiesceKept) { s with
       shm := { s.shm with
         state := .idle, qualify := 0, settleTimer := none, outcome := none, quiesceLine := s.shm.quiesceKept },
       dl := { s.dl with
         openReference := none,
         log := s.dl.log.map fun r =>
           if r.sequence = n then { r with
             unsettled := true, isOpen := false,
             ejectedA := r.ejectedA || (r.snapshot.bayASerial.isSome && (bayOf s .A).state == .empty),
             ejectedB := r.ejectedB || (r.snapshot.bayBSerial.isSome && (bayOf s .B).state == .empty) }
           else r },
       delivered := s.delivered ++ [.filterLengthChange .holdDrop, .ppcShockHoldEnd] })))

/-- The rest run of P7 samples closes the event as settled, and the settle timer at P8 as UNSETTLED (R138, R139, R140): IDLE with q at 0, the
hold's drop delivered, SHOCK_HOLD_END raised and the quiesce line released unless its kept mark is set. Stated with no open record and no
pending swap of table 2.

50 ms without a sample (R144): IDLE becomes UNAVAILABLE with q at 0; a fall is abandoned, unrecorded, with SHOCK_HOLD_END (ABANDONED); in
DISARMED and UNAVAILABLE nothing changes but the timer's reaching its limit. Stated with no pending swap of table 2.

The model's choices: a sample that completes the rest run closes the event though it would also bring q to P1 (assumption 37) or is an
impact sample in the rest band (assumption 56), the ICU is handed the hold's drop before the PPC (assumption 55), and the silence timer stands at
its limit or beyond (assumption 5). -/
def Obligations.EventsCloseOrSensorIsLost : Prop :=
  (∀ s : State, s.shm.state = .settling → s.dl.openReference = none → s.ts.t2.pending = false →
     let closed := fun (ending : Ending) (m : Shm) =>
       raise (.shockHoldEnd ending s.shm.outcome s.shm.quiesceKept) { s with
         shm := { m with
           state := .idle, qualify := 0, settleTimer := none, outcome := none, quiesceLine := s.shm.quiesceKept },
         delivered := s.delivered ++ [.filterLengthChange .holdDrop, .ppcShockHoldEnd] }
     exec .settleTimeout s = .next (finish (closed .unsettled s.shm))
     ∧ ∀ (x y z : Int) (m2 : Nat), s.settling = none → m2 = (x * x + y * y + z * z).toNat →
         paramN s 5 < paramN s 6 → paramN s 5 ^ 2 ≤ m2 → m2 ≤ paramN s 6 ^ 2 → paramN s 7 ≤ s.shm.rest + 1 →
         exec (.accelSample x y z) s = .next (finish (forwardMotion x y z
           (closed .settled { s.shm with silence := some 0, rest := s.shm.rest + 1 }))))
  ∧ (∀ (e : Nat) (s : State), s.shm.silence = some e → s.ts.t2.pending = false →
     let stood := some (max e (ms 50))
     (s.shm.state = .disarmed ∨ s.shm.state = .unavailable →
       exec .sampleSilenceTimeout s = .next (finish { s with shm := { s.shm with silence := stood } }))
     ∧ (s.shm.state = .idle → exec .sampleSilenceTimeout s = .next (finish { s with
         shm := { s.shm with silence := stood, state := .unavailable, qualify := 0 } }))
     ∧ (s.shm.state = .falling → exec .sampleSilenceTimeout s = .next (finish
         (raise (.shockHoldEnd .abandoned s.shm.outcome s.shm.quiesceKept) { s with
           shm := { s.shm with
             silence := stood, state := .unavailable, qualify := 0, settleTimer := none, outcome := none,
             quiesceLine := s.shm.quiesceKept },
           delivered := s.delivered ++ [.filterLengthChange .holdDrop, .ppcShockHoldEnd] }))))

/-- The peak is the largest integer whose square does not exceed the peak m2, and at most 56,755; the height of n samples is n² × 4903 / 640,000,
at most 8017 for n up to 1023 (R136).

An event takes the class, severity and actions of the first entry of table 2 that accepts it, and otherwise class 255 with the log action
alone; an entry accepts an event when it is valid, both windows admit it (one whose high bound does not exceed its low bound admits
every value), and its fall condition and its five context conditions match (R153). -/
def Obligations.EventIsMeasuredAndClassified : Prop :=
  ((∀ m2 : Nat, m2 ≤ 3 * 2 ^ 30 →
     peakOf m2 * peakOf m2 ≤ m2 ∧ m2 < (peakOf m2 + 1) * (peakOf m2 + 1) ∧ peakOf m2 ≤ 56755)
   ∧ ∀ n : Nat, n ≤ 1023 → heightOf n = n ^ 2 * 4903 / 640000 ∧ heightOf n ≤ 8017)
  ∧ (∀ (h : HandOver) (s : State),
     (∀ (before after : List ClassEntry) (e : ClassEntry), s.ts.t2.active = before ++ e :: after →
       (∀ x ∈ before, x.accepts h = false) → e.accepts h = true →
       classify s h = ⟨before.length, e.severity, e.log, e.preserve, e.markPacks, e.keepQuiesce⟩)
     ∧ ((∀ e ∈ s.ts.t2.active, e.accepts h = false) → classify s h = ⟨255, 0, true, false, false, false⟩))
  ∧ (∀ (e : ClassEntry) (h : HandOver),
     let inside := fun low high v : Nat => high ≤ low ∨ low ≤ v ∧ v ≤ high
     let agrees := fun (c : Ternary) (fact : Prop) => c = .any ∨ c = .yes ∧ fact ∨ c = .no ∧ ¬fact
     e.accepts h = true ↔ e.valid = true ∧ inside e.heightLow e.heightHigh h.height ∧ inside e.peakLow e.peakHigh h.peak
       ∧ agrees e.fall (0 < h.fallCount) ∧ agrees e.lidClosed (h.snapshot.lidClosed = true)
       ∧ agrees e.docked (h.snapshot.docked = true) ∧ agrees e.dcPresent (h.snapshot.dcPresent = true)
       ∧ agrees e.bayAOccupied (h.snapshot.bayAOccupied = true) ∧ agrees e.bayBOccupied (h.snapshot.bayBOccupied = true))

/-- SHOCK_ARM and SHOCK_DISARM by state (R146), and QUIESCE_RELEASE, which clears the kept mark and releases the line outside an event (R143).
Arming is stated with the samples present and no pending swap of table 2. -/
def Obligations.ArmDisarmAndQuiesceRequests : Prop :=
  ∀ (tag : Byte) (s : State), LinkOpen s → s.ts.t2.pending = false →
    let answers := fun (c : Instr) (code : Byte) (st : Status) (m : Shm) =>
      exec c s = .next (finish (answered tag code st [] { s with delivered := s.delivered.erase c, shm := m }))
    (s.shm.state = .disarmed → (∀ e, s.shm.silence = some e → e < ms 50) →
        answers (.shockArm tag []) 0x40 .ok { s.shm with state := .idle, qualify := 0 })
    ∧ (s.shm.state ≠ .disarmed → answers (.shockArm tag []) 0x40 .already s.shm)
    ∧ (s.shm.state = .disarmed → answers (.shockDisarm tag []) 0x41 .already s.shm)
    ∧ (s.shm.state = .idle → answers (.shockDisarm tag []) 0x41 .ok { s.shm with state := .disarmed, qualify := 0 })
    ∧ (s.shm.state ≠ .disarmed → s.shm.state ≠ .idle → answers (.shockDisarm tag []) 0x41 .busy s.shm)
    ∧ (s.shm.quiesceKept = false → answers (.quiesceRelease tag []) 0x42 .ok s.shm)
    ∧ (s.shm.quiesceKept = true → s.shm.state.isEvent = true →
        answers (.quiesceRelease tag []) 0x42 .ok { s.shm with quiesceKept := false })
    ∧ (s.shm.quiesceKept = true → s.shm.state.isEvent = false →
        answers (.quiesceRelease tag []) 0x42 .ok { s.shm with quiesceKept := false, quiesceLine := false })

/-- The requests on the log (R160 to R163): LOG_READ answers the record at a position counted from the newest with the three counts, or
NOT_FOUND with them; LOG_CLEAR removes what is not preserved; LOG_CLEAR_ALL removes everything unless the clear lock refuses it LOCKED;
LOG_LOCK sets the lock once.

The companion clock advances by 1 each second, from 4,294,967,295 to 0, its mark kept (R164); TIME_SET sets it, marks it valid and restarts the
phase (R165). The model's choice: the five flags of a record are answered as one set byte (assumption 61), and
its marks as 1 or 0 (assumption 10). -/
def Obligations.LogAndClockRequestsAnswer : Prop :=
  (∀ (tag : Byte) (s : State), LinkOpen s →
     let counts := byte1 s.dl.log.length ++ byte1 (s.dl.log.filter DropRecord.preserved).length ++ byte4 s.dl.nextSequence
     let answers := fun (c : Instr) (code : Byte) (st : Status) (results : List Byte) (d : Dl) =>
       exec c s = .next (finish (answered tag code st results { s with delivered := s.delivered.erase c, dl := d }))
     (∀ (p : Byte) (older newer : List DropRecord) (r : DropRecord), s.dl.log = older ++ r :: newer →
       newer.length = p.toNat → answers (.logRead tag [p]) 0x50 .ok (recordBytes r ++ counts) s.dl)
     ∧ (∀ p : Byte, s.dl.log.length ≤ p.toNat → answers (.logRead tag [p]) 0x50 .notFound counts s.dl)
     ∧ (∀ kept : List DropRecord, kept = s.dl.log.filter DropRecord.preserved →
         answers (.logClear tag []) 0x51 .ok (byte1 (s.dl.log.length - kept.length) ++ byte1 kept.length)
           { s.dl with log := kept })
     ∧ (s.dl.clearLock = true → answers (.logClearAll tag []) 0x52 .locked [] s.dl
         ∧ answers (.logLock tag []) 0x53 .already [] s.dl)
     ∧ (s.dl.clearLock = false → answers (.logClearAll tag []) 0x52 .ok (byte1 s.dl.log.length) { s.dl with log := [] }
         ∧ answers (.logLock tag []) 0x53 .ok [] { s.dl with clearLock := true }))
  ∧ (∀ s : State,
     (∀ e : Nat, s.dl.clockPhase = some e → exec .clockAdvance s = .next (finish { s with
       dl := { s.dl with
         clock := if s.dl.clock = 4294967295 then 0 else (s.dl.clock + 1) % 4294967296,
         clockPhase := some 0 } }))
     ∧ (∀ tag b0 b1 b2 b3 : Byte, LinkOpen s →
         exec (.timeSet tag [b0, b1, b2, b3]) s = .next (finish (answered tag 0x54 .ok [] { s with
           delivered := s.delivered.erase (.timeSet tag [b0, b1, b2, b3]),
           dl := { s.dl with
             clock := b0.toNat + 256 * b1.toNat + 65536 * (b2.toNat + 256 * b3.toNat),
             clockValid := true,
             clockPhase := some 0 } }))))

/-! ### Tables (chapter 9) -/

/-- TABLE_WRITE by the tests of R170 in their order: a table outside 0 to 4 is BAD_VALUE, an index outside the table's range BAD_INDEX, a wrong
entry length BAD_LENGTH, a table apply pending BUSY. An entry of table 0 out of its range is BAD_VALUE, and otherwise it is stored in
staging, P23 at most 16, and answered as stored (R171). An entry of tables 1 to 4 with a field outside its write range (`EntryInRange`) is
BAD_VALUE, and otherwise is stored, answered and reads back from staging as it was written, and nothing else of the tables changes (R76, R108, R152,
R171). The model's choices in those ranges: a yes-or-no byte is 1 or 0 (assumption 10), and action bits above 3 are refused (assumption 22). -/
def Obligations.TableWriteStagesEntry : Prop :=
  ∀ (tag table index : Byte) (entry : List Byte) (s : State), LinkOpen s →
    let c : Instr := .tableWrite tag (table :: index :: entry)
    let received : State := { s with delivered := s.delivered.erase c }
    let refused := fun st : Status => exec c s = .next (finish (answered tag 0x10 st [] received))
    (4 < table.toNat → refused .badValue)
    ∧ (table.toNat ≤ 4 → entryCount table.toNat ≤ index.toNat → refused .badIndex)
    ∧ (table.toNat ≤ 4 → index.toNat < entryCount table.toNat →
      (entry.length ≠ entryLength table.toNat → refused .badLength)
      ∧ (entry.length = entryLength table.toNat →
        (pendingMark s.ts table.toNat = true → refused .busy)
        ∧ (pendingMark s.ts table.toNat = false →
          (∀ (b0 b1 b2 b3 : Byte) (v : Int), table = 0 → entry = [b0, b1, b2, b3] → v = signed32 (le4 b0 b1 b2 b3) →
            (index.toNat ≠ 23 ∨ v ≤ 16 →
              (paramInRange index.toNat v = false → refused .badValue)
              ∧ (paramInRange index.toNat v = true → exec c s = .next (finish (answered tag 0x10 .ok (byte4s
                  ((s.ts.t0.staging.set index.toNat v).getD index.toNat 0))
                  { received with ts := { s.ts with t0 := { s.ts.t0 with staging := s.ts.t0.staging.set index.toNat v } } }))))
            ∧ (index.toNat = 23 → 16 < v → s.ts.t0.staging.length = 48 →
                exec c s = .next (finish (answered tag 0x10 .ok (byte4s 16)
                  { received with ts := { s.ts with t0 := { s.ts.t0 with staging := s.ts.t0.staging.set 23 16 } } }))))
          ∧ (table ≠ 0 → ¬EntryInRange table.toNat index.toNat entry → refused .badValue)
          ∧ (table ≠ 0 → EntryInRange table.toNat index.toNat entry → TablesSound s → ∃ ts : TableStore,
              exec c s = .next (finish (answered tag 0x10 .ok entry { received with ts := ts }))
              ∧ entryBytes ts table.toNat index.toNat true = entry
              ∧ (∀ t i : Nat, t ≤ 4 → entryBytes ts t i false = entryBytes s.ts t i false ∧ pendingMark ts t = pendingMark s.ts t)
              ∧ (∀ t i : Nat, t ≤ 4 → i < entryCount t → (t ≠ table.toNat ∨ i ≠ index.toNat) →
                  entryBytes ts t i true = entryBytes s.ts t i true)))))

/-- TABLE_APPLY (R172 to R176): a table outside 0 to 4 is BAD_VALUE, one apply pending BUSY, and one whose staging fails BAD_TABLE with the
first bad entry's index. A table 0, 3 or 4 that passes is swapped at once with TABLE_APPLIED, table 0 delivered to the eight blocks and table 3
to the CC and the BU, and each pending notice takes its new level from table 4; table 1 waits for the filter step, and table 2 for the event's
close, or is swapped at once outside an event. The order of the deliveries is the model's choice (assumption 55). -/
def Obligations.TableApplySwapsOrWaits : Prop :=
  ∀ (tag table : Byte) (s : State), LinkOpen s →
    let c : Instr := .tableApply tag [table]
    let taken : State := acceptFrame { s with delivered := s.delivered.erase c }
    let answers := fun (st : Status) (results : List Byte) (u : State) => exec c s = .next (finish (respond tag 0x11 st results u))
    (4 < table.toNat → answers .badValue [] taken)
    ∧ (table.toNat ≤ 4 → pendingMark s.ts table.toNat = true → answers .busy [] taken)
    ∧ (table = 0 → s.ts.t0.pending = false →
      (∀ i : Nat, i < s.ts.t0.staging.length → paramInRange i (s.ts.t0.staging.getD i 0) = false →
        (∀ j < i, paramInRange j (s.ts.t0.staging.getD j 0) = true) → answers .badTable (byte1 i) taken)
      ∧ ((∀ i < s.ts.t0.staging.length, paramInRange i (s.ts.t0.staging.getD i 0) = true) →
        ∃ changed : List Nat,
        (∀ i : Nat, i ∈ changed ↔ i < 48 ∧ s.ts.t0.staging.getD i 0 ≠ s.ts.t0.active.getD i 0)
        ∧ answers .ok [] (raise (.tableApplied 0) { taken with
            ts := { s.ts with t0 := ⟨s.ts.t0.staging, s.ts.t0.staging, false⟩ },
            delivered := taken.delivered ++ [.table0SwapDelivery .icu changed, .table0SwapDelivery .ppc changed,
              .table0SwapDelivery .bbc changed, .table0SwapDelivery .cc changed, .table0SwapDelivery .bu changed,
              .table0SwapDelivery .blc changed, .table0SwapDelivery .shm changed, .table0SwapDelivery .lu changed] })))
    ∧ (table = 1 → s.ts.t1.pending = false →
      (s.ts.t1.staging.count = 0 ∨ 16 < s.ts.t1.staging.count → answers .badTable [16] taken)
      ∧ (CurveSound s.ts.t1.staging →
        answers .ok [] { taken with ts := { s.ts with t1 := { s.ts.t1 with pending := true } } })
      ∧ (∀ (before after : List (Nat × Nat)) (p q : Nat × Nat), 1 ≤ s.ts.t1.staging.count → s.ts.t1.staging.count ≤ 16 →
        s.ts.t1.staging.used = before ++ p :: q :: after → (∀ x ∈ before ++ [p, q], x.1 ≤ 131071 ∧ x.2 ≤ 1000) →
        ((before ++ [p]).map Prod.fst).Pairwise (· < ·) → ((before ++ [p]).map Prod.snd).Pairwise (· ≤ ·) →
        (q.1 ≤ p.1 ∨ q.2 < p.2) → answers .badTable (byte1 (before.length + 1)) taken))
    ∧ (table = 2 → s.ts.t2.pending = false →
      (∀ (before after : List ClassEntry) (e : ClassEntry), s.ts.t2.staging = before ++ e :: after →
        (∀ x ∈ before, classSound x = true) → e.valid = true → e.preserve = true → e.log = false →
        answers .badTable (byte1 before.length) taken)
      ∧ ((∀ e ∈ s.ts.t2.staging, classSound e = true) →
        (s.shm.state.isEvent = true →
          answers .ok [] { taken with ts := { s.ts with t2 := { s.ts.t2 with pending := true } } })
        ∧ (s.shm.state.isEvent = false → answers .ok [] (raise (.tableApplied 2) { taken with
            ts := { s.ts with t2 := ⟨s.ts.t2.staging, s.ts.t2.staging, false⟩ } }))))
    ∧ (table = 3 → s.ts.t3.pending = false →
      (∀ (before after : List Profile) (p : Profile), s.ts.t3.staging = before ++ p :: after →
        (∀ x ∈ before, profileSound x = true) → p.valid = true → p.chargeCurrent ≤ p.terminationCurrent →
        answers .badTable (byte1 before.length) taken)
      ∧ ((∀ p ∈ s.ts.t3.staging, profileSound p = true) → answers .ok [] (raise (.tableApplied 3) { taken with
            ts := { s.ts with t3 := ⟨s.ts.t3.staging, s.ts.t3.staging, false⟩ },
            delivered := taken.delivered ++ [.table3SwapDelivery .cc, .table3SwapDelivery .bu] })))
    ∧ (table = 4 → s.ts.t4.pending = false →
      (∀ i : Nat, i < s.ts.t4.staging.length → levelInRange i (s.ts.t4.staging.getD i 0) = false →
        (∀ j < i, levelInRange j (s.ts.t4.staging.getD j 0) = true) → answers .badTable (byte1 i) taken)
      ∧ ((∀ i < s.ts.t4.staging.length, levelInRange i (s.ts.t4.staging.getD i 0) = true) →
        answers .ok [] (raise (.tableApplied 4) { taken with
            ts := { s.ts with t4 := ⟨s.ts.t4.staging, s.ts.t4.staging, false⟩ },
            lu := { taken.lu with
              notices := (s.lu.notices.map fun e =>
                { e with level := s.ts.t4.staging.getD (e.notice.kind - 1) 0 }).filter fun e => e.level != 0 } })))

/-- TABLE_DISCARD makes staging the active copy's content unless the table is apply pending, BUSY; TABLE_READ answers the entry of the copy
named with the apply-pending mark and changes nothing. A table outside 0 to 4, or a copy other than 0 and 1, is BAD_VALUE, and an index
outside the table's range BAD_INDEX (R177, R178). The model's choice: the mark's byte is 1 when set and 0 when clear (assumption 10). -/
def Obligations.TableDiscardAndReadAnswer : Prop :=
  ∀ (tag table index copy : Byte) (s : State), LinkOpen s →
    let discard : Instr := .tableDiscard tag [table]
    let read : Instr := .tableRead tag [table, index, copy]
    let discards := fun (st : Status) (ts : TableStore) =>
      exec discard s = .next (finish (answered tag 0x12 st [] { s with delivered := s.delivered.erase discard, ts := ts }))
    let reads := fun (st : Status) (results : List Byte) =>
      exec read s = .next (finish (answered tag 0x13 st results { s with delivered := s.delivered.erase read }))
    (4 < table.toNat → discards .badValue s.ts)
    ∧ (table.toNat ≤ 4 → pendingMark s.ts table.toNat = true → discards .busy s.ts)
    ∧ (table.toNat ≤ 4 → pendingMark s.ts table.toNat = false → ∃ ts : TableStore, discards .ok ts
        ∧ (table = 0 → ts = { s.ts with t0 := { s.ts.t0 with staging := s.ts.t0.active } })
        ∧ (table = 1 → ts = { s.ts with t1 := { s.ts.t1 with staging := s.ts.t1.active } })
        ∧ (table = 2 → ts = { s.ts with t2 := { s.ts.t2 with staging := s.ts.t2.active } })
        ∧ (table = 3 → ts = { s.ts with t3 := { s.ts.t3 with staging := s.ts.t3.active } })
        ∧ (table = 4 → ts = { s.ts with t4 := { s.ts.t4 with staging := s.ts.t4.active } }))
    ∧ (4 < table.toNat ∨ 1 < copy.toNat → reads .badValue [])
    ∧ (table.toNat ≤ 4 → copy.toNat ≤ 1 → entryCount table.toNat ≤ index.toNat → reads .badIndex [])
    ∧ (table.toNat ≤ 4 → copy.toNat ≤ 1 → index.toNat < entryCount table.toNat →
        reads .ok (entryBytes s.ts table.toNat index.toNat (copy == 1) ++ (if pendingMark s.ts table.toNat then [1] else [0])))

/-- A swap of table 0 reaches its blocks as a comparison with the new values (R30, R57, R62, R81, R102, R116, R117, R139, R174, R189), and a swap of
table 3 the CC, which matches every identity again, and the Budget Unit (R175). The CC's part is stated with the record NONE and the fault mark set,
so that no attempt follows, the BBC's and the BLC's with no timer past its new limit. The model's choices: the CC tells the Budget Unit of each index
that changes (assumption 49), and a swap of table 0 that leaves P42 does nothing at the CC (assumption 41). The
backlight's recomputation takes the lid and the publication as assumptions 45 and 26 say. -/
def Obligations.SwapsReachTheirBlocks : Prop :=
  ∀ (changed : List Nat) (s : State),
    let c := fun block : Block => Instr.table0SwapDelivery block changed
    let rest := fun block : Block => s.delivered.erase (c block)
    let received := fun block : Block => ({ s with delivered := rest block } : State)
    exec (c .icu) s = exec (.filterLengthChange .table0) { s with delivered := .filterLengthChange .table0 :: rest .icu }
    ∧ ((∀ e : Nat, s.ppc.bridgeTimer = some e → e < ms (paramN s 13)) → exec (c .ppc) s = .next (finish (received .ppc)))
    ∧ (∀ e : Nat, s.ppc.bridgeTimer = some e → ms (paramN s 13) ≤ e → exec (c .ppc) s = exec .bridgeTimerExpiry (received .ppc))
    ∧ ((∀ (b : Bay) (e : Nat), (busOf s b).pollTimer = some e → e < ms (paramN s 34)) →
        (∀ (d : DeferredRead) (r : TxResult) (bytes : List Byte) (e : Nat), s.bbc.deferred = some d → d.state = .done r bytes e →
          e < ms (paramN s 33)) →
        exec (c .bbc) s = .next (finish (received .bbc)))
    ∧ (42 ∉ changed → exec (c .cc) s = .next (finish (received .cc)))
    ∧ exec (c .bu) s = exec .budgetRecompute { s with delivered := .budgetRecompute :: rest .bu }
    ∧ (∀ (t : Int) (cap : Nat), s.blc.temperature = some t →
        (∀ r : SensorRecord, r = s.blc.front ∨ r = s.blc.rear → r.failed = true ∨ ∀ e, r.silence = some e → e < ms (paramN s 38)) →
        cap = (if s.blc.tempSilent then paramN s 30
          else if param s 29 ≤ param s 28 ∨ t ≤ param s 28 then 1000
          else if param s 29 ≤ t then paramN s 30
          else 1000 - (1000 - paramN s 30) * (t - param s 28).toNat / (param s 29 - param s 28).toNat) →
        ∃ u : State, exec (c .blc) s = .next (finish u)
          ∧ TargetRecomputed { received .blc with blc := { s.blc with thermalCap := cap } } u)
    ∧ ((∀ e : Nat, s.shm.settleTimer = some e → e < ms (paramN s 8)) → exec (c .shm) s = .next (finish (received .shm)))
    ∧ (∀ e : Nat, s.shm.settleTimer = some e → ms (paramN s 8) ≤ e → exec (c .shm) s = exec .settleTimeout (received .shm))
    ∧ exec (c .lu) s = .next (finish { received .lu with
        lu := { s.lu with
          silenceTimer := if paramN s 32 = 0 ∨ s.lu.silence = true then none
            else match s.lu.silenceTimer with
              | none => some 0
              | some e => some e } })
    ∧ (s.cc.session = .none → s.cc.fault = true →
        let again := fun r : BayRecord => match r.identity with
          | some id => { r with profile := s.ts.t3.active.findIdx? (profileMatches id) }
          | none => r
        exec (.table3SwapDelivery .cc) s = .next (finish { s with
          delivered := s.delivered.erase (.table3SwapDelivery .cc)
            ++ (if (again (bayOf s .A)).profile = (bayOf s .A).profile then [] else [.budgetRecompute])
            ++ (if (again (bayOf s .B)).profile = (bayOf s .B).profile then [] else [.budgetRecompute]),
          ppc := { s.ppc with bays := ⟨again s.ppc.bays.a, again s.ppc.bays.b⟩ } }))
    ∧ exec (.table3SwapDelivery .bu) s =
        exec .budgetRecompute { s with delivered := .budgetRecompute :: s.delivered.erase (.table3SwapDelivery .bu) }

/-! ### System link (chapter 10) -/

/-- Every request of the link (R182 to R185, R189). In the settle interval it is ignored; a valid frame restarts the silence timer and ends silence;
with a reset pending it is discarded; with 8 responses waiting it is discarded and the overrun mark set; otherwise exactly one response with its
tag and code joins the tail of the queue and takes the overrun mark with it. -/
def Obligations.EveryRequestAnsweredOnce : Prop :=
  ∀ (tag code : Byte) (args : List Byte) (i : Instr) (s : State), i = decodeRequest (tag :: code :: args) →
    let received : State := { s with delivered := s.delivered.erase i }
    let heard : Lu := { s.lu with
      receiver := .hunting, silence := false,
      silenceTimer := if paramN s 32 = 0 then none else some 0 }
    (s.settling.isSome → exec i s = .next (finish received))
    ∧ (s.settling = none → s.lu.resetPending = true → exec i s = .next (finish { received with lu := heard }))
    ∧ (s.settling = none → s.lu.resetPending = false → 8 ≤ s.lu.responses.length →
        exec i s = .next (finish { received with lu := { heard with overrun := true } }))
    ∧ (LinkOpen s → ∃ (u : State) (st : Status) (results : List Byte), exec i s = .next (finish u)
        ∧ u.lu.responses = s.lu.responses ++ [⟨tag, code, st, s.lu.overrun, results⟩]
        ∧ u.lu.overrun = false ∧ u.lu.receiver = .hunting ∧ u.lu.silence = false ∧ u.lu.line = s.lu.line
        ∧ u.lu.silenceTimer = heard.silenceTimer)

/-- A request whose argument length differs from its code's is answered BAD_LENGTH, one with a code outside the table UNKNOWN_REQUEST, and neither has
another effect; TABLE_WRITE needs 2 argument bytes (R183, R190). -/
def Obligations.WrongLengthOrCodeRefused : Prop :=
  ∀ (tag code : Byte) (args : List Byte) (s : State), LinkOpen s →
    let i := decodeRequest (tag :: code :: args)
    let lengths : List (Byte × Nat) :=
      [(0x01, 0), (0x02, 1), (0x03, 0), (0x11, 1), (0x12, 1), (0x13, 3), (0x20, 3), (0x21, 4), (0x22, 1), (0x23, 1), (0x30, 2),
       (0x31, 0), (0x32, 2), (0x40, 0), (0x41, 0), (0x42, 0), (0x50, 1), (0x51, 0), (0x52, 0), (0x53, 0), (0x54, 4), (0x60, 1),
       (0x61, 4), (0x62, 4)]
    let refused := fun st : Status =>
      exec i s = .next (finish (answered tag code st [] { s with delivered := s.delivered.erase i }))
    (∀ x ∈ lengths, code = x.1 → args.length ≠ x.2 → refused .badLength)
    ∧ (code = 0x10 → args.length < 2 → refused .badLength)
    ∧ (code ≠ 0x10 → (∀ x ∈ lengths, code ≠ x.1) → i = .unknownRequest tag code args ∧ refused .unknownRequest)

/-- The Link Unit's own requests (R185, R190): IDENTIFY answers vendor 0051h, part 0138h and revision 1; STATE_READ answers a part from 0 to 7, which
fits the 60-byte payload, and refuses any other BAD_VALUE; COMPANION_RESET is OK and sets the reset-pending mark. The model's choices: the revision
takes one byte (assumption 23), and the marks of part 7 are 1 when set (assumption 10).

The bytes of a discarded candidate are searched again (R182): with no sync byte among them the receiver hunts; a whole REQUEST frame of at most 60
payload bytes is taken as its request, and the search runs on after it; a sync byte that ends the bytes begins the next candidate; a length byte above
60 makes no frame. That the command carries those bytes, and that the frames among them are taken within its step, are the model's choices (assumption
28). A payload of fewer than 2 bytes restarts the silence timer and is not answered (R183). -/
def Obligations.LinkAnswersAndSearchesDiscardedBytes : Prop :=
  (∀ (tag : Byte) (s : State), LinkOpen s →
    exec (.identify tag []) s = .next (finish (answered tag 0x01 .ok [0x51, 0x00, 0x38, 0x01, 0x01]
        { s with delivered := s.delivered.erase (.identify tag []) }))
    ∧ (∀ p : Byte, 7 < p.toNat → exec (.stateRead tag [p]) s = .next (finish (answered tag 0x02 .badValue []
        { s with delivered := s.delivered.erase (.stateRead tag [p]) })))
    ∧ (∀ p : Byte, p.toNat ≤ 7 → ∃ bytes : List Byte, statePart (acceptFrame s) p.toNat = some bytes
        ∧ (StackSound s → bytes.length + 4 ≤ 60)
        ∧ exec (.stateRead tag [p]) s = .next (finish (answered tag 0x02 .ok bytes
            { s with delivered := s.delivered.erase (.stateRead tag [p]) })))
    ∧ exec (.stateRead tag [7]) s = .next (finish (answered tag 0x02 .ok
        (byte1 s.dl.log.length ++ byte1 (s.dl.log.countP DropRecord.preserved) ++ byte4 s.dl.nextSequence
          ++ (if s.dl.clearLock then [1] else [0]) ++ byte4 s.dl.clock ++ (if s.dl.clockValid then [1] else [0])
          ++ (match s.dl.openReference with
              | some n => 1 :: byte4 n
              | none => [0, 0, 0, 0, 0]))
        { s with delivered := s.delivered.erase (.stateRead tag [7]) }))
    ∧ exec (.companionReset tag []) s = .next (finish (answered tag 0x03 .ok [] { s with
        delivered := s.delivered.erase (.companionReset tag []),
        lu := { s.lu with resetPending := true } })))
  ∧ ∀ s : State, s.settling = none →
    let received := fun candidate : List Byte =>
      ({ s with delivered := s.delivered.erase (.frameDiscarded candidate) } : State)
    let hunts := fun (candidate : List Byte) (r : Receiver) =>
      exec (.frameDiscarded candidate) s = .next (finish { received candidate with lu := { s.lu with receiver := r } })
    (∀ candidate : List Byte, (0xA5 : Byte) ∉ candidate → hunts candidate .hunting)
    ∧ (∀ (before payload rest : List Byte) (t : State), (0xA5 : Byte) ∉ before → payload.length ≤ 60 →
        decodeRequest payload ∉ s.delivered → .frameDiscarded rest ∉ t.delivered →
        exec (decodeRequest payload) (received (before ++ frameBytes 0x01 payload ++ rest)) = .next t →
        exec (.frameDiscarded (before ++ frameBytes 0x01 payload ++ rest)) s = exec (.frameDiscarded rest) t)
    ∧ (∀ before : List Byte, (0xA5 : Byte) ∉ before → hunts (before ++ [0xA5]) (.assembling []))
    ∧ (∀ (before after : List Byte) (kind len : Byte), (0xA5 : Byte) ∉ before → (0xA5 : Byte) ∉ kind :: len :: after →
        60 < len.toNat → hunts (before ++ 0xA5 :: kind :: len :: after) .hunting)
    ∧ (∀ payload : List Byte, payload.length < 2 → exec (.shortPayloadRequest payload) s = .next (finish { s with
        delivered := s.delivered.erase (.shortPayloadRequest payload),
        lu := { s.lu with
          receiver := .hunting, silence := false,
          silenceTimer := if paramN s 32 = 0 then none else some 0 } }))

/-- The line falls free when a frame's last byte has left, and after the response of an accepted COMPANION_RESET the management reset is delivered (R185,
R187). The silence timer's expiry empties the traffic queue and the override stack, stops the timer, and silence stands; an empty stack recomputes
nothing (R115, R189). The recomputation has the model's choices of the lid (assumption 45) and of the first publication (assumption 26). -/
def Obligations.LineFreeAndLinkSilence : Prop :=
  ∀ s : State,
    (∀ f : LineFrame, s.lu.line = some f →
      exec .upstreamLineFree s = .next (finish { s with
        lu := { s.lu with line := none },
        delivered := s.delivered ++ (if f.resetResponse = true ∧ s.lu.resetPending = true then [.managementReset] else []) }))
    ∧ (∀ e : Nat, s.lu.silenceTimer = some e →
      let quiet : State := { s with lu := { s.lu with traffic := [], silence := true, silenceTimer := none } }
      (s.blc.stack = [] → exec .linkSilenceTimeout s = .next (finish quiet))
      ∧ (s.blc.stack ≠ [] → ∃ u : State, exec .linkSilenceTimeout s = .next (finish u)
        ∧ TargetRecomputed { quiet with blc := { s.blc with stack := [] } } u))

/-! ### Resets -/

/-- Power-on reset (R2, R10, R12, R15, R25, R39, R42, R66, R68, R79, R90, R126, R150, R168, R179, R182 to R189): the state is that of `State.reset`,
whose registers are listed. The model's choices: the pins' raw levels and the model's waiting commands are kept (assumption 7), and no frame is on the
line, no refusal stands and nothing is marked as handed over (assumption 40). The settle interval's end starts the timers that run from it, an input's
where its raw level is asserted, and changes nothing else; outside the interval it has no effect (assumption 6).

A management reset (R9, R11, R45, R67, R79, R90, R127, R151, R168, R180, R185): the ICU, the PPC, the CC, the SHM and the DL are left; the link's
queues, mark and silence are cleared and its counters kept; every staging copy is the active one and nothing is apply pending; the bus is freed,
its slot and queue emptied, its charger lists kept and each poll timer started again in the polled states; the offset and the stack are cleared; and
the pair is handed to the Backlight Controller again. -/
def Obligations.ResetsLeaveListedState : Prop :=
  (∀ s : State, ∃ t : State, exec .powerOnReset s = .next t
    ∧ KeepsAllBut [.icu, .freeIndex, .pending] State.reset t ∧ t.pending = s.pending ∧ t.freeIndex = s.freeIndex
    ∧ t.icu.hold = false ∧ t.icu.bayLength = 20 ∧ t.icu.housingLength = 50
    ∧ (∀ i : Input, inputOf t.icu i = ⟨(inputOf s.icu i).raw, false, none⟩)
    ∧ t.settling = some 0
    ∧ t.ppc.railOn = false ∧ t.ppc.offReason = .powerOn ∧ anyFeeding t = false ∧ t.ppc.transfer = none ∧ t.ppc.waiting = none
    ∧ t.ppc.forced = none ∧ t.ppc.dc = .absent ∧ reserveCharge t = false
    ∧ (∀ b : Bay, (bayOf t b).state = .empty ∧ (bayOf t b).state.locked = false ∧ (bayOf t b).identity = none
        ∧ (bayOf t b).charge = false ∧ (bayOf t b).pendingRelease = false ∧ busOf t b = ⟨none, none, false, 0⟩)
    ∧ t.bbc.inFlight = none ∧ t.bbc.lists = [] ∧ t.bbc.deferred = none ∧ t.bbc.posted = []
    ∧ t.cc.memory = [] ∧ t.cc.session = .none ∧ t.cc.failedLists = 0 ∧ t.cc.fault = false
    ∧ t.bu.case = .railOff ∧ t.bu.budget = 0 ∧ t.bu.powerCap = 0 ∧ t.bu.swapFlag = false ∧ t.bu.capped = false
    ∧ t.blc.filter = 0 ∧ t.blc.curveLevel = 60 ∧ t.blc.held = 60 ∧ t.blc.offset = 0 ∧ t.blc.stack = [] ∧ t.blc.target = 0
    ∧ t.blc.output = 0
    ∧ t.shm.state = .idle ∧ t.shm.qualify = 0 ∧ t.shm.outcome = none ∧ t.shm.snapshot = none ∧ t.shm.quiesceLine = false
    ∧ t.shm.quiesceKept = false ∧ t.shm.decimation = 0
    ∧ t.dl = ⟨[], 1, false, 0, false, none, none⟩
    ∧ t.ts.t0 = ⟨defaultParams, defaultParams, false⟩ ∧ t.ts.t1 = ⟨defaultCurve, defaultCurve, false⟩
    ∧ t.ts.t2 = ⟨defaultClasses, defaultClasses, false⟩ ∧ t.ts.t3 = ⟨defaultProfiles, defaultProfiles, false⟩
    ∧ t.ts.t4 = ⟨defaultLevels, defaultLevels, false⟩
    ∧ t.lu = ⟨.hunting, [], false, [], [], 0, 0, 0, none, none, false, false⟩)
  ∧ (∀ s : State, s.settling = none → exec .supplySettleEnd s = .next (finish s))
  ∧ (∀ s : State, s.settling.isSome → ∃ u : State, exec .supplySettleEnd s = .next (finish u)
     ∧ KeepsAllBut [.settling, .icu, .blc, .shm, .dl, .lu] s u ∧ u.settling = none
     ∧ u.icu.hold = s.icu.hold ∧ u.icu.bayLength = s.icu.bayLength ∧ u.icu.housingLength = s.icu.housingLength
     ∧ (∀ i : Input, inputOf u.icu i =
         { inputOf s.icu i with timer := if (inputOf s.icu i).raw then some 0 else none })
     ∧ u.blc = { s.blc with
         front := { s.blc.front with silence := some 0 },
         rear := { s.blc.rear with silence := some 0 },
         tempSilence := some 0, rampPhase := some 0 }
     ∧ u.shm = { s.shm with silence := some 0 } ∧ u.dl = { s.dl with clockPhase := some 0 }
     ∧ u.lu = { s.lu with
         receiver := .hunting,
         silenceTimer := if paramN s 32 = 0 then none else some 0 })
  ∧ ∀ s : State, ∃ u : State, exec .managementReset s = .next (finish u)
    ∧ KeepsAllBut [.bbc, .bu, .blc, .ts, .lu, .delivered, .freeIndex] s u
    ∧ u.lu = { s.lu with
        responses := [], traffic := [], overrun := false, silence := false, resetPending := false,
        silenceTimer := if paramN s 32 = 0 then none else some 0,
        notices := u.lu.notices }
    ∧ (∀ n ∈ u.lu.notices, n.notice.kind = 25)
    ∧ u.ts = ⟨⟨s.ts.t0.active, s.ts.t0.active, false⟩, ⟨s.ts.t1.active, s.ts.t1.active, false⟩,
        ⟨s.ts.t2.active, s.ts.t2.active, false⟩, ⟨s.ts.t3.active, s.ts.t3.active, false⟩,
        ⟨s.ts.t4.active, s.ts.t4.active, false⟩⟩
    ∧ u.bbc.inFlight = none ∧ u.bbc.deferred = none ∧ u.bbc.posted = []
    ∧ u.bbc.lists = s.bbc.lists
    ∧ (∀ b : Bay, busOf u b = { busOf s b with
        pollTimer := if (bayOf s b).state.polled then some 0 else none,
        pollDue := false })
    ∧ u.blc.stack = [] ∧ u.blc.offset = 0 ∧ u.blc.held = s.blc.held ∧ u.blc.filter = s.blc.filter
    ∧ u.blc.publication = s.blc.publication
    ∧ u.bu.publishedCap = u.bu.powerCap ∧ u.bu.publishedSwap = u.bu.swapFlag
    ∧ Instr.blcPublication u.bu.powerCap u.bu.swapFlag ∈ u.delivered

/-! ### The encoding of requests -/

/-- A well-formed request and its payload determine each other (section 10.7): decoding what a request encodes to gives the request back, and the
payload of a decoded request is the payload it was read from. -/
def Obligations.RequestsRoundTrip : Prop :=
  (∀ (i : Instr) (payload : List Byte), wellFormed i = true → encodeRequest i = some payload → decodeRequest payload = i)
  ∧ ∀ payload : List Byte, encodeRequest (decodeRequest payload) = some payload
      ∧ (payload.length ≤ 60 → wellFormed (decodeRequest payload) = true)

/-! ### What every step keeps -/

/-- Every step keeps the drop log within its limits and in the order of its sequence numbers (R155, R158). -/
def Obligations.StepsKeepLogSound : Prop := ∀ s t : State, LogSound s → step s = .next t → LogSound t

/-- Every step keeps the bounded collections within their bounds: 8 responses, 16 traffic frames, one pending notice per kind, 4 posted writes and 4
overrides (R63, R113, R184, R186, R188). -/
def Obligations.StepsKeepQueuesBounded : Prop :=
  ∀ s t : State, step s = .next t →
    (QueuesSound s → QueuesSound t) ∧ (NoticesSound s → NoticesSound t) ∧ (PostedSound s → PostedSound t)
      ∧ (StackSound s → StackSound t)

/-- Every step keeps the quiesce line asserted through an event and otherwise following its kept mark, and an event with its snapshot
(R132, R140, R143). -/
def Obligations.StepsKeepQuiesceSound : Prop := ∀ s t : State, QuiesceSound s → step s = .next t → QuiesceSound t

/-- Every step keeps a blanked screen dark (R119, R122): no step lifts the target or the output while the rail is OFF or the lid closed by the copies
that the backlight holds. Those copies follow the Power Path Controller's rail and the filtered LID when the backlight takes them, as the model has it
(assumptions 2 and 45). -/
def Obligations.StepsKeepBlankedDark : Prop := ∀ s t : State, BlankedDark s → step s = .next t → BlankedDark t

/-- Every step keeps the pack memory within 8 entries, one per serial, and holding the pack of every bay with an identity (R68 to R70). -/
def Obligations.StepsKeepMemorySound : Prop := ∀ s t : State, MemorySound s → step s = .next t → MemorySound t

/-- Every step keeps every parameter and level in its range and the active tables valid (R169 to R173). -/
def Obligations.StepsKeepTablesSound : Prop := ∀ s t : State, TablesSound s → step s = .next t → TablesSound t

/-- Every step keeps the switches in agreement with the bays' states and the transfer: no switch stands closed for a bay that does not feed or charge, at
most one source feeds outside a transfer, and none does while a bridge holds the load or the rail is OFF (R13, R17, R25, R27, R28, R31). That a transfer
never has its target as its source is the model's choice (assumption 15). -/
def Obligations.StepsKeepPathSound : Prop := ∀ s t : State, PathSound s → step s = .next t → PathSound t

/-- The invariants hold after power-on reset. -/
def Obligations.InvariantsHoldAtReset : Prop :=
  LogSound State.reset ∧ QueuesSound State.reset ∧ NoticesSound State.reset ∧ PostedSound State.reset ∧ StackSound State.reset
    ∧ QuiesceSound State.reset ∧ BlankedDark State.reset ∧ MemorySound State.reset ∧ TablesSound State.reset
    ∧ PathSound State.reset

end Statements
end

