-- ==== Sys2Proof/Laws/State.lean ====
section
/-! SUPPORT. One lemma per field of `State` per update, each true by unfolding, so that no later proof unfolds a record update. -/

namespace Sys2Proof.Machine

/-! ### `deliver` -/

@[simp] theorem deliver_settling (e : Instr) (s : State) : (deliver e s).settling = s.settling := rfl
@[simp] theorem deliver_icu (e : Instr) (s : State) : (deliver e s).icu = s.icu := rfl
@[simp] theorem deliver_ppc (e : Instr) (s : State) : (deliver e s).ppc = s.ppc := rfl
@[simp] theorem deliver_bbc (e : Instr) (s : State) : (deliver e s).bbc = s.bbc := rfl
@[simp] theorem deliver_cc (e : Instr) (s : State) : (deliver e s).cc = s.cc := rfl
@[simp] theorem deliver_bu (e : Instr) (s : State) : (deliver e s).bu = s.bu := rfl
@[simp] theorem deliver_blc (e : Instr) (s : State) : (deliver e s).blc = s.blc := rfl
@[simp] theorem deliver_shm (e : Instr) (s : State) : (deliver e s).shm = s.shm := rfl
@[simp] theorem deliver_dl (e : Instr) (s : State) : (deliver e s).dl = s.dl := rfl
@[simp] theorem deliver_ts (e : Instr) (s : State) : (deliver e s).ts = s.ts := rfl
@[simp] theorem deliver_lu (e : Instr) (s : State) : (deliver e s).lu = s.lu := rfl
@[simp] theorem deliver_delivered (e : Instr) (s : State) : (deliver e s).delivered = s.delivered ++ [e] := rfl
@[simp] theorem deliver_freeIndex (e : Instr) (s : State) : (deliver e s).freeIndex = s.freeIndex := rfl
@[simp] theorem deliver_pending (e : Instr) (s : State) : (deliver e s).pending = s.pending := rfl

/-! ### `take` -/

@[simp] theorem take_settling (e : Instr) (s : State) : (take e s).settling = s.settling := rfl
@[simp] theorem take_icu (e : Instr) (s : State) : (take e s).icu = s.icu := rfl
@[simp] theorem take_ppc (e : Instr) (s : State) : (take e s).ppc = s.ppc := rfl
@[simp] theorem take_bbc (e : Instr) (s : State) : (take e s).bbc = s.bbc := rfl
@[simp] theorem take_cc (e : Instr) (s : State) : (take e s).cc = s.cc := rfl
@[simp] theorem take_bu (e : Instr) (s : State) : (take e s).bu = s.bu := rfl
@[simp] theorem take_blc (e : Instr) (s : State) : (take e s).blc = s.blc := rfl
@[simp] theorem take_shm (e : Instr) (s : State) : (take e s).shm = s.shm := rfl
@[simp] theorem take_dl (e : Instr) (s : State) : (take e s).dl = s.dl := rfl
@[simp] theorem take_ts (e : Instr) (s : State) : (take e s).ts = s.ts := rfl
@[simp] theorem take_lu (e : Instr) (s : State) : (take e s).lu = s.lu := rfl
@[simp] theorem take_delivered (e : Instr) (s : State) : (take e s).delivered = s.delivered.erase e := rfl
@[simp] theorem take_freeIndex (e : Instr) (s : State) : (take e s).freeIndex = s.freeIndex := rfl
@[simp] theorem take_pending (e : Instr) (s : State) : (take e s).pending = s.pending := rfl

/-! ### `deliverAll` -/

@[simp] theorem deliverAll_settling (es : List Instr) (s : State) : (deliverAll es s).settling = s.settling := rfl
@[simp] theorem deliverAll_icu (es : List Instr) (s : State) : (deliverAll es s).icu = s.icu := rfl
@[simp] theorem deliverAll_ppc (es : List Instr) (s : State) : (deliverAll es s).ppc = s.ppc := rfl
@[simp] theorem deliverAll_bbc (es : List Instr) (s : State) : (deliverAll es s).bbc = s.bbc := rfl
@[simp] theorem deliverAll_cc (es : List Instr) (s : State) : (deliverAll es s).cc = s.cc := rfl
@[simp] theorem deliverAll_bu (es : List Instr) (s : State) : (deliverAll es s).bu = s.bu := rfl
@[simp] theorem deliverAll_blc (es : List Instr) (s : State) : (deliverAll es s).blc = s.blc := rfl
@[simp] theorem deliverAll_shm (es : List Instr) (s : State) : (deliverAll es s).shm = s.shm := rfl
@[simp] theorem deliverAll_dl (es : List Instr) (s : State) : (deliverAll es s).dl = s.dl := rfl
@[simp] theorem deliverAll_ts (es : List Instr) (s : State) : (deliverAll es s).ts = s.ts := rfl
@[simp] theorem deliverAll_lu (es : List Instr) (s : State) : (deliverAll es s).lu = s.lu := rfl
@[simp] theorem deliverAll_delivered (es : List Instr) (s : State) : (deliverAll es s).delivered = s.delivered ++ es := rfl
@[simp] theorem deliverAll_freeIndex (es : List Instr) (s : State) : (deliverAll es s).freeIndex = s.freeIndex := rfl
@[simp] theorem deliverAll_pending (es : List Instr) (s : State) : (deliverAll es s).pending = s.pending := rfl

/-! ### `tellBudget` -/

@[simp] theorem tellBudget_settling (s : State) : (tellBudget s).settling = s.settling := rfl
@[simp] theorem tellBudget_icu (s : State) : (tellBudget s).icu = s.icu := rfl
@[simp] theorem tellBudget_ppc (s : State) : (tellBudget s).ppc = s.ppc := rfl
@[simp] theorem tellBudget_bbc (s : State) : (tellBudget s).bbc = s.bbc := rfl
@[simp] theorem tellBudget_cc (s : State) : (tellBudget s).cc = s.cc := rfl
@[simp] theorem tellBudget_bu (s : State) : (tellBudget s).bu = s.bu := rfl
@[simp] theorem tellBudget_blc (s : State) : (tellBudget s).blc = s.blc := rfl
@[simp] theorem tellBudget_shm (s : State) : (tellBudget s).shm = s.shm := rfl
@[simp] theorem tellBudget_dl (s : State) : (tellBudget s).dl = s.dl := rfl
@[simp] theorem tellBudget_ts (s : State) : (tellBudget s).ts = s.ts := rfl
@[simp] theorem tellBudget_lu (s : State) : (tellBudget s).lu = s.lu := rfl
@[simp] theorem tellBudget_delivered (s : State) : (tellBudget s).delivered = s.delivered ++ [.budgetRecompute] := rfl
@[simp] theorem tellBudget_freeIndex (s : State) : (tellBudget s).freeIndex = s.freeIndex := rfl
@[simp] theorem tellBudget_pending (s : State) : (tellBudget s).pending = s.pending := rfl

/-! ### `updIcu` -/

@[simp] theorem updIcu_settling (f : Icu → Icu) (s : State) : (updIcu f s).settling = s.settling := rfl
@[simp] theorem updIcu_icu (f : Icu → Icu) (s : State) : (updIcu f s).icu = f s.icu := rfl
@[simp] theorem updIcu_ppc (f : Icu → Icu) (s : State) : (updIcu f s).ppc = s.ppc := rfl
@[simp] theorem updIcu_bbc (f : Icu → Icu) (s : State) : (updIcu f s).bbc = s.bbc := rfl
@[simp] theorem updIcu_cc (f : Icu → Icu) (s : State) : (updIcu f s).cc = s.cc := rfl
@[simp] theorem updIcu_bu (f : Icu → Icu) (s : State) : (updIcu f s).bu = s.bu := rfl
@[simp] theorem updIcu_blc (f : Icu → Icu) (s : State) : (updIcu f s).blc = s.blc := rfl
@[simp] theorem updIcu_shm (f : Icu → Icu) (s : State) : (updIcu f s).shm = s.shm := rfl
@[simp] theorem updIcu_dl (f : Icu → Icu) (s : State) : (updIcu f s).dl = s.dl := rfl
@[simp] theorem updIcu_ts (f : Icu → Icu) (s : State) : (updIcu f s).ts = s.ts := rfl
@[simp] theorem updIcu_lu (f : Icu → Icu) (s : State) : (updIcu f s).lu = s.lu := rfl
@[simp] theorem updIcu_delivered (f : Icu → Icu) (s : State) : (updIcu f s).delivered = s.delivered := rfl
@[simp] theorem updIcu_freeIndex (f : Icu → Icu) (s : State) : (updIcu f s).freeIndex = s.freeIndex := rfl
@[simp] theorem updIcu_pending (f : Icu → Icu) (s : State) : (updIcu f s).pending = s.pending := rfl

/-! ### `updPpc` -/

@[simp] theorem updPpc_settling (f : Ppc → Ppc) (s : State) : (updPpc f s).settling = s.settling := rfl
@[simp] theorem updPpc_icu (f : Ppc → Ppc) (s : State) : (updPpc f s).icu = s.icu := rfl
@[simp] theorem updPpc_ppc (f : Ppc → Ppc) (s : State) : (updPpc f s).ppc = f s.ppc := rfl
@[simp] theorem updPpc_bbc (f : Ppc → Ppc) (s : State) : (updPpc f s).bbc = s.bbc := rfl
@[simp] theorem updPpc_cc (f : Ppc → Ppc) (s : State) : (updPpc f s).cc = s.cc := rfl
@[simp] theorem updPpc_bu (f : Ppc → Ppc) (s : State) : (updPpc f s).bu = s.bu := rfl
@[simp] theorem updPpc_blc (f : Ppc → Ppc) (s : State) : (updPpc f s).blc = s.blc := rfl
@[simp] theorem updPpc_shm (f : Ppc → Ppc) (s : State) : (updPpc f s).shm = s.shm := rfl
@[simp] theorem updPpc_dl (f : Ppc → Ppc) (s : State) : (updPpc f s).dl = s.dl := rfl
@[simp] theorem updPpc_ts (f : Ppc → Ppc) (s : State) : (updPpc f s).ts = s.ts := rfl
@[simp] theorem updPpc_lu (f : Ppc → Ppc) (s : State) : (updPpc f s).lu = s.lu := rfl
@[simp] theorem updPpc_delivered (f : Ppc → Ppc) (s : State) : (updPpc f s).delivered = s.delivered := rfl
@[simp] theorem updPpc_freeIndex (f : Ppc → Ppc) (s : State) : (updPpc f s).freeIndex = s.freeIndex := rfl
@[simp] theorem updPpc_pending (f : Ppc → Ppc) (s : State) : (updPpc f s).pending = s.pending := rfl

/-! ### `updBbc` -/

@[simp] theorem updBbc_settling (f : Bbc → Bbc) (s : State) : (updBbc f s).settling = s.settling := rfl
@[simp] theorem updBbc_icu (f : Bbc → Bbc) (s : State) : (updBbc f s).icu = s.icu := rfl
@[simp] theorem updBbc_ppc (f : Bbc → Bbc) (s : State) : (updBbc f s).ppc = s.ppc := rfl
@[simp] theorem updBbc_bbc (f : Bbc → Bbc) (s : State) : (updBbc f s).bbc = f s.bbc := rfl
@[simp] theorem updBbc_cc (f : Bbc → Bbc) (s : State) : (updBbc f s).cc = s.cc := rfl
@[simp] theorem updBbc_bu (f : Bbc → Bbc) (s : State) : (updBbc f s).bu = s.bu := rfl
@[simp] theorem updBbc_blc (f : Bbc → Bbc) (s : State) : (updBbc f s).blc = s.blc := rfl
@[simp] theorem updBbc_shm (f : Bbc → Bbc) (s : State) : (updBbc f s).shm = s.shm := rfl
@[simp] theorem updBbc_dl (f : Bbc → Bbc) (s : State) : (updBbc f s).dl = s.dl := rfl
@[simp] theorem updBbc_ts (f : Bbc → Bbc) (s : State) : (updBbc f s).ts = s.ts := rfl
@[simp] theorem updBbc_lu (f : Bbc → Bbc) (s : State) : (updBbc f s).lu = s.lu := rfl
@[simp] theorem updBbc_delivered (f : Bbc → Bbc) (s : State) : (updBbc f s).delivered = s.delivered := rfl
@[simp] theorem updBbc_freeIndex (f : Bbc → Bbc) (s : State) : (updBbc f s).freeIndex = s.freeIndex := rfl
@[simp] theorem updBbc_pending (f : Bbc → Bbc) (s : State) : (updBbc f s).pending = s.pending := rfl

/-! ### `updBu` -/

@[simp] theorem updBu_settling (f : Bu → Bu) (s : State) : (updBu f s).settling = s.settling := rfl
@[simp] theorem updBu_icu (f : Bu → Bu) (s : State) : (updBu f s).icu = s.icu := rfl
@[simp] theorem updBu_ppc (f : Bu → Bu) (s : State) : (updBu f s).ppc = s.ppc := rfl
@[simp] theorem updBu_bbc (f : Bu → Bu) (s : State) : (updBu f s).bbc = s.bbc := rfl
@[simp] theorem updBu_cc (f : Bu → Bu) (s : State) : (updBu f s).cc = s.cc := rfl
@[simp] theorem updBu_bu (f : Bu → Bu) (s : State) : (updBu f s).bu = f s.bu := rfl
@[simp] theorem updBu_blc (f : Bu → Bu) (s : State) : (updBu f s).blc = s.blc := rfl
@[simp] theorem updBu_shm (f : Bu → Bu) (s : State) : (updBu f s).shm = s.shm := rfl
@[simp] theorem updBu_dl (f : Bu → Bu) (s : State) : (updBu f s).dl = s.dl := rfl
@[simp] theorem updBu_ts (f : Bu → Bu) (s : State) : (updBu f s).ts = s.ts := rfl
@[simp] theorem updBu_lu (f : Bu → Bu) (s : State) : (updBu f s).lu = s.lu := rfl
@[simp] theorem updBu_delivered (f : Bu → Bu) (s : State) : (updBu f s).delivered = s.delivered := rfl
@[simp] theorem updBu_freeIndex (f : Bu → Bu) (s : State) : (updBu f s).freeIndex = s.freeIndex := rfl
@[simp] theorem updBu_pending (f : Bu → Bu) (s : State) : (updBu f s).pending = s.pending := rfl

/-! ### `updBlc` -/

@[simp] theorem updBlc_settling (f : Blc → Blc) (s : State) : (updBlc f s).settling = s.settling := rfl
@[simp] theorem updBlc_icu (f : Blc → Blc) (s : State) : (updBlc f s).icu = s.icu := rfl
@[simp] theorem updBlc_ppc (f : Blc → Blc) (s : State) : (updBlc f s).ppc = s.ppc := rfl
@[simp] theorem updBlc_bbc (f : Blc → Blc) (s : State) : (updBlc f s).bbc = s.bbc := rfl
@[simp] theorem updBlc_cc (f : Blc → Blc) (s : State) : (updBlc f s).cc = s.cc := rfl
@[simp] theorem updBlc_bu (f : Blc → Blc) (s : State) : (updBlc f s).bu = s.bu := rfl
@[simp] theorem updBlc_blc (f : Blc → Blc) (s : State) : (updBlc f s).blc = f s.blc := rfl
@[simp] theorem updBlc_shm (f : Blc → Blc) (s : State) : (updBlc f s).shm = s.shm := rfl
@[simp] theorem updBlc_dl (f : Blc → Blc) (s : State) : (updBlc f s).dl = s.dl := rfl
@[simp] theorem updBlc_ts (f : Blc → Blc) (s : State) : (updBlc f s).ts = s.ts := rfl
@[simp] theorem updBlc_lu (f : Blc → Blc) (s : State) : (updBlc f s).lu = s.lu := rfl
@[simp] theorem updBlc_delivered (f : Blc → Blc) (s : State) : (updBlc f s).delivered = s.delivered := rfl
@[simp] theorem updBlc_freeIndex (f : Blc → Blc) (s : State) : (updBlc f s).freeIndex = s.freeIndex := rfl
@[simp] theorem updBlc_pending (f : Blc → Blc) (s : State) : (updBlc f s).pending = s.pending := rfl

/-! ### `updShm` -/

@[simp] theorem updShm_settling (f : Shm → Shm) (s : State) : (updShm f s).settling = s.settling := rfl
@[simp] theorem updShm_icu (f : Shm → Shm) (s : State) : (updShm f s).icu = s.icu := rfl
@[simp] theorem updShm_ppc (f : Shm → Shm) (s : State) : (updShm f s).ppc = s.ppc := rfl
@[simp] theorem updShm_bbc (f : Shm → Shm) (s : State) : (updShm f s).bbc = s.bbc := rfl
@[simp] theorem updShm_cc (f : Shm → Shm) (s : State) : (updShm f s).cc = s.cc := rfl
@[simp] theorem updShm_bu (f : Shm → Shm) (s : State) : (updShm f s).bu = s.bu := rfl
@[simp] theorem updShm_blc (f : Shm → Shm) (s : State) : (updShm f s).blc = s.blc := rfl
@[simp] theorem updShm_shm (f : Shm → Shm) (s : State) : (updShm f s).shm = f s.shm := rfl
@[simp] theorem updShm_dl (f : Shm → Shm) (s : State) : (updShm f s).dl = s.dl := rfl
@[simp] theorem updShm_ts (f : Shm → Shm) (s : State) : (updShm f s).ts = s.ts := rfl
@[simp] theorem updShm_lu (f : Shm → Shm) (s : State) : (updShm f s).lu = s.lu := rfl
@[simp] theorem updShm_delivered (f : Shm → Shm) (s : State) : (updShm f s).delivered = s.delivered := rfl
@[simp] theorem updShm_freeIndex (f : Shm → Shm) (s : State) : (updShm f s).freeIndex = s.freeIndex := rfl
@[simp] theorem updShm_pending (f : Shm → Shm) (s : State) : (updShm f s).pending = s.pending := rfl

/-! ### `updDl` -/

@[simp] theorem updDl_settling (f : Dl → Dl) (s : State) : (updDl f s).settling = s.settling := rfl
@[simp] theorem updDl_icu (f : Dl → Dl) (s : State) : (updDl f s).icu = s.icu := rfl
@[simp] theorem updDl_ppc (f : Dl → Dl) (s : State) : (updDl f s).ppc = s.ppc := rfl
@[simp] theorem updDl_bbc (f : Dl → Dl) (s : State) : (updDl f s).bbc = s.bbc := rfl
@[simp] theorem updDl_cc (f : Dl → Dl) (s : State) : (updDl f s).cc = s.cc := rfl
@[simp] theorem updDl_bu (f : Dl → Dl) (s : State) : (updDl f s).bu = s.bu := rfl
@[simp] theorem updDl_blc (f : Dl → Dl) (s : State) : (updDl f s).blc = s.blc := rfl
@[simp] theorem updDl_shm (f : Dl → Dl) (s : State) : (updDl f s).shm = s.shm := rfl
@[simp] theorem updDl_dl (f : Dl → Dl) (s : State) : (updDl f s).dl = f s.dl := rfl
@[simp] theorem updDl_ts (f : Dl → Dl) (s : State) : (updDl f s).ts = s.ts := rfl
@[simp] theorem updDl_lu (f : Dl → Dl) (s : State) : (updDl f s).lu = s.lu := rfl
@[simp] theorem updDl_delivered (f : Dl → Dl) (s : State) : (updDl f s).delivered = s.delivered := rfl
@[simp] theorem updDl_freeIndex (f : Dl → Dl) (s : State) : (updDl f s).freeIndex = s.freeIndex := rfl
@[simp] theorem updDl_pending (f : Dl → Dl) (s : State) : (updDl f s).pending = s.pending := rfl

/-! ### `updTs` -/

@[simp] theorem updTs_settling (f : TableStore → TableStore) (s : State) : (updTs f s).settling = s.settling := rfl
@[simp] theorem updTs_icu (f : TableStore → TableStore) (s : State) : (updTs f s).icu = s.icu := rfl
@[simp] theorem updTs_ppc (f : TableStore → TableStore) (s : State) : (updTs f s).ppc = s.ppc := rfl
@[simp] theorem updTs_bbc (f : TableStore → TableStore) (s : State) : (updTs f s).bbc = s.bbc := rfl
@[simp] theorem updTs_cc (f : TableStore → TableStore) (s : State) : (updTs f s).cc = s.cc := rfl
@[simp] theorem updTs_bu (f : TableStore → TableStore) (s : State) : (updTs f s).bu = s.bu := rfl
@[simp] theorem updTs_blc (f : TableStore → TableStore) (s : State) : (updTs f s).blc = s.blc := rfl
@[simp] theorem updTs_shm (f : TableStore → TableStore) (s : State) : (updTs f s).shm = s.shm := rfl
@[simp] theorem updTs_dl (f : TableStore → TableStore) (s : State) : (updTs f s).dl = s.dl := rfl
@[simp] theorem updTs_ts (f : TableStore → TableStore) (s : State) : (updTs f s).ts = f s.ts := rfl
@[simp] theorem updTs_lu (f : TableStore → TableStore) (s : State) : (updTs f s).lu = s.lu := rfl
@[simp] theorem updTs_delivered (f : TableStore → TableStore) (s : State) : (updTs f s).delivered = s.delivered := rfl
@[simp] theorem updTs_freeIndex (f : TableStore → TableStore) (s : State) : (updTs f s).freeIndex = s.freeIndex := rfl
@[simp] theorem updTs_pending (f : TableStore → TableStore) (s : State) : (updTs f s).pending = s.pending := rfl

/-! ### `updLu` -/

@[simp] theorem updLu_settling (f : Lu → Lu) (s : State) : (updLu f s).settling = s.settling := rfl
@[simp] theorem updLu_icu (f : Lu → Lu) (s : State) : (updLu f s).icu = s.icu := rfl
@[simp] theorem updLu_ppc (f : Lu → Lu) (s : State) : (updLu f s).ppc = s.ppc := rfl
@[simp] theorem updLu_bbc (f : Lu → Lu) (s : State) : (updLu f s).bbc = s.bbc := rfl
@[simp] theorem updLu_cc (f : Lu → Lu) (s : State) : (updLu f s).cc = s.cc := rfl
@[simp] theorem updLu_bu (f : Lu → Lu) (s : State) : (updLu f s).bu = s.bu := rfl
@[simp] theorem updLu_blc (f : Lu → Lu) (s : State) : (updLu f s).blc = s.blc := rfl
@[simp] theorem updLu_shm (f : Lu → Lu) (s : State) : (updLu f s).shm = s.shm := rfl
@[simp] theorem updLu_dl (f : Lu → Lu) (s : State) : (updLu f s).dl = s.dl := rfl
@[simp] theorem updLu_ts (f : Lu → Lu) (s : State) : (updLu f s).ts = s.ts := rfl
@[simp] theorem updLu_lu (f : Lu → Lu) (s : State) : (updLu f s).lu = f s.lu := rfl
@[simp] theorem updLu_delivered (f : Lu → Lu) (s : State) : (updLu f s).delivered = s.delivered := rfl
@[simp] theorem updLu_freeIndex (f : Lu → Lu) (s : State) : (updLu f s).freeIndex = s.freeIndex := rfl
@[simp] theorem updLu_pending (f : Lu → Lu) (s : State) : (updLu f s).pending = s.pending := rfl

/-! ### `updBay` -/

@[simp] theorem updBay_settling (b : Bay) (f : BayRecord → BayRecord) (s : State) : (updBay b f s).settling = s.settling := rfl
@[simp] theorem updBay_icu (b : Bay) (f : BayRecord → BayRecord) (s : State) : (updBay b f s).icu = s.icu := rfl
@[simp] theorem updBay_ppc (b : Bay) (f : BayRecord → BayRecord) (s : State) : (updBay b f s).ppc = { s.ppc with bays := s.ppc.bays.set b (f (s.ppc.bays.get b)) } := rfl
@[simp] theorem updBay_bbc (b : Bay) (f : BayRecord → BayRecord) (s : State) : (updBay b f s).bbc = s.bbc := rfl
@[simp] theorem updBay_cc (b : Bay) (f : BayRecord → BayRecord) (s : State) : (updBay b f s).cc = s.cc := rfl
@[simp] theorem updBay_bu (b : Bay) (f : BayRecord → BayRecord) (s : State) : (updBay b f s).bu = s.bu := rfl
@[simp] theorem updBay_blc (b : Bay) (f : BayRecord → BayRecord) (s : State) : (updBay b f s).blc = s.blc := rfl
@[simp] theorem updBay_shm (b : Bay) (f : BayRecord → BayRecord) (s : State) : (updBay b f s).shm = s.shm := rfl
@[simp] theorem updBay_dl (b : Bay) (f : BayRecord → BayRecord) (s : State) : (updBay b f s).dl = s.dl := rfl
@[simp] theorem updBay_ts (b : Bay) (f : BayRecord → BayRecord) (s : State) : (updBay b f s).ts = s.ts := rfl
@[simp] theorem updBay_lu (b : Bay) (f : BayRecord → BayRecord) (s : State) : (updBay b f s).lu = s.lu := rfl
@[simp] theorem updBay_delivered (b : Bay) (f : BayRecord → BayRecord) (s : State) : (updBay b f s).delivered = s.delivered := rfl
@[simp] theorem updBay_freeIndex (b : Bay) (f : BayRecord → BayRecord) (s : State) : (updBay b f s).freeIndex = s.freeIndex := rfl
@[simp] theorem updBay_pending (b : Bay) (f : BayRecord → BayRecord) (s : State) : (updBay b f s).pending = s.pending := rfl

/-! ### `updBus` -/

@[simp] theorem updBus_settling (b : Bay) (f : BayBus → BayBus) (s : State) : (updBus b f s).settling = s.settling := rfl
@[simp] theorem updBus_icu (b : Bay) (f : BayBus → BayBus) (s : State) : (updBus b f s).icu = s.icu := rfl
@[simp] theorem updBus_ppc (b : Bay) (f : BayBus → BayBus) (s : State) : (updBus b f s).ppc = s.ppc := rfl
@[simp] theorem updBus_bbc (b : Bay) (f : BayBus → BayBus) (s : State) : (updBus b f s).bbc = { s.bbc with bays := s.bbc.bays.set b (f (s.bbc.bays.get b)) } := rfl
@[simp] theorem updBus_cc (b : Bay) (f : BayBus → BayBus) (s : State) : (updBus b f s).cc = s.cc := rfl
@[simp] theorem updBus_bu (b : Bay) (f : BayBus → BayBus) (s : State) : (updBus b f s).bu = s.bu := rfl
@[simp] theorem updBus_blc (b : Bay) (f : BayBus → BayBus) (s : State) : (updBus b f s).blc = s.blc := rfl
@[simp] theorem updBus_shm (b : Bay) (f : BayBus → BayBus) (s : State) : (updBus b f s).shm = s.shm := rfl
@[simp] theorem updBus_dl (b : Bay) (f : BayBus → BayBus) (s : State) : (updBus b f s).dl = s.dl := rfl
@[simp] theorem updBus_ts (b : Bay) (f : BayBus → BayBus) (s : State) : (updBus b f s).ts = s.ts := rfl
@[simp] theorem updBus_lu (b : Bay) (f : BayBus → BayBus) (s : State) : (updBus b f s).lu = s.lu := rfl
@[simp] theorem updBus_delivered (b : Bay) (f : BayBus → BayBus) (s : State) : (updBus b f s).delivered = s.delivered := rfl
@[simp] theorem updBus_freeIndex (b : Bay) (f : BayBus → BayBus) (s : State) : (updBus b f s).freeIndex = s.freeIndex := rfl
@[simp] theorem updBus_pending (b : Bay) (f : BayBus → BayBus) (s : State) : (updBus b f s).pending = s.pending := rfl

/-! ### `updMemory` -/

@[simp] theorem updMemory_settling (f : List PackEntry → List PackEntry) (s : State) : (updMemory f s).settling = s.settling := rfl
@[simp] theorem updMemory_icu (f : List PackEntry → List PackEntry) (s : State) : (updMemory f s).icu = s.icu := rfl
@[simp] theorem updMemory_ppc (f : List PackEntry → List PackEntry) (s : State) : (updMemory f s).ppc = s.ppc := rfl
@[simp] theorem updMemory_bbc (f : List PackEntry → List PackEntry) (s : State) : (updMemory f s).bbc = s.bbc := rfl
@[simp] theorem updMemory_cc (f : List PackEntry → List PackEntry) (s : State) : (updMemory f s).cc = { s.cc with memory := f s.cc.memory } := rfl
@[simp] theorem updMemory_bu (f : List PackEntry → List PackEntry) (s : State) : (updMemory f s).bu = s.bu := rfl
@[simp] theorem updMemory_blc (f : List PackEntry → List PackEntry) (s : State) : (updMemory f s).blc = s.blc := rfl
@[simp] theorem updMemory_shm (f : List PackEntry → List PackEntry) (s : State) : (updMemory f s).shm = s.shm := rfl
@[simp] theorem updMemory_dl (f : List PackEntry → List PackEntry) (s : State) : (updMemory f s).dl = s.dl := rfl
@[simp] theorem updMemory_ts (f : List PackEntry → List PackEntry) (s : State) : (updMemory f s).ts = s.ts := rfl
@[simp] theorem updMemory_lu (f : List PackEntry → List PackEntry) (s : State) : (updMemory f s).lu = s.lu := rfl
@[simp] theorem updMemory_delivered (f : List PackEntry → List PackEntry) (s : State) : (updMemory f s).delivered = s.delivered := rfl
@[simp] theorem updMemory_freeIndex (f : List PackEntry → List PackEntry) (s : State) : (updMemory f s).freeIndex = s.freeIndex := rfl
@[simp] theorem updMemory_pending (f : List PackEntry → List PackEntry) (s : State) : (updMemory f s).pending = s.pending := rfl

/-! ### `setSession` -/

@[simp] theorem setSession_settling (x : Session) (s : State) : (setSession x s).settling = s.settling := rfl
@[simp] theorem setSession_icu (x : Session) (s : State) : (setSession x s).icu = s.icu := rfl
@[simp] theorem setSession_ppc (x : Session) (s : State) : (setSession x s).ppc = s.ppc := rfl
@[simp] theorem setSession_bbc (x : Session) (s : State) : (setSession x s).bbc = s.bbc := rfl
@[simp] theorem setSession_cc (x : Session) (s : State) : (setSession x s).cc = { s.cc with session := x } := rfl
@[simp] theorem setSession_bu (x : Session) (s : State) : (setSession x s).bu = s.bu := rfl
@[simp] theorem setSession_blc (x : Session) (s : State) : (setSession x s).blc = s.blc := rfl
@[simp] theorem setSession_shm (x : Session) (s : State) : (setSession x s).shm = s.shm := rfl
@[simp] theorem setSession_dl (x : Session) (s : State) : (setSession x s).dl = s.dl := rfl
@[simp] theorem setSession_ts (x : Session) (s : State) : (setSession x s).ts = s.ts := rfl
@[simp] theorem setSession_lu (x : Session) (s : State) : (setSession x s).lu = s.lu := rfl
@[simp] theorem setSession_delivered (x : Session) (s : State) : (setSession x s).delivered = s.delivered := rfl
@[simp] theorem setSession_freeIndex (x : Session) (s : State) : (setSession x s).freeIndex = s.freeIndex := rfl
@[simp] theorem setSession_pending (x : Session) (s : State) : (setSession x s).pending = s.pending := rfl

/-! ### `setCharged` -/

@[simp] theorem setCharged_settling (b : Bay) (v : Bool) (s : State) : (setCharged b v s).settling = s.settling := rfl
@[simp] theorem setCharged_icu (b : Bay) (v : Bool) (s : State) : (setCharged b v s).icu = s.icu := rfl
@[simp] theorem setCharged_ppc (b : Bay) (v : Bool) (s : State) : (setCharged b v s).ppc = s.ppc := rfl
@[simp] theorem setCharged_bbc (b : Bay) (v : Bool) (s : State) : (setCharged b v s).bbc = s.bbc := rfl
@[simp] theorem setCharged_cc (b : Bay) (v : Bool) (s : State) : (setCharged b v s).cc = { s.cc with charged := s.cc.charged.set b v } := rfl
@[simp] theorem setCharged_bu (b : Bay) (v : Bool) (s : State) : (setCharged b v s).bu = s.bu := rfl
@[simp] theorem setCharged_blc (b : Bay) (v : Bool) (s : State) : (setCharged b v s).blc = s.blc := rfl
@[simp] theorem setCharged_shm (b : Bay) (v : Bool) (s : State) : (setCharged b v s).shm = s.shm := rfl
@[simp] theorem setCharged_dl (b : Bay) (v : Bool) (s : State) : (setCharged b v s).dl = s.dl := rfl
@[simp] theorem setCharged_ts (b : Bay) (v : Bool) (s : State) : (setCharged b v s).ts = s.ts := rfl
@[simp] theorem setCharged_lu (b : Bay) (v : Bool) (s : State) : (setCharged b v s).lu = s.lu := rfl
@[simp] theorem setCharged_delivered (b : Bay) (v : Bool) (s : State) : (setCharged b v s).delivered = s.delivered := rfl
@[simp] theorem setCharged_freeIndex (b : Bay) (v : Bool) (s : State) : (setCharged b v s).freeIndex = s.freeIndex := rfl
@[simp] theorem setCharged_pending (b : Bay) (v : Bool) (s : State) : (setCharged b v s).pending = s.pending := rfl

/-! ### `setWaiting` -/

@[simp] theorem setWaiting_settling (w : Option WaitCause) (s : State) : (setWaiting w s).settling = s.settling := rfl
@[simp] theorem setWaiting_icu (w : Option WaitCause) (s : State) : (setWaiting w s).icu = s.icu := rfl
@[simp] theorem setWaiting_ppc (w : Option WaitCause) (s : State) : (setWaiting w s).ppc = { s.ppc with waiting := w } := rfl
@[simp] theorem setWaiting_bbc (w : Option WaitCause) (s : State) : (setWaiting w s).bbc = s.bbc := rfl
@[simp] theorem setWaiting_cc (w : Option WaitCause) (s : State) : (setWaiting w s).cc = s.cc := rfl
@[simp] theorem setWaiting_bu (w : Option WaitCause) (s : State) : (setWaiting w s).bu = s.bu := rfl
@[simp] theorem setWaiting_blc (w : Option WaitCause) (s : State) : (setWaiting w s).blc = s.blc := rfl
@[simp] theorem setWaiting_shm (w : Option WaitCause) (s : State) : (setWaiting w s).shm = s.shm := rfl
@[simp] theorem setWaiting_dl (w : Option WaitCause) (s : State) : (setWaiting w s).dl = s.dl := rfl
@[simp] theorem setWaiting_ts (w : Option WaitCause) (s : State) : (setWaiting w s).ts = s.ts := rfl
@[simp] theorem setWaiting_lu (w : Option WaitCause) (s : State) : (setWaiting w s).lu = s.lu := rfl
@[simp] theorem setWaiting_delivered (w : Option WaitCause) (s : State) : (setWaiting w s).delivered = s.delivered := rfl
@[simp] theorem setWaiting_freeIndex (w : Option WaitCause) (s : State) : (setWaiting w s).freeIndex = s.freeIndex := rfl
@[simp] theorem setWaiting_pending (w : Option WaitCause) (s : State) : (setWaiting w s).pending = s.pending := rfl

/-! ### `setTransfer` -/

@[simp] theorem setTransfer_settling (t : Option Transfer) (s : State) : (setTransfer t s).settling = s.settling := rfl
@[simp] theorem setTransfer_icu (t : Option Transfer) (s : State) : (setTransfer t s).icu = s.icu := rfl
@[simp] theorem setTransfer_ppc (t : Option Transfer) (s : State) : (setTransfer t s).ppc = { s.ppc with transfer := t } := rfl
@[simp] theorem setTransfer_bbc (t : Option Transfer) (s : State) : (setTransfer t s).bbc = s.bbc := rfl
@[simp] theorem setTransfer_cc (t : Option Transfer) (s : State) : (setTransfer t s).cc = s.cc := rfl
@[simp] theorem setTransfer_bu (t : Option Transfer) (s : State) : (setTransfer t s).bu = s.bu := rfl
@[simp] theorem setTransfer_blc (t : Option Transfer) (s : State) : (setTransfer t s).blc = s.blc := rfl
@[simp] theorem setTransfer_shm (t : Option Transfer) (s : State) : (setTransfer t s).shm = s.shm := rfl
@[simp] theorem setTransfer_dl (t : Option Transfer) (s : State) : (setTransfer t s).dl = s.dl := rfl
@[simp] theorem setTransfer_ts (t : Option Transfer) (s : State) : (setTransfer t s).ts = s.ts := rfl
@[simp] theorem setTransfer_lu (t : Option Transfer) (s : State) : (setTransfer t s).lu = s.lu := rfl
@[simp] theorem setTransfer_delivered (t : Option Transfer) (s : State) : (setTransfer t s).delivered = s.delivered := rfl
@[simp] theorem setTransfer_freeIndex (t : Option Transfer) (s : State) : (setTransfer t s).freeIndex = s.freeIndex := rfl
@[simp] theorem setTransfer_pending (t : Option Transfer) (s : State) : (setTransfer t s).pending = s.pending := rfl

/-! ### `acceptFrame` -/

@[simp] theorem acceptFrame_settling (s : State) : (acceptFrame s).settling = s.settling := rfl
@[simp] theorem acceptFrame_icu (s : State) : (acceptFrame s).icu = s.icu := rfl
@[simp] theorem acceptFrame_ppc (s : State) : (acceptFrame s).ppc = s.ppc := rfl
@[simp] theorem acceptFrame_bbc (s : State) : (acceptFrame s).bbc = s.bbc := rfl
@[simp] theorem acceptFrame_cc (s : State) : (acceptFrame s).cc = s.cc := rfl
@[simp] theorem acceptFrame_bu (s : State) : (acceptFrame s).bu = s.bu := rfl
@[simp] theorem acceptFrame_blc (s : State) : (acceptFrame s).blc = s.blc := rfl
@[simp] theorem acceptFrame_shm (s : State) : (acceptFrame s).shm = s.shm := rfl
@[simp] theorem acceptFrame_dl (s : State) : (acceptFrame s).dl = s.dl := rfl
@[simp] theorem acceptFrame_ts (s : State) : (acceptFrame s).ts = s.ts := rfl
@[simp] theorem acceptFrame_lu (s : State) : (acceptFrame s).lu = { s.lu with receiver := .hunting, silenceTimer := restartedSilence s, silence := false } := rfl
@[simp] theorem acceptFrame_delivered (s : State) : (acceptFrame s).delivered = s.delivered := rfl
@[simp] theorem acceptFrame_freeIndex (s : State) : (acceptFrame s).freeIndex = s.freeIndex := rfl
@[simp] theorem acceptFrame_pending (s : State) : (acceptFrame s).pending = s.pending := rfl

/-! ### `respond` -/

@[simp] theorem respond_settling (tag code : Byte) (st : Status) (r : List Byte) (s : State) : (respond tag code st r s).settling = s.settling := rfl
@[simp] theorem respond_icu (tag code : Byte) (st : Status) (r : List Byte) (s : State) : (respond tag code st r s).icu = s.icu := rfl
@[simp] theorem respond_ppc (tag code : Byte) (st : Status) (r : List Byte) (s : State) : (respond tag code st r s).ppc = s.ppc := rfl
@[simp] theorem respond_bbc (tag code : Byte) (st : Status) (r : List Byte) (s : State) : (respond tag code st r s).bbc = s.bbc := rfl
@[simp] theorem respond_cc (tag code : Byte) (st : Status) (r : List Byte) (s : State) : (respond tag code st r s).cc = s.cc := rfl
@[simp] theorem respond_bu (tag code : Byte) (st : Status) (r : List Byte) (s : State) : (respond tag code st r s).bu = s.bu := rfl
@[simp] theorem respond_blc (tag code : Byte) (st : Status) (r : List Byte) (s : State) : (respond tag code st r s).blc = s.blc := rfl
@[simp] theorem respond_shm (tag code : Byte) (st : Status) (r : List Byte) (s : State) : (respond tag code st r s).shm = s.shm := rfl
@[simp] theorem respond_dl (tag code : Byte) (st : Status) (r : List Byte) (s : State) : (respond tag code st r s).dl = s.dl := rfl
@[simp] theorem respond_ts (tag code : Byte) (st : Status) (r : List Byte) (s : State) : (respond tag code st r s).ts = s.ts := rfl
@[simp] theorem respond_lu (tag code : Byte) (st : Status) (r : List Byte) (s : State) : (respond tag code st r s).lu = { s.lu with responses := s.lu.responses ++ [⟨tag, code, st, s.lu.overrun, r⟩], overrun := false } := rfl
@[simp] theorem respond_delivered (tag code : Byte) (st : Status) (r : List Byte) (s : State) : (respond tag code st r s).delivered = s.delivered := rfl
@[simp] theorem respond_freeIndex (tag code : Byte) (st : Status) (r : List Byte) (s : State) : (respond tag code st r s).freeIndex = s.freeIndex := rfl
@[simp] theorem respond_pending (tag code : Byte) (st : Status) (r : List Byte) (s : State) : (respond tag code st r s).pending = s.pending := rfl

/-! ### One value per bay -/

@[simp] theorem get_set_same {α : Type} (p : PerBay α) (b : Bay) (v : α) : (p.set b v).get b = v := by cases b <;> rfl

@[simp] theorem get_set_other {α : Type} (p : PerBay α) (b : Bay) (v : α) : (p.set b v).get b.other = p.get b.other := by
  cases b <;> rfl

@[simp] theorem get_other_set {α : Type} (p : PerBay α) (b : Bay) (v : α) : (p.set b.other v).get b = p.get b := by
  cases b <;> rfl

theorem get_set {α : Type} (p : PerBay α) (b x : Bay) (v : α) : (p.set b v).get x = if x = b then v else p.get x := by
  cases b <;> cases x <;> rfl

@[simp] theorem set_get {α : Type} (p : PerBay α) (b : Bay) : p.set b (p.get b) = p := by cases b <;> rfl

@[simp] theorem set_set {α : Type} (p : PerBay α) (b : Bay) (v w : α) : (p.set b v).set b w = p.set b w := by
  cases b <;> rfl

theorem PerBay.ext_get {α : Type} {p q : PerBay α} (h : ∀ b, p.get b = q.get b) : p = q := by
  obtain ⟨a, b⟩ := p
  obtain ⟨c, d⟩ := q
  have h1 : a = c := h .A
  have h2 : b = d := h .B
  rw [h1, h2]

@[simp] theorem other_other (b : Bay) : b.other.other = b := by cases b <;> rfl

@[simp] theorem other_ne (b : Bay) : b.other ≠ b := by cases b <;> decide

@[simp] theorem ne_other (b : Bay) : b ≠ b.other := by cases b <;> decide

/-- Each bay is the one named or the other. -/
theorem bay_cases (b x : Bay) : x = b ∨ x = b.other := by cases b <;> cases x <;> decide

@[simp] theorem bayOf_updBay_same (b : Bay) (f : BayRecord → BayRecord) (s : State) : bayOf (updBay b f s) b = f (bayOf s b) := by
  simp [bayOf]

@[simp] theorem bayOf_updBay_other (b : Bay) (f : BayRecord → BayRecord) (s : State) :
    bayOf (updBay b f s) b.other = bayOf s b.other := by
  simp [bayOf]

@[simp] theorem busOf_updBus_same (b : Bay) (f : BayBus → BayBus) (s : State) : busOf (updBus b f s) b = f (busOf s b) := by
  simp [busOf]

@[simp] theorem busOf_updBus_other (b : Bay) (f : BayBus → BayBus) (s : State) :
    busOf (updBus b f s) b.other = busOf s b.other := by
  simp [busOf]

/-! ### The inputs -/

theorem inputOf_setInput (c : Icu) (i x : Input) (v : InputState) :
    inputOf (setInput c i v) x = if x = i then v else inputOf c x := by
  cases i <;> cases x <;> rfl

@[simp] theorem inputOf_setInput_same (c : Icu) (i : Input) (v : InputState) : inputOf (setInput c i v) i = v := by
  cases i <;> rfl

@[simp] theorem setInput_lengths (c : Icu) (i : Input) (v : InputState) :
    (setInput c i v).hold = c.hold ∧ (setInput c i v).bayLength = c.bayLength
      ∧ (setInput c i v).housingLength = c.housingLength := by
  cases i <;> exact ⟨rfl, rfl, rfl⟩

end Sys2Proof.Machine
end

