-- ==== Sys2Proof/Laws/Frames.lean ====
section
/-! SUPPORT. One lemma per shared operation, which says every part of the state that the operation leaves alone. Each is a simp lemma, so a
proof about one part of the state never unfolds an operation on the others. -/

namespace Sys2Proof.Machine

/-! ### The named operations (Ops) -/

@[simp] theorem tellBudgetIf_frame (c : Bool) (s : State) :
    (tellBudgetIf c s).settling = s.settling ∧ (tellBudgetIf c s).icu = s.icu ∧ (tellBudgetIf c s).ppc = s.ppc
      ∧ (tellBudgetIf c s).bbc = s.bbc ∧ (tellBudgetIf c s).cc = s.cc ∧ (tellBudgetIf c s).bu = s.bu
      ∧ (tellBudgetIf c s).blc = s.blc ∧ (tellBudgetIf c s).shm = s.shm ∧ (tellBudgetIf c s).dl = s.dl
      ∧ (tellBudgetIf c s).ts = s.ts ∧ (tellBudgetIf c s).lu = s.lu ∧ (tellBudgetIf c s).freeIndex = s.freeIndex
      ∧ (tellBudgetIf c s).pending = s.pending := by
  simp only [tellBudgetIf]
  repeat' split
  all_goals simp [*]

@[simp] theorem raise_frame (n : Notice) (s : State) :
    (raise n s).settling = s.settling ∧ (raise n s).icu = s.icu ∧ (raise n s).ppc = s.ppc ∧ (raise n s).bbc = s.bbc
      ∧ (raise n s).cc = s.cc ∧ (raise n s).bu = s.bu ∧ (raise n s).blc = s.blc ∧ (raise n s).shm = s.shm
      ∧ (raise n s).dl = s.dl ∧ (raise n s).ts = s.ts ∧ (raise n s).delivered = s.delivered
      ∧ (raise n s).freeIndex = s.freeIndex ∧ (raise n s).pending = s.pending := by
  simp only [raise]
  repeat' split
  all_goals simp [*]

@[simp] theorem raiseIf_frame (c : Bool) (n : Notice) (s : State) :
    (raiseIf c n s).settling = s.settling ∧ (raiseIf c n s).icu = s.icu ∧ (raiseIf c n s).ppc = s.ppc
      ∧ (raiseIf c n s).bbc = s.bbc ∧ (raiseIf c n s).cc = s.cc ∧ (raiseIf c n s).bu = s.bu ∧ (raiseIf c n s).blc = s.blc
      ∧ (raiseIf c n s).shm = s.shm ∧ (raiseIf c n s).dl = s.dl ∧ (raiseIf c n s).ts = s.ts
      ∧ (raiseIf c n s).delivered = s.delivered ∧ (raiseIf c n s).freeIndex = s.freeIndex
      ∧ (raiseIf c n s).pending = s.pending := by
  simp only [raiseIf]
  repeat' split
  all_goals simp [*]

@[simp] theorem relevel_frame (s : State) :
    (relevel s).settling = s.settling ∧ (relevel s).icu = s.icu ∧ (relevel s).ppc = s.ppc ∧ (relevel s).bbc = s.bbc
      ∧ (relevel s).cc = s.cc ∧ (relevel s).bu = s.bu ∧ (relevel s).blc = s.blc ∧ (relevel s).shm = s.shm
      ∧ (relevel s).dl = s.dl ∧ (relevel s).ts = s.ts ∧ (relevel s).delivered = s.delivered
      ∧ (relevel s).freeIndex = s.freeIndex ∧ (relevel s).pending = s.pending := by
  simp only [relevel]
  simp [*]

@[simp] theorem handTraffic_frame (t : Traffic) (s : State) :
    (handTraffic t s).settling = s.settling ∧ (handTraffic t s).icu = s.icu ∧ (handTraffic t s).ppc = s.ppc
      ∧ (handTraffic t s).bbc = s.bbc ∧ (handTraffic t s).cc = s.cc ∧ (handTraffic t s).bu = s.bu
      ∧ (handTraffic t s).blc = s.blc ∧ (handTraffic t s).shm = s.shm ∧ (handTraffic t s).dl = s.dl
      ∧ (handTraffic t s).ts = s.ts ∧ (handTraffic t s).delivered = s.delivered ∧ (handTraffic t s).freeIndex = s.freeIndex
      ∧ (handTraffic t s).pending = s.pending := by
  simp only [handTraffic]
  repeat' split
  all_goals simp [*]

@[simp] theorem startLine_frame (s : State) :
    (startLine s).settling = s.settling ∧ (startLine s).icu = s.icu ∧ (startLine s).ppc = s.ppc ∧ (startLine s).bbc = s.bbc
      ∧ (startLine s).cc = s.cc ∧ (startLine s).bu = s.bu ∧ (startLine s).blc = s.blc ∧ (startLine s).shm = s.shm
      ∧ (startLine s).dl = s.dl ∧ (startLine s).ts = s.ts ∧ (startLine s).delivered = s.delivered
      ∧ (startLine s).freeIndex = s.freeIndex ∧ (startLine s).pending = s.pending := by
  simp only [startLine]
  repeat' split
  all_goals simp [*]

/-! ### The bay bus -/

@[simp] theorem granted_frame (o : TxOwner) (s : State) :
    (granted o s).settling = s.settling ∧ (granted o s).icu = s.icu ∧ (granted o s).ppc = s.ppc ∧ (granted o s).cc = s.cc
      ∧ (granted o s).bu = s.bu ∧ (granted o s).blc = s.blc ∧ (granted o s).shm = s.shm ∧ (granted o s).dl = s.dl
      ∧ (granted o s).ts = s.ts ∧ (granted o s).lu = s.lu ∧ (granted o s).delivered = s.delivered
      ∧ (granted o s).freeIndex = s.freeIndex ∧ (granted o s).pending = s.pending := by
  simp only [granted]
  repeat' split
  all_goals simp [*]

@[simp] theorem beginTransaction_frame (o : Offer) (s : State) :
    (beginTransaction o s).settling = s.settling ∧ (beginTransaction o s).icu = s.icu ∧ (beginTransaction o s).ppc = s.ppc
      ∧ (beginTransaction o s).cc = s.cc ∧ (beginTransaction o s).bu = s.bu ∧ (beginTransaction o s).blc = s.blc
      ∧ (beginTransaction o s).shm = s.shm ∧ (beginTransaction o s).dl = s.dl ∧ (beginTransaction o s).ts = s.ts
      ∧ (beginTransaction o s).lu = s.lu ∧ (beginTransaction o s).delivered = s.delivered
      ∧ (beginTransaction o s).freeIndex = s.freeIndex ∧ (beginTransaction o s).pending = s.pending := by
  simp only [beginTransaction]
  simp [*]

@[simp] theorem grantBus_frame (s : State) :
    (grantBus s).settling = s.settling ∧ (grantBus s).icu = s.icu ∧ (grantBus s).ppc = s.ppc ∧ (grantBus s).cc = s.cc
      ∧ (grantBus s).bu = s.bu ∧ (grantBus s).blc = s.blc ∧ (grantBus s).shm = s.shm ∧ (grantBus s).dl = s.dl
      ∧ (grantBus s).ts = s.ts ∧ (grantBus s).lu = s.lu ∧ (grantBus s).delivered = s.delivered
      ∧ (grantBus s).freeIndex = s.freeIndex ∧ (grantBus s).pending = s.pending := by
  simp only [grantBus]
  repeat' split
  all_goals simp [*]

@[simp] theorem finish_frame (s : State) :
    (finish s).settling = s.settling ∧ (finish s).icu = s.icu ∧ (finish s).ppc = s.ppc ∧ (finish s).cc = s.cc
      ∧ (finish s).bu = s.bu ∧ (finish s).blc = s.blc ∧ (finish s).shm = s.shm ∧ (finish s).dl = s.dl ∧ (finish s).ts = s.ts
      ∧ (finish s).delivered = s.delivered ∧ (finish s).freeIndex = s.freeIndex ∧ (finish s).pending = s.pending := by
  simp only [finish]
  simp [*]

@[simp] theorem stopIdentifyRead_frame (b : Bay) (s : State) :
    (stopIdentifyRead b s).settling = s.settling ∧ (stopIdentifyRead b s).icu = s.icu ∧ (stopIdentifyRead b s).ppc = s.ppc
      ∧ (stopIdentifyRead b s).cc = s.cc ∧ (stopIdentifyRead b s).bu = s.bu ∧ (stopIdentifyRead b s).blc = s.blc
      ∧ (stopIdentifyRead b s).shm = s.shm ∧ (stopIdentifyRead b s).dl = s.dl ∧ (stopIdentifyRead b s).ts = s.ts
      ∧ (stopIdentifyRead b s).lu = s.lu ∧ (stopIdentifyRead b s).delivered = s.delivered
      ∧ (stopIdentifyRead b s).freeIndex = s.freeIndex ∧ (stopIdentifyRead b s).pending = s.pending := by
  simp only [stopIdentifyRead]
  repeat' split
  all_goals simp [*]

@[simp] theorem enterBay_frame (b : Bay) (st : BayState) (s : State) :
    (enterBay b st s).settling = s.settling ∧ (enterBay b st s).icu = s.icu ∧ (enterBay b st s).bu = s.bu
      ∧ (enterBay b st s).blc = s.blc ∧ (enterBay b st s).shm = s.shm ∧ (enterBay b st s).dl = s.dl
      ∧ (enterBay b st s).ts = s.ts ∧ (enterBay b st s).lu = s.lu ∧ (enterBay b st s).freeIndex = s.freeIndex
      ∧ (enterBay b st s).pending = s.pending := by
  simp only [enterBay]
  repeat' split
  all_goals simp [*]

/-! ### Charging and the pack memory -/

@[simp] theorem rememberPack_frame (b : Bay) (id : Identity) (charge : Nat) (s : State) :
    (rememberPack b id charge s).settling = s.settling ∧ (rememberPack b id charge s).icu = s.icu
      ∧ (rememberPack b id charge s).ppc = s.ppc ∧ (rememberPack b id charge s).bbc = s.bbc
      ∧ (rememberPack b id charge s).bu = s.bu ∧ (rememberPack b id charge s).blc = s.blc
      ∧ (rememberPack b id charge s).shm = s.shm ∧ (rememberPack b id charge s).dl = s.dl
      ∧ (rememberPack b id charge s).ts = s.ts ∧ (rememberPack b id charge s).lu = s.lu
      ∧ (rememberPack b id charge s).delivered = s.delivered ∧ (rememberPack b id charge s).freeIndex = s.freeIndex
      ∧ (rememberPack b id charge s).pending = s.pending := by
  simp only [rememberPack]
  simp [*]

@[simp] theorem handList_frame (k : ListKind) (w : List (Nat × Nat)) (s : State) :
    (handList k w s).settling = s.settling ∧ (handList k w s).icu = s.icu ∧ (handList k w s).ppc = s.ppc
      ∧ (handList k w s).cc = s.cc ∧ (handList k w s).bu = s.bu ∧ (handList k w s).blc = s.blc
      ∧ (handList k w s).shm = s.shm ∧ (handList k w s).dl = s.dl ∧ (handList k w s).ts = s.ts ∧ (handList k w s).lu = s.lu
      ∧ (handList k w s).delivered = s.delivered ∧ (handList k w s).freeIndex = s.freeIndex
      ∧ (handList k w s).pending = s.pending := by
  simp only [handList]
  repeat' split
  all_goals simp [*]

@[simp] theorem handStop_frame (s : State) :
    (handStop s).settling = s.settling ∧ (handStop s).icu = s.icu ∧ (handStop s).ppc = s.ppc ∧ (handStop s).cc = s.cc
      ∧ (handStop s).bu = s.bu ∧ (handStop s).blc = s.blc ∧ (handStop s).shm = s.shm ∧ (handStop s).dl = s.dl
      ∧ (handStop s).ts = s.ts ∧ (handStop s).lu = s.lu ∧ (handStop s).delivered = s.delivered
      ∧ (handStop s).freeIndex = s.freeIndex ∧ (handStop s).pending = s.pending := by
  simp only [handStop]
  simp [*]

@[simp] theorem withdrawStarts_frame (s : State) :
    (withdrawStarts s).settling = s.settling ∧ (withdrawStarts s).icu = s.icu ∧ (withdrawStarts s).ppc = s.ppc
      ∧ (withdrawStarts s).cc = s.cc ∧ (withdrawStarts s).bu = s.bu ∧ (withdrawStarts s).blc = s.blc
      ∧ (withdrawStarts s).shm = s.shm ∧ (withdrawStarts s).dl = s.dl ∧ (withdrawStarts s).ts = s.ts
      ∧ (withdrawStarts s).lu = s.lu ∧ (withdrawStarts s).delivered = s.delivered
      ∧ (withdrawStarts s).freeIndex = s.freeIndex ∧ (withdrawStarts s).pending = s.pending := by
  simp only [withdrawStarts]
  simp [*]

@[simp] theorem withdrawAll_frame (s : State) :
    (withdrawAll s).settling = s.settling ∧ (withdrawAll s).icu = s.icu ∧ (withdrawAll s).ppc = s.ppc
      ∧ (withdrawAll s).cc = s.cc ∧ (withdrawAll s).bu = s.bu ∧ (withdrawAll s).blc = s.blc ∧ (withdrawAll s).shm = s.shm
      ∧ (withdrawAll s).dl = s.dl ∧ (withdrawAll s).ts = s.ts ∧ (withdrawAll s).lu = s.lu
      ∧ (withdrawAll s).delivered = s.delivered ∧ (withdrawAll s).freeIndex = s.freeIndex
      ∧ (withdrawAll s).pending = s.pending := by
  simp only [withdrawAll]
  simp [*]

@[simp] theorem startAttempt_frame (b : Bay) (s : State) :
    (startAttempt b s).settling = s.settling ∧ (startAttempt b s).icu = s.icu ∧ (startAttempt b s).ppc = s.ppc
      ∧ (startAttempt b s).bu = s.bu ∧ (startAttempt b s).blc = s.blc ∧ (startAttempt b s).shm = s.shm
      ∧ (startAttempt b s).dl = s.dl ∧ (startAttempt b s).ts = s.ts ∧ (startAttempt b s).lu = s.lu
      ∧ (startAttempt b s).delivered = s.delivered ∧ (startAttempt b s).freeIndex = s.freeIndex
      ∧ (startAttempt b s).pending = s.pending := by
  simp only [startAttempt]
  repeat' split
  all_goals simp [*]

@[simp] theorem abandonAttempt_frame (s : State) :
    (abandonAttempt s).settling = s.settling ∧ (abandonAttempt s).icu = s.icu ∧ (abandonAttempt s).ppc = s.ppc
      ∧ (abandonAttempt s).bu = s.bu ∧ (abandonAttempt s).blc = s.blc ∧ (abandonAttempt s).shm = s.shm
      ∧ (abandonAttempt s).dl = s.dl ∧ (abandonAttempt s).ts = s.ts ∧ (abandonAttempt s).lu = s.lu
      ∧ (abandonAttempt s).delivered = s.delivered ∧ (abandonAttempt s).freeIndex = s.freeIndex
      ∧ (abandonAttempt s).pending = s.pending := by
  simp only [abandonAttempt]
  simp [*]

@[simp] theorem chooseAttempt_frame (s : State) :
    (chooseAttempt s).settling = s.settling ∧ (chooseAttempt s).icu = s.icu ∧ (chooseAttempt s).ppc = s.ppc
      ∧ (chooseAttempt s).bu = s.bu ∧ (chooseAttempt s).blc = s.blc ∧ (chooseAttempt s).shm = s.shm
      ∧ (chooseAttempt s).dl = s.dl ∧ (chooseAttempt s).ts = s.ts ∧ (chooseAttempt s).lu = s.lu
      ∧ (chooseAttempt s).delivered = s.delivered ∧ (chooseAttempt s).freeIndex = s.freeIndex
      ∧ (chooseAttempt s).pending = s.pending := by
  simp only [chooseAttempt]
  repeat' split
  all_goals simp [*]

@[simp] theorem arbitrate_frame (s : State) :
    (arbitrate s).settling = s.settling ∧ (arbitrate s).icu = s.icu ∧ (arbitrate s).ppc = s.ppc ∧ (arbitrate s).bu = s.bu
      ∧ (arbitrate s).blc = s.blc ∧ (arbitrate s).shm = s.shm ∧ (arbitrate s).dl = s.dl ∧ (arbitrate s).ts = s.ts
      ∧ (arbitrate s).lu = s.lu ∧ (arbitrate s).delivered = s.delivered ∧ (arbitrate s).freeIndex = s.freeIndex
      ∧ (arbitrate s).pending = s.pending := by
  simp only [arbitrate]
  repeat' split
  all_goals simp [*]

@[simp] theorem endSession_frame (s : State) :
    (endSession s).settling = s.settling ∧ (endSession s).icu = s.icu ∧ (endSession s).ppc = s.ppc
      ∧ (endSession s).bu = s.bu ∧ (endSession s).blc = s.blc ∧ (endSession s).shm = s.shm ∧ (endSession s).dl = s.dl
      ∧ (endSession s).ts = s.ts ∧ (endSession s).lu = s.lu ∧ (endSession s).freeIndex = s.freeIndex
      ∧ (endSession s).pending = s.pending := by
  simp only [endSession]
  simp [*]

@[simp] theorem sessionStopped_frame (b : Bay) (r : Option HeldReason) (s : State) :
    (sessionStopped b r s).settling = s.settling ∧ (sessionStopped b r s).icu = s.icu ∧ (sessionStopped b r s).ppc = s.ppc
      ∧ (sessionStopped b r s).bu = s.bu ∧ (sessionStopped b r s).blc = s.blc ∧ (sessionStopped b r s).shm = s.shm
      ∧ (sessionStopped b r s).dl = s.dl ∧ (sessionStopped b r s).ts = s.ts ∧ (sessionStopped b r s).freeIndex = s.freeIndex
      ∧ (sessionStopped b r s).pending = s.pending := by
  simp only [sessionStopped]
  repeat' split
  all_goals simp [*]

@[simp] theorem openCharge_frame (b : Bay) (st : BayState) (s : State) :
    (openCharge b st s).settling = s.settling ∧ (openCharge b st s).icu = s.icu ∧ (openCharge b st s).bu = s.bu
      ∧ (openCharge b st s).blc = s.blc ∧ (openCharge b st s).shm = s.shm ∧ (openCharge b st s).dl = s.dl
      ∧ (openCharge b st s).ts = s.ts ∧ (openCharge b st s).lu = s.lu ∧ (openCharge b st s).freeIndex = s.freeIndex
      ∧ (openCharge b st s).pending = s.pending := by
  simp only [openCharge]
  simp [*]

@[simp] theorem openChargeForCc_frame (b : Bay) (s : State) :
    (openChargeForCc b s).settling = s.settling ∧ (openChargeForCc b s).icu = s.icu ∧ (openChargeForCc b s).bu = s.bu
      ∧ (openChargeForCc b s).blc = s.blc ∧ (openChargeForCc b s).shm = s.shm ∧ (openChargeForCc b s).dl = s.dl
      ∧ (openChargeForCc b s).ts = s.ts ∧ (openChargeForCc b s).lu = s.lu ∧ (openChargeForCc b s).freeIndex = s.freeIndex
      ∧ (openChargeForCc b s).pending = s.pending := by
  simp only [openChargeForCc]
  repeat' split
  all_goals simp [*]

@[simp] theorem stopSession_frame (b : Bay) (r : HeldReason) (s : State) :
    (stopSession b r s).settling = s.settling ∧ (stopSession b r s).icu = s.icu ∧ (stopSession b r s).bu = s.bu
      ∧ (stopSession b r s).blc = s.blc ∧ (stopSession b r s).shm = s.shm ∧ (stopSession b r s).dl = s.dl
      ∧ (stopSession b r s).ts = s.ts ∧ (stopSession b r s).freeIndex = s.freeIndex
      ∧ (stopSession b r s).pending = s.pending := by
  simp only [stopSession]
  simp [*]

@[simp] theorem stopCharging_frame (b : Bay) (s : State) :
    (stopCharging b s).settling = s.settling ∧ (stopCharging b s).icu = s.icu ∧ (stopCharging b s).bu = s.bu
      ∧ (stopCharging b s).blc = s.blc ∧ (stopCharging b s).shm = s.shm ∧ (stopCharging b s).dl = s.dl
      ∧ (stopCharging b s).ts = s.ts ∧ (stopCharging b s).freeIndex = s.freeIndex ∧ (stopCharging b s).pending = s.pending := by
  simp only [stopCharging]
  repeat' split
  all_goals simp [*]

@[simp] theorem stopAllCharging_frame (s : State) :
    (stopAllCharging s).settling = s.settling ∧ (stopAllCharging s).icu = s.icu ∧ (stopAllCharging s).bu = s.bu
      ∧ (stopAllCharging s).blc = s.blc ∧ (stopAllCharging s).shm = s.shm ∧ (stopAllCharging s).dl = s.dl
      ∧ (stopAllCharging s).ts = s.ts ∧ (stopAllCharging s).freeIndex = s.freeIndex
      ∧ (stopAllCharging s).pending = s.pending := by
  simp only [stopAllCharging]
  simp [*]

@[simp] theorem chargerLosesDc_frame (s : State) :
    (chargerLosesDc s).settling = s.settling ∧ (chargerLosesDc s).icu = s.icu ∧ (chargerLosesDc s).ppc = s.ppc
      ∧ (chargerLosesDc s).bu = s.bu ∧ (chargerLosesDc s).blc = s.blc ∧ (chargerLosesDc s).shm = s.shm
      ∧ (chargerLosesDc s).dl = s.dl ∧ (chargerLosesDc s).ts = s.ts ∧ (chargerLosesDc s).lu = s.lu
      ∧ (chargerLosesDc s).delivered = s.delivered ∧ (chargerLosesDc s).freeIndex = s.freeIndex
      ∧ (chargerLosesDc s).pending = s.pending := by
  simp only [chargerLosesDc]
  repeat' split
  all_goals simp [*]

@[simp] theorem countFailure_frame (r : TxResult) (s : State) :
    (countFailure r s).settling = s.settling ∧ (countFailure r s).icu = s.icu ∧ (countFailure r s).ppc = s.ppc
      ∧ (countFailure r s).bbc = s.bbc ∧ (countFailure r s).bu = s.bu ∧ (countFailure r s).blc = s.blc
      ∧ (countFailure r s).shm = s.shm ∧ (countFailure r s).dl = s.dl ∧ (countFailure r s).ts = s.ts
      ∧ (countFailure r s).delivered = s.delivered ∧ (countFailure r s).freeIndex = s.freeIndex
      ∧ (countFailure r s).pending = s.pending := by
  simp only [countFailure]
  simp [*]

@[simp] theorem closeCharge_frame (b : Bay) (i : Nat) (v : Recorded) (s : State) :
    (closeCharge b i v s).settling = s.settling ∧ (closeCharge b i v s).icu = s.icu ∧ (closeCharge b i v s).bu = s.bu
      ∧ (closeCharge b i v s).blc = s.blc ∧ (closeCharge b i v s).shm = s.shm ∧ (closeCharge b i v s).dl = s.dl
      ∧ (closeCharge b i v s).ts = s.ts ∧ (closeCharge b i v s).freeIndex = s.freeIndex
      ∧ (closeCharge b i v s).pending = s.pending := by
  simp only [closeCharge]
  simp [*]

@[simp] theorem startDone_frame (s : State) :
    (startDone s).settling = s.settling ∧ (startDone s).icu = s.icu ∧ (startDone s).bu = s.bu ∧ (startDone s).blc = s.blc
      ∧ (startDone s).shm = s.shm ∧ (startDone s).dl = s.dl ∧ (startDone s).ts = s.ts
      ∧ (startDone s).freeIndex = s.freeIndex ∧ (startDone s).pending = s.pending := by
  simp only [startDone]
  repeat' split
  all_goals simp [*]

@[simp] theorem listDone_frame (k : ListKind) (s : State) :
    (listDone k s).settling = s.settling ∧ (listDone k s).icu = s.icu ∧ (listDone k s).bu = s.bu
      ∧ (listDone k s).blc = s.blc ∧ (listDone k s).shm = s.shm ∧ (listDone k s).dl = s.dl ∧ (listDone k s).ts = s.ts
      ∧ (listDone k s).freeIndex = s.freeIndex ∧ (listDone k s).pending = s.pending := by
  simp only [listDone]
  repeat' split
  all_goals simp [*]

@[simp] theorem listFailed_frame (k : ListKind) (r : TxResult) (s : State) :
    (listFailed k r s).settling = s.settling ∧ (listFailed k r s).icu = s.icu ∧ (listFailed k r s).ppc = s.ppc
      ∧ (listFailed k r s).bu = s.bu ∧ (listFailed k r s).blc = s.blc ∧ (listFailed k r s).shm = s.shm
      ∧ (listFailed k r s).dl = s.dl ∧ (listFailed k r s).ts = s.ts ∧ (listFailed k r s).delivered = s.delivered
      ∧ (listFailed k r s).freeIndex = s.freeIndex ∧ (listFailed k r s).pending = s.pending := by
  simp only [listFailed]
  repeat' split
  all_goals simp [*]

@[simp] theorem markSerial_frame (seq : Option Nat) (s : State) (n : Nat) :
    (markSerial seq s n).settling = s.settling ∧ (markSerial seq s n).icu = s.icu ∧ (markSerial seq s n).ppc = s.ppc
      ∧ (markSerial seq s n).bbc = s.bbc ∧ (markSerial seq s n).bu = s.bu ∧ (markSerial seq s n).blc = s.blc
      ∧ (markSerial seq s n).shm = s.shm ∧ (markSerial seq s n).dl = s.dl ∧ (markSerial seq s n).ts = s.ts
      ∧ (markSerial seq s n).lu = s.lu ∧ (markSerial seq s n).delivered = s.delivered
      ∧ (markSerial seq s n).freeIndex = s.freeIndex ∧ (markSerial seq s n).pending = s.pending := by
  simp only [markSerial]
  simp [*]

@[simp] theorem markSerials_frame (seq : Option Nat) (ns : List Nat) (s : State) :
    (ns.foldl (markSerial seq) s).settling = s.settling ∧ (ns.foldl (markSerial seq) s).icu = s.icu
      ∧ (ns.foldl (markSerial seq) s).ppc = s.ppc ∧ (ns.foldl (markSerial seq) s).bbc = s.bbc
      ∧ (ns.foldl (markSerial seq) s).bu = s.bu ∧ (ns.foldl (markSerial seq) s).blc = s.blc
      ∧ (ns.foldl (markSerial seq) s).shm = s.shm ∧ (ns.foldl (markSerial seq) s).dl = s.dl
      ∧ (ns.foldl (markSerial seq) s).ts = s.ts ∧ (ns.foldl (markSerial seq) s).lu = s.lu
      ∧ (ns.foldl (markSerial seq) s).delivered = s.delivered ∧ (ns.foldl (markSerial seq) s).freeIndex = s.freeIndex
      ∧ (ns.foldl (markSerial seq) s).pending = s.pending := by
  induction ns generalizing s with
  | nil => simp
  | cons n rest ih => simpa using ih (markSerial seq s n)

@[simp] theorem markPacks_frame (ns : List Nat) (seq : Option Nat) (s : State) :
    (markPacks ns seq s).settling = s.settling ∧ (markPacks ns seq s).icu = s.icu ∧ (markPacks ns seq s).bu = s.bu
      ∧ (markPacks ns seq s).blc = s.blc ∧ (markPacks ns seq s).shm = s.shm ∧ (markPacks ns seq s).dl = s.dl
      ∧ (markPacks ns seq s).ts = s.ts ∧ (markPacks ns seq s).freeIndex = s.freeIndex
      ∧ (markPacks ns seq s).pending = s.pending := by
  simp only [markPacks]
  repeat' split
  all_goals simp [*]

@[simp] theorem rematch_frame (b : Bay) (s : State) :
    (rematch b s).settling = s.settling ∧ (rematch b s).icu = s.icu ∧ (rematch b s).bbc = s.bbc ∧ (rematch b s).cc = s.cc
      ∧ (rematch b s).bu = s.bu ∧ (rematch b s).blc = s.blc ∧ (rematch b s).shm = s.shm ∧ (rematch b s).dl = s.dl
      ∧ (rematch b s).ts = s.ts ∧ (rematch b s).lu = s.lu ∧ (rematch b s).freeIndex = s.freeIndex ∧ (rematch b s).pending = s.pending := by
  simp only [rematch]
  repeat' split
  all_goals simp [*]

@[simp] theorem rematchAll_frame (s : State) :
    (rematchAll s).settling = s.settling ∧ (rematchAll s).icu = s.icu ∧ (rematchAll s).bu = s.bu
      ∧ (rematchAll s).blc = s.blc ∧ (rematchAll s).shm = s.shm ∧ (rematchAll s).dl = s.dl ∧ (rematchAll s).ts = s.ts
      ∧ (rematchAll s).freeIndex = s.freeIndex ∧ (rematchAll s).pending = s.pending := by
  simp only [rematchAll]
  repeat' split
  all_goals simp [*]

@[simp] theorem sessionDone_frame (b : Bay) (n : Nat) (s : State) :
    (sessionDone b n s).settling = s.settling ∧ (sessionDone b n s).icu = s.icu ∧ (sessionDone b n s).bu = s.bu
      ∧ (sessionDone b n s).blc = s.blc ∧ (sessionDone b n s).shm = s.shm ∧ (sessionDone b n s).dl = s.dl
      ∧ (sessionDone b n s).ts = s.ts ∧ (sessionDone b n s).freeIndex = s.freeIndex
      ∧ (sessionDone b n s).pending = s.pending := by
  simp only [sessionDone]
  simp [*]

@[simp] theorem sessionTelemetry_frame (b : Bay) (t : Telemetry) (s : State) :
    (sessionTelemetry b t s).settling = s.settling ∧ (sessionTelemetry b t s).icu = s.icu
      ∧ (sessionTelemetry b t s).bu = s.bu ∧ (sessionTelemetry b t s).blc = s.blc ∧ (sessionTelemetry b t s).shm = s.shm
      ∧ (sessionTelemetry b t s).dl = s.dl ∧ (sessionTelemetry b t s).ts = s.ts
      ∧ (sessionTelemetry b t s).freeIndex = s.freeIndex ∧ (sessionTelemetry b t s).pending = s.pending := by
  simp only [sessionTelemetry]
  repeat' split
  all_goals simp [*]

@[simp] theorem chargeTelemetry_frame (b : Bay) (t : Telemetry) (s : State) :
    (chargeTelemetry b t s).settling = s.settling ∧ (chargeTelemetry b t s).icu = s.icu ∧ (chargeTelemetry b t s).bu = s.bu
      ∧ (chargeTelemetry b t s).blc = s.blc ∧ (chargeTelemetry b t s).shm = s.shm ∧ (chargeTelemetry b t s).dl = s.dl
      ∧ (chargeTelemetry b t s).ts = s.ts ∧ (chargeTelemetry b t s).freeIndex = s.freeIndex
      ∧ (chargeTelemetry b t s).pending = s.pending := by
  simp only [chargeTelemetry]
  repeat' split
  all_goals simp [*]

/-! ### The power path -/

@[simp] theorem pathChanged_frame (old s : State) :
    (pathChanged old s).settling = s.settling ∧ (pathChanged old s).icu = s.icu ∧ (pathChanged old s).bbc = s.bbc
      ∧ (pathChanged old s).cc = s.cc ∧ (pathChanged old s).bu = s.bu ∧ (pathChanged old s).blc = s.blc
      ∧ (pathChanged old s).shm = s.shm ∧ (pathChanged old s).dl = s.dl ∧ (pathChanged old s).ts = s.ts
      ∧ (pathChanged old s).lu = s.lu ∧ (pathChanged old s).freeIndex = s.freeIndex
      ∧ (pathChanged old s).pending = s.pending := by
  simp only [pathChanged]
  repeat' split
  all_goals simp [*]

@[simp] theorem driveSwitch_frame (x : Source) (v : Bool) (s : State) :
    (driveSwitch x v s).settling = s.settling ∧ (driveSwitch x v s).icu = s.icu ∧ (driveSwitch x v s).bbc = s.bbc
      ∧ (driveSwitch x v s).cc = s.cc ∧ (driveSwitch x v s).bu = s.bu ∧ (driveSwitch x v s).blc = s.blc
      ∧ (driveSwitch x v s).shm = s.shm ∧ (driveSwitch x v s).dl = s.dl ∧ (driveSwitch x v s).ts = s.ts
      ∧ (driveSwitch x v s).lu = s.lu ∧ (driveSwitch x v s).delivered = s.delivered
      ∧ (driveSwitch x v s).freeIndex = s.freeIndex ∧ (driveSwitch x v s).pending = s.pending := by
  simp only [driveSwitch]
  repeat' split
  all_goals simp [*]

@[simp] theorem setSwitch_frame (x : Source) (v : Bool) (s : State) :
    (setSwitch x v s).settling = s.settling ∧ (setSwitch x v s).icu = s.icu ∧ (setSwitch x v s).bbc = s.bbc
      ∧ (setSwitch x v s).cc = s.cc ∧ (setSwitch x v s).bu = s.bu ∧ (setSwitch x v s).blc = s.blc
      ∧ (setSwitch x v s).shm = s.shm ∧ (setSwitch x v s).dl = s.dl ∧ (setSwitch x v s).ts = s.ts
      ∧ (setSwitch x v s).lu = s.lu ∧ (setSwitch x v s).freeIndex = s.freeIndex ∧ (setSwitch x v s).pending = s.pending := by
  simp only [setSwitch]
  simp [*]

@[simp] theorem feed_frame (x : Source) (s : State) :
    (feed x s).settling = s.settling ∧ (feed x s).icu = s.icu ∧ (feed x s).bu = s.bu ∧ (feed x s).blc = s.blc
      ∧ (feed x s).shm = s.shm ∧ (feed x s).dl = s.dl ∧ (feed x s).ts = s.ts ∧ (feed x s).lu = s.lu
      ∧ (feed x s).freeIndex = s.freeIndex ∧ (feed x s).pending = s.pending := by
  simp only [feed]
  repeat' split
  all_goals simp [*]

@[simp] theorem clearTarget_frame (y : Source) (s : State) :
    (clearTarget y s).settling = s.settling ∧ (clearTarget y s).icu = s.icu ∧ (clearTarget y s).bu = s.bu
      ∧ (clearTarget y s).blc = s.blc ∧ (clearTarget y s).shm = s.shm ∧ (clearTarget y s).dl = s.dl
      ∧ (clearTarget y s).ts = s.ts ∧ (clearTarget y s).freeIndex = s.freeIndex ∧ (clearTarget y s).pending = s.pending := by
  simp only [clearTarget]
  repeat' split
  all_goals simp [*]

@[simp] theorem leaveLoad_frame (x : Source) (s : State) :
    (leaveLoad x s).settling = s.settling ∧ (leaveLoad x s).icu = s.icu ∧ (leaveLoad x s).bu = s.bu
      ∧ (leaveLoad x s).blc = s.blc ∧ (leaveLoad x s).shm = s.shm ∧ (leaveLoad x s).dl = s.dl ∧ (leaveLoad x s).ts = s.ts
      ∧ (leaveLoad x s).lu = s.lu ∧ (leaveLoad x s).freeIndex = s.freeIndex ∧ (leaveLoad x s).pending = s.pending := by
  simp only [leaveLoad]
  repeat' split
  all_goals simp [*]

@[simp] theorem startTransfer_frame (x y : Source) (m : Method) (c : Cause) (s : State) :
    (startTransfer x y m c s).settling = s.settling ∧ (startTransfer x y m c s).icu = s.icu
      ∧ (startTransfer x y m c s).bu = s.bu ∧ (startTransfer x y m c s).blc = s.blc ∧ (startTransfer x y m c s).shm = s.shm
      ∧ (startTransfer x y m c s).dl = s.dl ∧ (startTransfer x y m c s).ts = s.ts
      ∧ (startTransfer x y m c s).freeIndex = s.freeIndex ∧ (startTransfer x y m c s).pending = s.pending := by
  simp only [startTransfer]
  repeat' split
  all_goals simp [*]

@[simp] theorem startGap_frame (x : Option Source) (y : Source) (c : Cause) (s : State) :
    (startGap x y c s).settling = s.settling ∧ (startGap x y c s).icu = s.icu ∧ (startGap x y c s).bbc = s.bbc
      ∧ (startGap x y c s).cc = s.cc ∧ (startGap x y c s).bu = s.bu ∧ (startGap x y c s).blc = s.blc
      ∧ (startGap x y c s).shm = s.shm ∧ (startGap x y c s).dl = s.dl ∧ (startGap x y c s).ts = s.ts
      ∧ (startGap x y c s).lu = s.lu ∧ (startGap x y c s).delivered = s.delivered
      ∧ (startGap x y c s).freeIndex = s.freeIndex ∧ (startGap x y c s).pending = s.pending := by
  simp only [startGap]
  simp [*]

@[simp] theorem dropStaleWaiting_frame (s : State) :
    (dropStaleWaiting s).settling = s.settling ∧ (dropStaleWaiting s).icu = s.icu ∧ (dropStaleWaiting s).bbc = s.bbc
      ∧ (dropStaleWaiting s).cc = s.cc ∧ (dropStaleWaiting s).bu = s.bu ∧ (dropStaleWaiting s).blc = s.blc
      ∧ (dropStaleWaiting s).shm = s.shm ∧ (dropStaleWaiting s).dl = s.dl ∧ (dropStaleWaiting s).ts = s.ts
      ∧ (dropStaleWaiting s).lu = s.lu ∧ (dropStaleWaiting s).delivered = s.delivered
      ∧ (dropStaleWaiting s).freeIndex = s.freeIndex ∧ (dropStaleWaiting s).pending = s.pending := by
  simp only [dropStaleWaiting]
  repeat' split
  all_goals simp [*]

@[simp] theorem retryWaiting_frame (s : State) :
    (retryWaiting s).1.settling = s.settling ∧ (retryWaiting s).1.icu = s.icu ∧ (retryWaiting s).1.bu = s.bu
      ∧ (retryWaiting s).1.blc = s.blc ∧ (retryWaiting s).1.shm = s.shm ∧ (retryWaiting s).1.dl = s.dl
      ∧ (retryWaiting s).1.ts = s.ts ∧ (retryWaiting s).1.freeIndex = s.freeIndex ∧ (retryWaiting s).1.pending = s.pending := by
  simp only [retryWaiting]
  repeat' split
  all_goals simp [*]

@[simp] theorem seekTransfer_frame (b : Bay) (y : Source) (c : Cause) (w : WaitCause) (s : State) :
    (seekTransfer b y c w s).settling = s.settling ∧ (seekTransfer b y c w s).icu = s.icu
      ∧ (seekTransfer b y c w s).bu = s.bu ∧ (seekTransfer b y c w s).blc = s.blc ∧ (seekTransfer b y c w s).shm = s.shm
      ∧ (seekTransfer b y c w s).dl = s.dl ∧ (seekTransfer b y c w s).ts = s.ts
      ∧ (seekTransfer b y c w s).freeIndex = s.freeIndex ∧ (seekTransfer b y c w s).pending = s.pending := by
  simp only [seekTransfer]
  repeat' split
  all_goals simp [*]

@[simp] theorem giveUpLoad_frame (b : Bay) (s : State) :
    (giveUpLoad b s).settling = s.settling ∧ (giveUpLoad b s).icu = s.icu ∧ (giveUpLoad b s).bu = s.bu
      ∧ (giveUpLoad b s).blc = s.blc ∧ (giveUpLoad b s).shm = s.shm ∧ (giveUpLoad b s).dl = s.dl
      ∧ (giveUpLoad b s).ts = s.ts ∧ (giveUpLoad b s).freeIndex = s.freeIndex ∧ (giveUpLoad b s).pending = s.pending := by
  simp only [giveUpLoad]
  repeat' split
  all_goals simp [*]

@[simp] theorem chooseSource_frame (s : State) :
    (chooseSource s).settling = s.settling ∧ (chooseSource s).icu = s.icu ∧ (chooseSource s).bu = s.bu
      ∧ (chooseSource s).blc = s.blc ∧ (chooseSource s).shm = s.shm ∧ (chooseSource s).dl = s.dl
      ∧ (chooseSource s).ts = s.ts ∧ (chooseSource s).freeIndex = s.freeIndex ∧ (chooseSource s).pending = s.pending := by
  simp only [chooseSource]
  repeat' split
  all_goals simp [*]

@[simp] theorem select_frame (s : State) :
    (select s).settling = s.settling ∧ (select s).icu = s.icu ∧ (select s).bu = s.bu ∧ (select s).blc = s.blc
      ∧ (select s).shm = s.shm ∧ (select s).dl = s.dl ∧ (select s).ts = s.ts ∧ (select s).freeIndex = s.freeIndex
      ∧ (select s).pending = s.pending := by
  have h := retryWaiting_frame (dropStaleWaiting s)
  simp only [select]
  repeat' split
  all_goals simp_all

@[simp] theorem setPending_frame (b : Bay) (v : Bool) (s : State) :
    (setPending b v s).settling = s.settling ∧ (setPending b v s).icu = s.icu ∧ (setPending b v s).bbc = s.bbc
      ∧ (setPending b v s).cc = s.cc ∧ (setPending b v s).bu = s.bu ∧ (setPending b v s).blc = s.blc
      ∧ (setPending b v s).shm = s.shm ∧ (setPending b v s).dl = s.dl ∧ (setPending b v s).ts = s.ts
      ∧ (setPending b v s).lu = s.lu ∧ (setPending b v s).delivered = s.delivered
      ∧ (setPending b v s).freeIndex = s.freeIndex ∧ (setPending b v s).pending = s.pending := by
  simp only [setPending]
  simp [*]

@[simp] theorem clearForced_frame (s : State) :
    (clearForced s).settling = s.settling ∧ (clearForced s).icu = s.icu ∧ (clearForced s).bbc = s.bbc
      ∧ (clearForced s).cc = s.cc ∧ (clearForced s).bu = s.bu ∧ (clearForced s).blc = s.blc ∧ (clearForced s).shm = s.shm
      ∧ (clearForced s).dl = s.dl ∧ (clearForced s).ts = s.ts ∧ (clearForced s).lu = s.lu
      ∧ (clearForced s).freeIndex = s.freeIndex ∧ (clearForced s).pending = s.pending := by
  simp only [clearForced]
  simp [*]

@[simp] theorem clearForcedOf_frame (b : Bay) (s : State) :
    (clearForcedOf b s).settling = s.settling ∧ (clearForcedOf b s).icu = s.icu ∧ (clearForcedOf b s).bbc = s.bbc
      ∧ (clearForcedOf b s).cc = s.cc ∧ (clearForcedOf b s).bu = s.bu ∧ (clearForcedOf b s).blc = s.blc
      ∧ (clearForcedOf b s).shm = s.shm ∧ (clearForcedOf b s).dl = s.dl ∧ (clearForcedOf b s).ts = s.ts
      ∧ (clearForcedOf b s).lu = s.lu ∧ (clearForcedOf b s).freeIndex = s.freeIndex
      ∧ (clearForcedOf b s).pending = s.pending := by
  simp only [clearForcedOf]
  repeat' split
  all_goals simp [*]

@[simp] theorem goReleased_frame (b : Bay) (s : State) :
    (goReleased b s).settling = s.settling ∧ (goReleased b s).icu = s.icu ∧ (goReleased b s).bu = s.bu
      ∧ (goReleased b s).blc = s.blc ∧ (goReleased b s).shm = s.shm ∧ (goReleased b s).dl = s.dl
      ∧ (goReleased b s).ts = s.ts ∧ (goReleased b s).freeIndex = s.freeIndex ∧ (goReleased b s).pending = s.pending := by
  simp only [goReleased]
  repeat' split
  all_goals simp [*]

@[simp] theorem seekRelease_frame (b : Bay) (s : State) :
    (seekRelease b s).1.settling = s.settling ∧ (seekRelease b s).1.icu = s.icu ∧ (seekRelease b s).1.bu = s.bu
      ∧ (seekRelease b s).1.blc = s.blc ∧ (seekRelease b s).1.shm = s.shm ∧ (seekRelease b s).1.dl = s.dl
      ∧ (seekRelease b s).1.ts = s.ts ∧ (seekRelease b s).1.freeIndex = s.freeIndex
      ∧ (seekRelease b s).1.pending = s.pending := by
  simp only [seekRelease]
  repeat' split
  all_goals simp [*]

@[simp] theorem refuseRelease_frame (b : Bay) (r : RefusalReason) (s : State) :
    (refuseRelease b r s).settling = s.settling ∧ (refuseRelease b r s).icu = s.icu ∧ (refuseRelease b r s).bbc = s.bbc
      ∧ (refuseRelease b r s).cc = s.cc ∧ (refuseRelease b r s).bu = s.bu ∧ (refuseRelease b r s).blc = s.blc
      ∧ (refuseRelease b r s).shm = s.shm ∧ (refuseRelease b r s).dl = s.dl ∧ (refuseRelease b r s).ts = s.ts
      ∧ (refuseRelease b r s).delivered = s.delivered ∧ (refuseRelease b r s).freeIndex = s.freeIndex
      ∧ (refuseRelease b r s).pending = s.pending := by
  simp only [refuseRelease]
  repeat' split
  all_goals simp [*]

@[simp] theorem turnIntoRelease_frame (b : Bay) (s : State) :
    (turnIntoRelease b s).settling = s.settling ∧ (turnIntoRelease b s).icu = s.icu ∧ (turnIntoRelease b s).bu = s.bu
      ∧ (turnIntoRelease b s).blc = s.blc ∧ (turnIntoRelease b s).shm = s.shm ∧ (turnIntoRelease b s).dl = s.dl
      ∧ (turnIntoRelease b s).ts = s.ts ∧ (turnIntoRelease b s).lu = s.lu ∧ (turnIntoRelease b s).freeIndex = s.freeIndex
      ∧ (turnIntoRelease b s).pending = s.pending := by
  simp only [turnIntoRelease]
  repeat' split
  all_goals simp [*]

@[simp] theorem releaseSupplying_frame (b : Bay) (s : State) :
    (releaseSupplying b s).1.settling = s.settling ∧ (releaseSupplying b s).1.icu = s.icu
      ∧ (releaseSupplying b s).1.bu = s.bu ∧ (releaseSupplying b s).1.blc = s.blc ∧ (releaseSupplying b s).1.shm = s.shm
      ∧ (releaseSupplying b s).1.dl = s.dl ∧ (releaseSupplying b s).1.ts = s.ts
      ∧ (releaseSupplying b s).1.freeIndex = s.freeIndex ∧ (releaseSupplying b s).1.pending = s.pending := by
  have h := seekRelease_frame b s
  simp only [releaseSupplying]
  repeat' split
  all_goals simp_all

@[simp] theorem releaseCharging_frame (b : Bay) (s : State) :
    (releaseCharging b s).settling = s.settling ∧ (releaseCharging b s).icu = s.icu ∧ (releaseCharging b s).bu = s.bu
      ∧ (releaseCharging b s).blc = s.blc ∧ (releaseCharging b s).shm = s.shm ∧ (releaseCharging b s).dl = s.dl
      ∧ (releaseCharging b s).ts = s.ts ∧ (releaseCharging b s).freeIndex = s.freeIndex
      ∧ (releaseCharging b s).pending = s.pending := by
  simp only [releaseCharging]
  simp [*]

@[simp] theorem releaseRequest_frame (b : Bay) (s : State) :
    (releaseRequest b s).1.settling = s.settling ∧ (releaseRequest b s).1.icu = s.icu ∧ (releaseRequest b s).1.bu = s.bu
      ∧ (releaseRequest b s).1.blc = s.blc ∧ (releaseRequest b s).1.shm = s.shm ∧ (releaseRequest b s).1.dl = s.dl
      ∧ (releaseRequest b s).1.ts = s.ts ∧ (releaseRequest b s).1.freeIndex = s.freeIndex
      ∧ (releaseRequest b s).1.pending = s.pending := by
  simp only [releaseRequest]
  repeat' split
  all_goals simp [*]

@[simp] theorem evaluatePending_frame (b : Bay) (s : State) :
    (evaluatePending b s).settling = s.settling ∧ (evaluatePending b s).icu = s.icu ∧ (evaluatePending b s).bu = s.bu
      ∧ (evaluatePending b s).blc = s.blc ∧ (evaluatePending b s).shm = s.shm ∧ (evaluatePending b s).dl = s.dl
      ∧ (evaluatePending b s).ts = s.ts ∧ (evaluatePending b s).freeIndex = s.freeIndex
      ∧ (evaluatePending b s).pending = s.pending := by
  simp only [evaluatePending]
  repeat' split
  all_goals simp [*]

@[simp] theorem freeOrder_frame (s : State) :
    (freeOrder s).2.settling = s.settling ∧ (freeOrder s).2.icu = s.icu ∧ (freeOrder s).2.ppc = s.ppc
      ∧ (freeOrder s).2.bbc = s.bbc ∧ (freeOrder s).2.cc = s.cc ∧ (freeOrder s).2.bu = s.bu ∧ (freeOrder s).2.blc = s.blc
      ∧ (freeOrder s).2.shm = s.shm ∧ (freeOrder s).2.dl = s.dl ∧ (freeOrder s).2.ts = s.ts ∧ (freeOrder s).2.lu = s.lu
      ∧ (freeOrder s).2.delivered = s.delivered ∧ (freeOrder s).2.pending = s.pending := by
  simp only [freeOrder]
  simp [*]

@[simp] theorem evaluatePendings_frame (s : State) :
    (evaluatePendings s).settling = s.settling ∧ (evaluatePendings s).icu = s.icu ∧ (evaluatePendings s).bu = s.bu
      ∧ (evaluatePendings s).blc = s.blc ∧ (evaluatePendings s).shm = s.shm ∧ (evaluatePendings s).dl = s.dl
      ∧ (evaluatePendings s).ts = s.ts ∧ (evaluatePendings s).pending = s.pending := by
  simp only [evaluatePendings]
  repeat' split
  all_goals simp [*]

@[simp] theorem graceTest_frame (s : State) :
    (graceTest s).settling = s.settling ∧ (graceTest s).icu = s.icu ∧ (graceTest s).bu = s.bu ∧ (graceTest s).blc = s.blc
      ∧ (graceTest s).shm = s.shm ∧ (graceTest s).dl = s.dl ∧ (graceTest s).ts = s.ts
      ∧ (graceTest s).freeIndex = s.freeIndex ∧ (graceTest s).pending = s.pending := by
  simp only [graceTest]
  repeat' split
  all_goals simp [*]

@[simp] theorem graceTestFor_frame (b : Bay) (s : State) :
    (graceTestFor b s).settling = s.settling ∧ (graceTestFor b s).icu = s.icu ∧ (graceTestFor b s).bu = s.bu
      ∧ (graceTestFor b s).blc = s.blc ∧ (graceTestFor b s).shm = s.shm ∧ (graceTestFor b s).dl = s.dl
      ∧ (graceTestFor b s).ts = s.ts ∧ (graceTestFor b s).freeIndex = s.freeIndex ∧ (graceTestFor b s).pending = s.pending := by
  simp only [graceTestFor]
  repeat' split
  all_goals simp [*]

@[simp] theorem graceLeft_frame (s : State) :
    (graceLeft s).settling = s.settling ∧ (graceLeft s).icu = s.icu ∧ (graceLeft s).bu = s.bu ∧ (graceLeft s).blc = s.blc
      ∧ (graceLeft s).shm = s.shm ∧ (graceLeft s).dl = s.dl ∧ (graceLeft s).ts = s.ts
      ∧ (graceLeft s).freeIndex = s.freeIndex ∧ (graceLeft s).pending = s.pending := by
  simp only [graceLeft]
  repeat' split
  all_goals simp [*]

@[simp] theorem selectSource_frame (s : State) :
    (selectSource s).settling = s.settling ∧ (selectSource s).icu = s.icu ∧ (selectSource s).bu = s.bu
      ∧ (selectSource s).blc = s.blc ∧ (selectSource s).shm = s.shm ∧ (selectSource s).dl = s.dl
      ∧ (selectSource s).ts = s.ts ∧ (selectSource s).freeIndex = s.freeIndex ∧ (selectSource s).pending = s.pending := by
  simp only [selectSource]
  simp [*]

@[simp] theorem becameStandby_frame (b : Bay) (s : State) :
    (becameStandby b s).settling = s.settling ∧ (becameStandby b s).icu = s.icu ∧ (becameStandby b s).bu = s.bu
      ∧ (becameStandby b s).blc = s.blc ∧ (becameStandby b s).shm = s.shm ∧ (becameStandby b s).dl = s.dl
      ∧ (becameStandby b s).ts = s.ts ∧ (becameStandby b s).freeIndex = s.freeIndex
      ∧ (becameStandby b s).pending = s.pending := by
  simp only [becameStandby]
  simp [*]

@[simp] theorem endTransfer_frame (c : Bool) (s : State) :
    (endTransfer c s).settling = s.settling ∧ (endTransfer c s).icu = s.icu ∧ (endTransfer c s).bu = s.bu
      ∧ (endTransfer c s).blc = s.blc ∧ (endTransfer c s).shm = s.shm ∧ (endTransfer c s).dl = s.dl
      ∧ (endTransfer c s).ts = s.ts ∧ (endTransfer c s).pending = s.pending := by
  simp only [endTransfer]
  repeat' split
  all_goals simp [*]

@[simp] theorem sourceEnds_frame (x : Option Source) (s : State) :
    (sourceEnds x s).settling = s.settling ∧ (sourceEnds x s).icu = s.icu ∧ (sourceEnds x s).bu = s.bu
      ∧ (sourceEnds x s).blc = s.blc ∧ (sourceEnds x s).shm = s.shm ∧ (sourceEnds x s).dl = s.dl
      ∧ (sourceEnds x s).ts = s.ts ∧ (sourceEnds x s).freeIndex = s.freeIndex ∧ (sourceEnds x s).pending = s.pending := by
  simp only [sourceEnds]
  repeat' split
  all_goals simp [*]

@[simp] theorem openSource_frame (x : Option Source) (s : State) :
    (openSource x s).settling = s.settling ∧ (openSource x s).icu = s.icu ∧ (openSource x s).bbc = s.bbc
      ∧ (openSource x s).cc = s.cc ∧ (openSource x s).bu = s.bu ∧ (openSource x s).blc = s.blc
      ∧ (openSource x s).shm = s.shm ∧ (openSource x s).dl = s.dl ∧ (openSource x s).ts = s.ts ∧ (openSource x s).lu = s.lu
      ∧ (openSource x s).freeIndex = s.freeIndex ∧ (openSource x s).pending = s.pending := by
  simp only [openSource]
  repeat' split
  all_goals simp [*]

@[simp] theorem completeOverlap_frame (t : Transfer) (s : State) :
    (completeOverlap t s).settling = s.settling ∧ (completeOverlap t s).icu = s.icu ∧ (completeOverlap t s).bu = s.bu
      ∧ (completeOverlap t s).blc = s.blc ∧ (completeOverlap t s).shm = s.shm ∧ (completeOverlap t s).dl = s.dl
      ∧ (completeOverlap t s).ts = s.ts ∧ (completeOverlap t s).pending = s.pending := by
  simp only [completeOverlap]
  simp [*]

@[simp] theorem completeBridge_frame (t : Transfer) (s : State) :
    (completeBridge t s).settling = s.settling ∧ (completeBridge t s).icu = s.icu ∧ (completeBridge t s).bu = s.bu
      ∧ (completeBridge t s).blc = s.blc ∧ (completeBridge t s).shm = s.shm ∧ (completeBridge t s).dl = s.dl
      ∧ (completeBridge t s).ts = s.ts ∧ (completeBridge t s).pending = s.pending := by
  simp only [completeBridge]
  repeat' split
  all_goals simp [*]

@[simp] theorem unplannedTransfer_frame (x : Source) (c : Cause) (s : State) :
    (unplannedTransfer x c s).settling = s.settling ∧ (unplannedTransfer x c s).icu = s.icu
      ∧ (unplannedTransfer x c s).bu = s.bu ∧ (unplannedTransfer x c s).blc = s.blc ∧ (unplannedTransfer x c s).shm = s.shm
      ∧ (unplannedTransfer x c s).dl = s.dl ∧ (unplannedTransfer x c s).ts = s.ts
      ∧ (unplannedTransfer x c s).freeIndex = s.freeIndex ∧ (unplannedTransfer x c s).pending = s.pending := by
  simp only [unplannedTransfer]
  repeat' split
  all_goals simp [*]

@[simp] theorem releaseAgain_frame (b : Bay) (s : State) :
    (releaseAgain b s).settling = s.settling ∧ (releaseAgain b s).icu = s.icu ∧ (releaseAgain b s).bu = s.bu
      ∧ (releaseAgain b s).blc = s.blc ∧ (releaseAgain b s).shm = s.shm ∧ (releaseAgain b s).dl = s.dl
      ∧ (releaseAgain b s).ts = s.ts ∧ (releaseAgain b s).freeIndex = s.freeIndex ∧ (releaseAgain b s).pending = s.pending := by
  have h := seekRelease_frame b s
  simp only [releaseAgain]
  repeat' split
  all_goals simp_all

@[simp] theorem retarget_frame (t : Transfer) (y : Source) (c : Cause) (s : State) :
    (retarget t y c s).settling = s.settling ∧ (retarget t y c s).icu = s.icu ∧ (retarget t y c s).bbc = s.bbc
      ∧ (retarget t y c s).cc = s.cc ∧ (retarget t y c s).bu = s.bu ∧ (retarget t y c s).blc = s.blc
      ∧ (retarget t y c s).shm = s.shm ∧ (retarget t y c s).dl = s.dl ∧ (retarget t y c s).ts = s.ts
      ∧ (retarget t y c s).lu = s.lu ∧ (retarget t y c s).delivered = s.delivered
      ∧ (retarget t y c s).freeIndex = s.freeIndex ∧ (retarget t y c s).pending = s.pending := by
  simp only [retarget]
  repeat' split
  all_goals simp [*]

@[simp] theorem targetLost_frame (c : Cause) (s : State) :
    (targetLost c s).settling = s.settling ∧ (targetLost c s).icu = s.icu ∧ (targetLost c s).bu = s.bu
      ∧ (targetLost c s).blc = s.blc ∧ (targetLost c s).shm = s.shm ∧ (targetLost c s).dl = s.dl
      ∧ (targetLost c s).ts = s.ts ∧ (targetLost c s).pending = s.pending := by
  simp only [targetLost]
  repeat' split
  all_goals simp [*]

@[simp] theorem openAllSwitches_frame (s : State) :
    (openAllSwitches s).settling = s.settling ∧ (openAllSwitches s).icu = s.icu ∧ (openAllSwitches s).bbc = s.bbc
      ∧ (openAllSwitches s).cc = s.cc ∧ (openAllSwitches s).bu = s.bu ∧ (openAllSwitches s).blc = s.blc
      ∧ (openAllSwitches s).shm = s.shm ∧ (openAllSwitches s).dl = s.dl ∧ (openAllSwitches s).ts = s.ts
      ∧ (openAllSwitches s).lu = s.lu ∧ (openAllSwitches s).delivered = s.delivered
      ∧ (openAllSwitches s).freeIndex = s.freeIndex ∧ (openAllSwitches s).pending = s.pending := by
  simp only [openAllSwitches]
  simp [*]

@[simp] theorem setDown_frame (b : Bay) (s : State) :
    (setDown b s).settling = s.settling ∧ (setDown b s).icu = s.icu ∧ (setDown b s).bu = s.bu ∧ (setDown b s).blc = s.blc
      ∧ (setDown b s).shm = s.shm ∧ (setDown b s).dl = s.dl ∧ (setDown b s).ts = s.ts
      ∧ (setDown b s).freeIndex = s.freeIndex ∧ (setDown b s).pending = s.pending := by
  simp only [setDown]
  repeat' split
  all_goals simp [*]

@[simp] theorem releaseReleasing_frame (b : Bay) (s : State) :
    (releaseReleasing b s).settling = s.settling ∧ (releaseReleasing b s).icu = s.icu ∧ (releaseReleasing b s).bu = s.bu
      ∧ (releaseReleasing b s).blc = s.blc ∧ (releaseReleasing b s).shm = s.shm ∧ (releaseReleasing b s).dl = s.dl
      ∧ (releaseReleasing b s).ts = s.ts ∧ (releaseReleasing b s).freeIndex = s.freeIndex
      ∧ (releaseReleasing b s).pending = s.pending := by
  simp only [releaseReleasing]
  repeat' split
  all_goals simp [*]

@[simp] theorem railOff_frame (r : OffReason) (s : State) :
    (railOff r s).settling = s.settling ∧ (railOff r s).icu = s.icu ∧ (railOff r s).bu = s.bu ∧ (railOff r s).blc = s.blc
      ∧ (railOff r s).shm = s.shm ∧ (railOff r s).dl = s.dl ∧ (railOff r s).ts = s.ts ∧ (railOff r s).pending = s.pending := by
  simp only [railOff]
  simp [*]

@[simp] theorem railOffReleasing_frame (r : OffReason) (s : State) :
    (railOffReleasing r s).settling = s.settling ∧ (railOffReleasing r s).icu = s.icu ∧ (railOffReleasing r s).bu = s.bu
      ∧ (railOffReleasing r s).blc = s.blc ∧ (railOffReleasing r s).shm = s.shm ∧ (railOffReleasing r s).dl = s.dl
      ∧ (railOffReleasing r s).ts = s.ts ∧ (railOffReleasing r s).pending = s.pending := by
  simp only [railOffReleasing]
  repeat' split
  all_goals simp [*]

@[simp] theorem bridgeExpired_frame (s : State) :
    (bridgeExpired s).settling = s.settling ∧ (bridgeExpired s).icu = s.icu ∧ (bridgeExpired s).bu = s.bu
      ∧ (bridgeExpired s).blc = s.blc ∧ (bridgeExpired s).shm = s.shm ∧ (bridgeExpired s).dl = s.dl
      ∧ (bridgeExpired s).ts = s.ts ∧ (bridgeExpired s).pending = s.pending := by
  simp only [bridgeExpired]
  repeat' split
  all_goals simp [*]

@[simp] theorem forcedRemoval_frame (b : Bay) (s : State) :
    (forcedRemoval b s).settling = s.settling ∧ (forcedRemoval b s).icu = s.icu ∧ (forcedRemoval b s).bu = s.bu
      ∧ (forcedRemoval b s).blc = s.blc ∧ (forcedRemoval b s).shm = s.shm ∧ (forcedRemoval b s).dl = s.dl
      ∧ (forcedRemoval b s).ts = s.ts ∧ (forcedRemoval b s).pending = s.pending := by
  simp only [forcedRemoval]
  repeat' split
  all_goals simp [*]

@[simp] theorem dcArrived_frame (s : State) :
    (dcArrived s).settling = s.settling ∧ (dcArrived s).icu = s.icu ∧ (dcArrived s).bu = s.bu ∧ (dcArrived s).blc = s.blc
      ∧ (dcArrived s).shm = s.shm ∧ (dcArrived s).dl = s.dl ∧ (dcArrived s).ts = s.ts
      ∧ (dcArrived s).freeIndex = s.freeIndex ∧ (dcArrived s).pending = s.pending := by
  simp only [dcArrived]
  simp [*]

@[simp] theorem dcGone_frame (s : State) :
    (dcGone s).settling = s.settling ∧ (dcGone s).icu = s.icu ∧ (dcGone s).bu = s.bu ∧ (dcGone s).blc = s.blc
      ∧ (dcGone s).shm = s.shm ∧ (dcGone s).dl = s.dl ∧ (dcGone s).ts = s.ts ∧ (dcGone s).pending = s.pending := by
  simp only [dcGone]
  repeat' split
  all_goals simp [*]

/-! ### Bays -/

@[simp] theorem presRose_frame (b : Bay) (s : State) :
    (presRose b s).settling = s.settling ∧ (presRose b s).icu = s.icu ∧ (presRose b s).bu = s.bu
      ∧ (presRose b s).blc = s.blc ∧ (presRose b s).shm = s.shm ∧ (presRose b s).dl = s.dl ∧ (presRose b s).ts = s.ts
      ∧ (presRose b s).freeIndex = s.freeIndex ∧ (presRose b s).pending = s.pending := by
  simp only [presRose]
  repeat' split
  all_goals simp [*]

@[simp] theorem returnToStandby_frame (b : Bay) (s : State) :
    (returnToStandby b s).settling = s.settling ∧ (returnToStandby b s).icu = s.icu ∧ (returnToStandby b s).bu = s.bu
      ∧ (returnToStandby b s).blc = s.blc ∧ (returnToStandby b s).shm = s.shm ∧ (returnToStandby b s).dl = s.dl
      ∧ (returnToStandby b s).ts = s.ts ∧ (returnToStandby b s).freeIndex = s.freeIndex
      ∧ (returnToStandby b s).pending = s.pending := by
  simp only [returnToStandby]
  simp [*]

@[simp] theorem latchRose_frame (b : Bay) (s : State) :
    (latchRose b s).settling = s.settling ∧ (latchRose b s).icu = s.icu ∧ (latchRose b s).bu = s.bu
      ∧ (latchRose b s).blc = s.blc ∧ (latchRose b s).shm = s.shm ∧ (latchRose b s).dl = s.dl ∧ (latchRose b s).ts = s.ts
      ∧ (latchRose b s).freeIndex = s.freeIndex ∧ (latchRose b s).pending = s.pending := by
  simp only [latchRose]
  repeat' split
  all_goals simp [*]

@[simp] theorem latchFell_frame (b : Bay) (s : State) :
    (latchFell b s).settling = s.settling ∧ (latchFell b s).icu = s.icu ∧ (latchFell b s).bu = s.bu
      ∧ (latchFell b s).blc = s.blc ∧ (latchFell b s).shm = s.shm ∧ (latchFell b s).dl = s.dl ∧ (latchFell b s).ts = s.ts
      ∧ (latchFell b s).freeIndex = s.freeIndex ∧ (latchFell b s).pending = s.pending := by
  simp only [latchFell]
  repeat' split
  all_goals simp [*]

@[simp] theorem plainRemoval_frame (b : Bay) (s : State) :
    (plainRemoval b s).settling = s.settling ∧ (plainRemoval b s).icu = s.icu ∧ (plainRemoval b s).bu = s.bu
      ∧ (plainRemoval b s).blc = s.blc ∧ (plainRemoval b s).shm = s.shm ∧ (plainRemoval b s).dl = s.dl
      ∧ (plainRemoval b s).ts = s.ts ∧ (plainRemoval b s).pending = s.pending := by
  simp only [plainRemoval]
  repeat' split
  all_goals simp [*]

@[simp] theorem presFell_frame (b : Bay) (s : State) :
    (presFell b s).settling = s.settling ∧ (presFell b s).icu = s.icu ∧ (presFell b s).bu = s.bu
      ∧ (presFell b s).blc = s.blc ∧ (presFell b s).shm = s.shm ∧ (presFell b s).dl = s.dl ∧ (presFell b s).ts = s.ts
      ∧ (presFell b s).pending = s.pending := by
  simp only [presFell]
  repeat' split
  all_goals simp [*]

@[simp] theorem runHoldTimer_frame (b : Bay) (s : State) :
    (runHoldTimer b s).settling = s.settling ∧ (runHoldTimer b s).icu = s.icu ∧ (runHoldTimer b s).bbc = s.bbc
      ∧ (runHoldTimer b s).cc = s.cc ∧ (runHoldTimer b s).bu = s.bu ∧ (runHoldTimer b s).blc = s.blc
      ∧ (runHoldTimer b s).shm = s.shm ∧ (runHoldTimer b s).dl = s.dl ∧ (runHoldTimer b s).ts = s.ts
      ∧ (runHoldTimer b s).lu = s.lu ∧ (runHoldTimer b s).delivered = s.delivered
      ∧ (runHoldTimer b s).freeIndex = s.freeIndex ∧ (runHoldTimer b s).pending = s.pending := by
  simp only [runHoldTimer]
  repeat' split
  all_goals simp [*]

@[simp] theorem relRose_frame (b : Bay) (s : State) :
    (relRose b s).settling = s.settling ∧ (relRose b s).icu = s.icu ∧ (relRose b s).bu = s.bu ∧ (relRose b s).blc = s.blc
      ∧ (relRose b s).shm = s.shm ∧ (relRose b s).dl = s.dl ∧ (relRose b s).ts = s.ts
      ∧ (relRose b s).freeIndex = s.freeIndex ∧ (relRose b s).pending = s.pending := by
  simp only [relRose]
  simp [*]

@[simp] theorem endRefusal_frame (b : Bay) (s : State) :
    (endRefusal b s).settling = s.settling ∧ (endRefusal b s).icu = s.icu ∧ (endRefusal b s).bbc = s.bbc
      ∧ (endRefusal b s).cc = s.cc ∧ (endRefusal b s).bu = s.bu ∧ (endRefusal b s).blc = s.blc
      ∧ (endRefusal b s).shm = s.shm ∧ (endRefusal b s).dl = s.dl ∧ (endRefusal b s).ts = s.ts ∧ (endRefusal b s).lu = s.lu
      ∧ (endRefusal b s).delivered = s.delivered ∧ (endRefusal b s).freeIndex = s.freeIndex
      ∧ (endRefusal b s).pending = s.pending := by
  simp only [endRefusal]
  simp [*]

@[simp] theorem fillForced_frame (b : Bay) (s : State) :
    (fillForced b s).settling = s.settling ∧ (fillForced b s).icu = s.icu ∧ (fillForced b s).bbc = s.bbc
      ∧ (fillForced b s).cc = s.cc ∧ (fillForced b s).bu = s.bu ∧ (fillForced b s).blc = s.blc
      ∧ (fillForced b s).shm = s.shm ∧ (fillForced b s).dl = s.dl ∧ (fillForced b s).ts = s.ts
      ∧ (fillForced b s).freeIndex = s.freeIndex ∧ (fillForced b s).pending = s.pending := by
  simp only [fillForced]
  simp [*]

@[simp] theorem holdExpired_frame (b : Bay) (s : State) :
    (holdExpired b s).settling = s.settling ∧ (holdExpired b s).icu = s.icu ∧ (holdExpired b s).bbc = s.bbc
      ∧ (holdExpired b s).cc = s.cc ∧ (holdExpired b s).bu = s.bu ∧ (holdExpired b s).blc = s.blc
      ∧ (holdExpired b s).shm = s.shm ∧ (holdExpired b s).dl = s.dl ∧ (holdExpired b s).ts = s.ts
      ∧ (holdExpired b s).freeIndex = s.freeIndex ∧ (holdExpired b s).pending = s.pending := by
  simp only [holdExpired]
  repeat' split
  all_goals simp [*]

@[simp] theorem graceExpired_frame (s : State) :
    (graceExpired s).settling = s.settling ∧ (graceExpired s).icu = s.icu ∧ (graceExpired s).bu = s.bu
      ∧ (graceExpired s).blc = s.blc ∧ (graceExpired s).shm = s.shm ∧ (graceExpired s).dl = s.dl
      ∧ (graceExpired s).ts = s.ts ∧ (graceExpired s).pending = s.pending := by
  simp only [graceExpired]
  repeat' split
  all_goals simp [*]

@[simp] theorem relock_frame (b : Bay) (s : State) :
    (relock b s).settling = s.settling ∧ (relock b s).icu = s.icu ∧ (relock b s).bu = s.bu ∧ (relock b s).blc = s.blc
      ∧ (relock b s).shm = s.shm ∧ (relock b s).dl = s.dl ∧ (relock b s).ts = s.ts ∧ (relock b s).freeIndex = s.freeIndex
      ∧ (relock b s).pending = s.pending := by
  simp only [relock]
  repeat' split
  all_goals simp [*]

@[simp] theorem lapseExpired_frame (b : Bay) (s : State) :
    (lapseExpired b s).settling = s.settling ∧ (lapseExpired b s).icu = s.icu ∧ (lapseExpired b s).bu = s.bu
      ∧ (lapseExpired b s).blc = s.blc ∧ (lapseExpired b s).shm = s.shm ∧ (lapseExpired b s).dl = s.dl
      ∧ (lapseExpired b s).ts = s.ts ∧ (lapseExpired b s).freeIndex = s.freeIndex ∧ (lapseExpired b s).pending = s.pending := by
  simp only [lapseExpired]
  repeat' split
  all_goals simp [*]

@[simp] theorem holdRefusal_frame (b : Bay) (s : State) :
    (holdRefusal b s).settling = s.settling ∧ (holdRefusal b s).icu = s.icu ∧ (holdRefusal b s).bbc = s.bbc
      ∧ (holdRefusal b s).cc = s.cc ∧ (holdRefusal b s).bu = s.bu ∧ (holdRefusal b s).blc = s.blc
      ∧ (holdRefusal b s).shm = s.shm ∧ (holdRefusal b s).dl = s.dl ∧ (holdRefusal b s).ts = s.ts
      ∧ (holdRefusal b s).lu = s.lu ∧ (holdRefusal b s).delivered = s.delivered ∧ (holdRefusal b s).freeIndex = s.freeIndex
      ∧ (holdRefusal b s).pending = s.pending := by
  simp only [holdRefusal]
  repeat' split
  all_goals simp [*]

@[simp] theorem holdStarted_frame (s : State) :
    (holdStarted s).settling = s.settling ∧ (holdStarted s).icu = s.icu ∧ (holdStarted s).bbc = s.bbc
      ∧ (holdStarted s).cc = s.cc ∧ (holdStarted s).bu = s.bu ∧ (holdStarted s).blc = s.blc ∧ (holdStarted s).shm = s.shm
      ∧ (holdStarted s).dl = s.dl ∧ (holdStarted s).ts = s.ts ∧ (holdStarted s).lu = s.lu
      ∧ (holdStarted s).delivered = s.delivered ∧ (holdStarted s).freeIndex = s.freeIndex
      ∧ (holdStarted s).pending = s.pending := by
  simp only [holdStarted]
  simp [*]

@[simp] theorem holdEnded_frame (s : State) :
    (holdEnded s).settling = s.settling ∧ (holdEnded s).icu = s.icu ∧ (holdEnded s).bu = s.bu ∧ (holdEnded s).blc = s.blc
      ∧ (holdEnded s).shm = s.shm ∧ (holdEnded s).dl = s.dl ∧ (holdEnded s).ts = s.ts ∧ (holdEnded s).pending = s.pending := by
  simp only [holdEnded]
  simp [*]

@[simp] theorem faultBay_frame (b : Bay) (r : FaultReason) (s : State) :
    (faultBay b r s).settling = s.settling ∧ (faultBay b r s).icu = s.icu ∧ (faultBay b r s).bu = s.bu
      ∧ (faultBay b r s).blc = s.blc ∧ (faultBay b r s).shm = s.shm ∧ (faultBay b r s).dl = s.dl
      ∧ (faultBay b r s).ts = s.ts ∧ (faultBay b r s).freeIndex = s.freeIndex ∧ (faultBay b r s).pending = s.pending := by
  simp only [faultBay]
  simp [*]

@[simp] theorem adoptPack_frame (b : Bay) (id : Identity) (t : Telemetry) (s : State) :
    (adoptPack b id t s).settling = s.settling ∧ (adoptPack b id t s).icu = s.icu ∧ (adoptPack b id t s).bbc = s.bbc
      ∧ (adoptPack b id t s).bu = s.bu ∧ (adoptPack b id t s).blc = s.blc ∧ (adoptPack b id t s).shm = s.shm
      ∧ (adoptPack b id t s).dl = s.dl ∧ (adoptPack b id t s).ts = s.ts ∧ (adoptPack b id t s).lu = s.lu
      ∧ (adoptPack b id t s).delivered = s.delivered ∧ (adoptPack b id t s).freeIndex = s.freeIndex
      ∧ (adoptPack b id t s).pending = s.pending := by
  simp only [adoptPack]
  simp [*]

@[simp] theorem identified_frame (b : Bay) (id : Identity) (t : Telemetry) (s : State) :
    (identified b id t s).settling = s.settling ∧ (identified b id t s).icu = s.icu ∧ (identified b id t s).bu = s.bu
      ∧ (identified b id t s).blc = s.blc ∧ (identified b id t s).shm = s.shm ∧ (identified b id t s).dl = s.dl
      ∧ (identified b id t s).ts = s.ts ∧ (identified b id t s).freeIndex = s.freeIndex
      ∧ (identified b id t s).pending = s.pending := by
  simp only [identified]
  repeat' split
  all_goals simp [*]

@[simp] theorem identificationEnded_frame (b : Bay) (o : IdOutcome) (s : State) :
    (identificationEnded b o s).settling = s.settling ∧ (identificationEnded b o s).icu = s.icu
      ∧ (identificationEnded b o s).bu = s.bu ∧ (identificationEnded b o s).blc = s.blc
      ∧ (identificationEnded b o s).shm = s.shm ∧ (identificationEnded b o s).dl = s.dl
      ∧ (identificationEnded b o s).ts = s.ts ∧ (identificationEnded b o s).freeIndex = s.freeIndex
      ∧ (identificationEnded b o s).pending = s.pending := by
  simp only [identificationEnded]
  repeat' split
  all_goals simp [*]

@[simp] theorem alarmSet_frame (b : Bay) (s : State) :
    (alarmSet b s).settling = s.settling ∧ (alarmSet b s).icu = s.icu ∧ (alarmSet b s).bu = s.bu
      ∧ (alarmSet b s).blc = s.blc ∧ (alarmSet b s).shm = s.shm ∧ (alarmSet b s).dl = s.dl ∧ (alarmSet b s).ts = s.ts
      ∧ (alarmSet b s).freeIndex = s.freeIndex ∧ (alarmSet b s).pending = s.pending := by
  simp only [alarmSet]
  repeat' split
  all_goals simp [*]

@[simp] theorem alarmCleared_frame (b : Bay) (s : State) :
    (alarmCleared b s).settling = s.settling ∧ (alarmCleared b s).icu = s.icu ∧ (alarmCleared b s).bu = s.bu
      ∧ (alarmCleared b s).blc = s.blc ∧ (alarmCleared b s).shm = s.shm ∧ (alarmCleared b s).dl = s.dl
      ∧ (alarmCleared b s).ts = s.ts ∧ (alarmCleared b s).freeIndex = s.freeIndex ∧ (alarmCleared b s).pending = s.pending := by
  simp only [alarmCleared]
  repeat' split
  all_goals simp [*]

@[simp] theorem takeAlarms_frame (b : Bay) (t : Telemetry) (s : State) :
    (takeAlarms b t s).settling = s.settling ∧ (takeAlarms b t s).icu = s.icu ∧ (takeAlarms b t s).bu = s.bu
      ∧ (takeAlarms b t s).blc = s.blc ∧ (takeAlarms b t s).shm = s.shm ∧ (takeAlarms b t s).dl = s.dl
      ∧ (takeAlarms b t s).ts = s.ts ∧ (takeAlarms b t s).freeIndex = s.freeIndex ∧ (takeAlarms b t s).pending = s.pending := by
  simp only [takeAlarms]
  repeat' split
  all_goals simp [*]

@[simp] theorem pathTelemetry_frame (b : Bay) (t : Telemetry) (s : State) :
    (pathTelemetry b t s).settling = s.settling ∧ (pathTelemetry b t s).icu = s.icu ∧ (pathTelemetry b t s).bu = s.bu
      ∧ (pathTelemetry b t s).blc = s.blc ∧ (pathTelemetry b t s).shm = s.shm ∧ (pathTelemetry b t s).dl = s.dl
      ∧ (pathTelemetry b t s).ts = s.ts ∧ (pathTelemetry b t s).freeIndex = s.freeIndex
      ∧ (pathTelemetry b t s).pending = s.pending := by
  simp only [pathTelemetry]
  repeat' split
  all_goals simp [*]

@[simp] theorem reserveReady_frame (s : State) :
    (reserveReady s).settling = s.settling ∧ (reserveReady s).icu = s.icu ∧ (reserveReady s).bu = s.bu
      ∧ (reserveReady s).blc = s.blc ∧ (reserveReady s).shm = s.shm ∧ (reserveReady s).dl = s.dl
      ∧ (reserveReady s).ts = s.ts ∧ (reserveReady s).freeIndex = s.freeIndex ∧ (reserveReady s).pending = s.pending := by
  simp only [reserveReady]
  repeat' split
  all_goals simp [*]

@[simp] theorem storeReadings_frame (vdc va vb vres : Nat) (s : State) :
    (storeReadings vdc va vb vres s).settling = s.settling ∧ (storeReadings vdc va vb vres s).icu = s.icu
      ∧ (storeReadings vdc va vb vres s).bbc = s.bbc ∧ (storeReadings vdc va vb vres s).cc = s.cc
      ∧ (storeReadings vdc va vb vres s).bu = s.bu ∧ (storeReadings vdc va vb vres s).blc = s.blc
      ∧ (storeReadings vdc va vb vres s).shm = s.shm ∧ (storeReadings vdc va vb vres s).dl = s.dl
      ∧ (storeReadings vdc va vb vres s).ts = s.ts ∧ (storeReadings vdc va vb vres s).lu = s.lu
      ∧ (storeReadings vdc va vb vres s).delivered = s.delivered ∧ (storeReadings vdc va vb vres s).freeIndex = s.freeIndex
      ∧ (storeReadings vdc va vb vres s).pending = s.pending := by
  simp only [storeReadings]
  simp [*]

@[simp] theorem takePresence_frame (s : State) :
    (takePresence s).settling = s.settling ∧ (takePresence s).icu = s.icu ∧ (takePresence s).bu = s.bu
      ∧ (takePresence s).blc = s.blc ∧ (takePresence s).shm = s.shm ∧ (takePresence s).dl = s.dl
      ∧ (takePresence s).ts = s.ts ∧ (takePresence s).pending = s.pending := by
  simp only [takePresence]
  repeat' split
  all_goals simp [*]

@[simp] theorem monitorReading_frame (vdc va vb vres : Nat) (s : State) :
    (monitorReading vdc va vb vres s).settling = s.settling ∧ (monitorReading vdc va vb vres s).icu = s.icu
      ∧ (monitorReading vdc va vb vres s).bu = s.bu ∧ (monitorReading vdc va vb vres s).blc = s.blc
      ∧ (monitorReading vdc va vb vres s).shm = s.shm ∧ (monitorReading vdc va vb vres s).dl = s.dl
      ∧ (monitorReading vdc va vb vres s).ts = s.ts ∧ (monitorReading vdc va vb vres s).pending = s.pending := by
  simp only [monitorReading]
  repeat' split
  all_goals simp [*]

@[simp] theorem overlapEnds_frame (s : State) :
    (overlapEnds s).settling = s.settling ∧ (overlapEnds s).icu = s.icu ∧ (overlapEnds s).bu = s.bu
      ∧ (overlapEnds s).blc = s.blc ∧ (overlapEnds s).shm = s.shm ∧ (overlapEnds s).dl = s.dl ∧ (overlapEnds s).ts = s.ts
      ∧ (overlapEnds s).pending = s.pending := by
  simp only [overlapEnds]
  repeat' split
  all_goals simp [*]

@[simp] theorem bridgeCloses_frame (s : State) :
    (bridgeCloses s).settling = s.settling ∧ (bridgeCloses s).icu = s.icu ∧ (bridgeCloses s).bu = s.bu
      ∧ (bridgeCloses s).blc = s.blc ∧ (bridgeCloses s).shm = s.shm ∧ (bridgeCloses s).dl = s.dl
      ∧ (bridgeCloses s).ts = s.ts ∧ (bridgeCloses s).pending = s.pending := by
  simp only [bridgeCloses]
  repeat' split
  all_goals simp [*]

@[simp] theorem warnLow_frame (y : Source) (low : Bool) (s : State) :
    (warnLow y low s).settling = s.settling ∧ (warnLow y low s).icu = s.icu ∧ (warnLow y low s).ppc = s.ppc
      ∧ (warnLow y low s).bbc = s.bbc ∧ (warnLow y low s).cc = s.cc ∧ (warnLow y low s).bu = s.bu
      ∧ (warnLow y low s).blc = s.blc ∧ (warnLow y low s).shm = s.shm ∧ (warnLow y low s).dl = s.dl
      ∧ (warnLow y low s).ts = s.ts ∧ (warnLow y low s).delivered = s.delivered ∧ (warnLow y low s).freeIndex = s.freeIndex
      ∧ (warnLow y low s).pending = s.pending := by
  simp only [warnLow]
  repeat' split
  all_goals simp [*]

@[simp] theorem enableRail_frame (s : State) :
    (enableRail s).settling = s.settling ∧ (enableRail s).icu = s.icu ∧ (enableRail s).bu = s.bu
      ∧ (enableRail s).blc = s.blc ∧ (enableRail s).shm = s.shm ∧ (enableRail s).dl = s.dl ∧ (enableRail s).ts = s.ts
      ∧ (enableRail s).lu = s.lu ∧ (enableRail s).freeIndex = s.freeIndex ∧ (enableRail s).pending = s.pending := by
  simp only [enableRail]
  simp [*]

/-! ### Transactions -/

@[simp] theorem setSequence_frame (b : Bay) (q : Option IdSequence) (s : State) :
    (setSequence b q s).settling = s.settling ∧ (setSequence b q s).icu = s.icu ∧ (setSequence b q s).ppc = s.ppc
      ∧ (setSequence b q s).cc = s.cc ∧ (setSequence b q s).bu = s.bu ∧ (setSequence b q s).blc = s.blc
      ∧ (setSequence b q s).shm = s.shm ∧ (setSequence b q s).dl = s.dl ∧ (setSequence b q s).ts = s.ts
      ∧ (setSequence b q s).lu = s.lu ∧ (setSequence b q s).delivered = s.delivered
      ∧ (setSequence b q s).freeIndex = s.freeIndex ∧ (setSequence b q s).pending = s.pending := by
  simp only [setSequence]
  simp [*]

@[simp] theorem attemptFailed_frame (b : Bay) (q : IdSequence) (r : TxResult) (s : State) :
    (attemptFailed b q r s).settling = s.settling ∧ (attemptFailed b q r s).icu = s.icu
      ∧ (attemptFailed b q r s).ppc = s.ppc ∧ (attemptFailed b q r s).cc = s.cc ∧ (attemptFailed b q r s).bu = s.bu
      ∧ (attemptFailed b q r s).blc = s.blc ∧ (attemptFailed b q r s).shm = s.shm ∧ (attemptFailed b q r s).dl = s.dl
      ∧ (attemptFailed b q r s).ts = s.ts ∧ (attemptFailed b q r s).lu = s.lu
      ∧ (attemptFailed b q r s).freeIndex = s.freeIndex ∧ (attemptFailed b q r s).pending = s.pending := by
  simp only [attemptFailed]
  repeat' split
  all_goals simp [*]

@[simp] theorem clearLost_frame (b : Bay) (s : State) :
    (clearLost b s).settling = s.settling ∧ (clearLost b s).icu = s.icu ∧ (clearLost b s).cc = s.cc
      ∧ (clearLost b s).bu = s.bu ∧ (clearLost b s).blc = s.blc ∧ (clearLost b s).shm = s.shm ∧ (clearLost b s).dl = s.dl
      ∧ (clearLost b s).ts = s.ts ∧ (clearLost b s).lu = s.lu
      ∧ (clearLost b s).freeIndex = s.freeIndex ∧ (clearLost b s).pending = s.pending := by
  simp only [clearLost]
  simp [*]

@[simp] theorem sequencePassed_frame (b : Bay) (id : Identity) (t : Telemetry) (bytes : List Byte) (s : State) :
    (sequencePassed b id t bytes s).settling = s.settling ∧ (sequencePassed b id t bytes s).icu = s.icu
      ∧ (sequencePassed b id t bytes s).cc = s.cc ∧ (sequencePassed b id t bytes s).bu = s.bu
      ∧ (sequencePassed b id t bytes s).blc = s.blc ∧ (sequencePassed b id t bytes s).shm = s.shm
      ∧ (sequencePassed b id t bytes s).dl = s.dl ∧ (sequencePassed b id t bytes s).ts = s.ts
      ∧ (sequencePassed b id t bytes s).freeIndex = s.freeIndex ∧ (sequencePassed b id t bytes s).pending = s.pending := by
  simp only [sequencePassed]
  simp [*]

@[simp] theorem sequenceStep_frame (b : Bay) (q : IdSequence) (e : Ended) (s : State) :
    (sequenceStep b q e s).settling = s.settling ∧ (sequenceStep b q e s).icu = s.icu ∧ (sequenceStep b q e s).cc = s.cc
      ∧ (sequenceStep b q e s).bu = s.bu ∧ (sequenceStep b q e s).blc = s.blc ∧ (sequenceStep b q e s).shm = s.shm
      ∧ (sequenceStep b q e s).dl = s.dl ∧ (sequenceStep b q e s).ts = s.ts ∧ (sequenceStep b q e s).freeIndex = s.freeIndex
      ∧ (sequenceStep b q e s).pending = s.pending := by
  simp only [sequenceStep]
  repeat' split
  all_goals simp [*]

@[simp] theorem identifyEnded_frame (b : Bay) (e : Ended) (s : State) :
    (identifyEnded b e s).settling = s.settling ∧ (identifyEnded b e s).icu = s.icu ∧ (identifyEnded b e s).cc = s.cc
      ∧ (identifyEnded b e s).bu = s.bu ∧ (identifyEnded b e s).blc = s.blc ∧ (identifyEnded b e s).shm = s.shm
      ∧ (identifyEnded b e s).dl = s.dl ∧ (identifyEnded b e s).ts = s.ts ∧ (identifyEnded b e s).freeIndex = s.freeIndex
      ∧ (identifyEnded b e s).pending = s.pending := by
  simp only [identifyEnded]
  repeat' split
  all_goals simp [*]

@[simp] theorem pollDelivered_frame (b : Bay) (t : Telemetry) (bytes : List Byte) (s : State) :
    (pollDelivered b t bytes s).settling = s.settling ∧ (pollDelivered b t bytes s).icu = s.icu
      ∧ (pollDelivered b t bytes s).cc = s.cc ∧ (pollDelivered b t bytes s).bu = s.bu
      ∧ (pollDelivered b t bytes s).blc = s.blc ∧ (pollDelivered b t bytes s).shm = s.shm
      ∧ (pollDelivered b t bytes s).dl = s.dl ∧ (pollDelivered b t bytes s).ts = s.ts
      ∧ (pollDelivered b t bytes s).freeIndex = s.freeIndex ∧ (pollDelivered b t bytes s).pending = s.pending := by
  simp only [pollDelivered]
  simp [*]

@[simp] theorem loseTelemetry_frame (b : Bay) (s : State) :
    (loseTelemetry b s).settling = s.settling ∧ (loseTelemetry b s).icu = s.icu ∧ (loseTelemetry b s).bu = s.bu
      ∧ (loseTelemetry b s).blc = s.blc ∧ (loseTelemetry b s).shm = s.shm ∧ (loseTelemetry b s).dl = s.dl
      ∧ (loseTelemetry b s).ts = s.ts ∧ (loseTelemetry b s).freeIndex = s.freeIndex
      ∧ (loseTelemetry b s).pending = s.pending := by
  simp only [loseTelemetry]
  repeat' split
  all_goals simp [*]

@[simp] theorem pollFailed_frame (b : Bay) (s : State) :
    (pollFailed b s).settling = s.settling ∧ (pollFailed b s).icu = s.icu ∧ (pollFailed b s).bu = s.bu
      ∧ (pollFailed b s).blc = s.blc ∧ (pollFailed b s).shm = s.shm ∧ (pollFailed b s).dl = s.dl
      ∧ (pollFailed b s).ts = s.ts ∧ (pollFailed b s).freeIndex = s.freeIndex ∧ (pollFailed b s).pending = s.pending := by
  simp only [pollFailed]
  repeat' split
  all_goals simp [*]

@[simp] theorem pollEnded_frame (b : Bay) (e : Ended) (s : State) :
    (pollEnded b e s).settling = s.settling ∧ (pollEnded b e s).icu = s.icu ∧ (pollEnded b e s).bu = s.bu
      ∧ (pollEnded b e s).blc = s.blc ∧ (pollEnded b e s).shm = s.shm ∧ (pollEnded b e s).dl = s.dl
      ∧ (pollEnded b e s).ts = s.ts ∧ (pollEnded b e s).freeIndex = s.freeIndex ∧ (pollEnded b e s).pending = s.pending := by
  simp only [pollEnded]
  repeat' split
  all_goals simp [*]

@[simp] theorem chargerEnded_frame (e : Ended) (s : State) :
    (chargerEnded e s).settling = s.settling ∧ (chargerEnded e s).icu = s.icu ∧ (chargerEnded e s).bu = s.bu
      ∧ (chargerEnded e s).blc = s.blc ∧ (chargerEnded e s).shm = s.shm ∧ (chargerEnded e s).dl = s.dl
      ∧ (chargerEnded e s).ts = s.ts ∧ (chargerEnded e s).freeIndex = s.freeIndex ∧ (chargerEnded e s).pending = s.pending := by
  simp only [chargerEnded]
  repeat' split
  all_goals simp [*]

@[simp] theorem deferredEnded_frame (e : Ended) (s : State) :
    (deferredEnded e s).settling = s.settling ∧ (deferredEnded e s).icu = s.icu ∧ (deferredEnded e s).ppc = s.ppc
      ∧ (deferredEnded e s).cc = s.cc ∧ (deferredEnded e s).bu = s.bu ∧ (deferredEnded e s).blc = s.blc
      ∧ (deferredEnded e s).shm = s.shm ∧ (deferredEnded e s).dl = s.dl ∧ (deferredEnded e s).ts = s.ts
      ∧ (deferredEnded e s).lu = s.lu ∧ (deferredEnded e s).delivered = s.delivered
      ∧ (deferredEnded e s).freeIndex = s.freeIndex ∧ (deferredEnded e s).pending = s.pending := by
  simp only [deferredEnded]
  simp [*]

@[simp] theorem postedEnded_frame (e : Ended) (s : State) :
    (postedEnded e s).settling = s.settling ∧ (postedEnded e s).icu = s.icu ∧ (postedEnded e s).ppc = s.ppc
      ∧ (postedEnded e s).cc = s.cc ∧ (postedEnded e s).bu = s.bu ∧ (postedEnded e s).blc = s.blc
      ∧ (postedEnded e s).shm = s.shm ∧ (postedEnded e s).dl = s.dl ∧ (postedEnded e s).ts = s.ts
      ∧ (postedEnded e s).delivered = s.delivered ∧ (postedEnded e s).freeIndex = s.freeIndex
      ∧ (postedEnded e s).pending = s.pending := by
  simp only [postedEnded]
  repeat' split
  all_goals simp [*]

@[simp] theorem routeResult_frame (o : TxOwner) (e : Ended) (s : State) :
    (routeResult o e s).settling = s.settling ∧ (routeResult o e s).icu = s.icu ∧ (routeResult o e s).bu = s.bu
      ∧ (routeResult o e s).blc = s.blc ∧ (routeResult o e s).shm = s.shm ∧ (routeResult o e s).dl = s.dl
      ∧ (routeResult o e s).ts = s.ts ∧ (routeResult o e s).freeIndex = s.freeIndex
      ∧ (routeResult o e s).pending = s.pending := by
  simp only [routeResult]
  repeat' split
  all_goals simp [*]

@[simp] theorem freeBus_frame (s : State) :
    (freeBus s).settling = s.settling ∧ (freeBus s).icu = s.icu ∧ (freeBus s).ppc = s.ppc ∧ (freeBus s).cc = s.cc
      ∧ (freeBus s).bu = s.bu ∧ (freeBus s).blc = s.blc ∧ (freeBus s).shm = s.shm ∧ (freeBus s).dl = s.dl
      ∧ (freeBus s).ts = s.ts ∧ (freeBus s).lu = s.lu ∧ (freeBus s).delivered = s.delivered
      ∧ (freeBus s).freeIndex = s.freeIndex ∧ (freeBus s).pending = s.pending := by
  simp only [freeBus]
  simp [*]

@[simp] theorem endWith_frame (t : Transaction) (e : Ended) (s : State) :
    (endWith t e s).settling = s.settling ∧ (endWith t e s).icu = s.icu ∧ (endWith t e s).bu = s.bu
      ∧ (endWith t e s).blc = s.blc ∧ (endWith t e s).shm = s.shm ∧ (endWith t e s).dl = s.dl ∧ (endWith t e s).ts = s.ts
      ∧ (endWith t e s).freeIndex = s.freeIndex ∧ (endWith t e s).pending = s.pending := by
  simp only [endWith]
  simp [*]

@[simp] theorem transactionReply_frame (r : BusReply) (s : State) :
    (transactionReply r s).settling = s.settling ∧ (transactionReply r s).icu = s.icu ∧ (transactionReply r s).bu = s.bu
      ∧ (transactionReply r s).blc = s.blc ∧ (transactionReply r s).shm = s.shm ∧ (transactionReply r s).dl = s.dl
      ∧ (transactionReply r s).ts = s.ts ∧ (transactionReply r s).freeIndex = s.freeIndex
      ∧ (transactionReply r s).pending = s.pending := by
  simp only [transactionReply]
  repeat' split
  all_goals simp [*]

@[simp] theorem transactionTimedOut_frame (s : State) :
    (transactionTimedOut s).settling = s.settling ∧ (transactionTimedOut s).icu = s.icu ∧ (transactionTimedOut s).bu = s.bu
      ∧ (transactionTimedOut s).blc = s.blc ∧ (transactionTimedOut s).shm = s.shm ∧ (transactionTimedOut s).dl = s.dl
      ∧ (transactionTimedOut s).ts = s.ts ∧ (transactionTimedOut s).freeIndex = s.freeIndex
      ∧ (transactionTimedOut s).pending = s.pending := by
  simp only [transactionTimedOut]
  repeat' split
  all_goals simp [*]

@[simp] theorem pollExpired_frame (b : Bay) (s : State) :
    (pollExpired b s).settling = s.settling ∧ (pollExpired b s).icu = s.icu ∧ (pollExpired b s).ppc = s.ppc
      ∧ (pollExpired b s).cc = s.cc ∧ (pollExpired b s).bu = s.bu ∧ (pollExpired b s).blc = s.blc
      ∧ (pollExpired b s).shm = s.shm ∧ (pollExpired b s).dl = s.dl ∧ (pollExpired b s).ts = s.ts
      ∧ (pollExpired b s).lu = s.lu ∧ (pollExpired b s).delivered = s.delivered ∧ (pollExpired b s).freeIndex = s.freeIndex
      ∧ (pollExpired b s).pending = s.pending := by
  simp only [pollExpired]
  repeat' split
  all_goals simp [*]

@[simp] theorem deferredExpired_frame (s : State) :
    (deferredExpired s).settling = s.settling ∧ (deferredExpired s).icu = s.icu ∧ (deferredExpired s).ppc = s.ppc
      ∧ (deferredExpired s).cc = s.cc ∧ (deferredExpired s).bu = s.bu ∧ (deferredExpired s).blc = s.blc
      ∧ (deferredExpired s).shm = s.shm ∧ (deferredExpired s).dl = s.dl ∧ (deferredExpired s).ts = s.ts
      ∧ (deferredExpired s).delivered = s.delivered ∧ (deferredExpired s).freeIndex = s.freeIndex
      ∧ (deferredExpired s).pending = s.pending := by
  simp only [deferredExpired]
  repeat' split
  all_goals simp [*]

@[simp] theorem stopOnSegment_frame (g : Segment) (s : State) :
    (stopOnSegment g s).settling = s.settling ∧ (stopOnSegment g s).icu = s.icu ∧ (stopOnSegment g s).bu = s.bu
      ∧ (stopOnSegment g s).blc = s.blc ∧ (stopOnSegment g s).shm = s.shm ∧ (stopOnSegment g s).dl = s.dl
      ∧ (stopOnSegment g s).ts = s.ts ∧ (stopOnSegment g s).freeIndex = s.freeIndex
      ∧ (stopOnSegment g s).pending = s.pending := by
  simp only [stopOnSegment]
  repeat' split
  all_goals simp [*]

@[simp] theorem discardWrite_frame (s : State) (w : PostedWrite) :
    (discardWrite s w).settling = s.settling ∧ (discardWrite s w).icu = s.icu ∧ (discardWrite s w).ppc = s.ppc
      ∧ (discardWrite s w).bbc = s.bbc ∧ (discardWrite s w).cc = s.cc ∧ (discardWrite s w).bu = s.bu
      ∧ (discardWrite s w).blc = s.blc ∧ (discardWrite s w).shm = s.shm ∧ (discardWrite s w).dl = s.dl
      ∧ (discardWrite s w).ts = s.ts ∧ (discardWrite s w).delivered = s.delivered
      ∧ (discardWrite s w).freeIndex = s.freeIndex ∧ (discardWrite s w).pending = s.pending := by
  simp only [discardWrite]
  simp [*]

@[simp] theorem discardAll_frame (ws : List PostedWrite) (s : State) :
    (ws.foldl discardWrite s).settling = s.settling ∧ (ws.foldl discardWrite s).icu = s.icu
      ∧ (ws.foldl discardWrite s).ppc = s.ppc ∧ (ws.foldl discardWrite s).bbc = s.bbc ∧ (ws.foldl discardWrite s).cc = s.cc
      ∧ (ws.foldl discardWrite s).bu = s.bu ∧ (ws.foldl discardWrite s).blc = s.blc ∧ (ws.foldl discardWrite s).shm = s.shm
      ∧ (ws.foldl discardWrite s).dl = s.dl ∧ (ws.foldl discardWrite s).ts = s.ts
      ∧ (ws.foldl discardWrite s).delivered = s.delivered ∧ (ws.foldl discardWrite s).freeIndex = s.freeIndex
      ∧ (ws.foldl discardWrite s).pending = s.pending := by
  induction ws generalizing s with
  | nil => simp
  | cons w rest ih => simpa using ih (discardWrite s w)

@[simp] theorem discardWrites_frame (g : Segment) (s : State) :
    (discardWrites g s).settling = s.settling ∧ (discardWrites g s).icu = s.icu ∧ (discardWrites g s).ppc = s.ppc
      ∧ (discardWrites g s).cc = s.cc ∧ (discardWrites g s).bu = s.bu ∧ (discardWrites g s).blc = s.blc
      ∧ (discardWrites g s).shm = s.shm ∧ (discardWrites g s).dl = s.dl ∧ (discardWrites g s).ts = s.ts
      ∧ (discardWrites g s).delivered = s.delivered ∧ (discardWrites g s).freeIndex = s.freeIndex
      ∧ (discardWrites g s).pending = s.pending := by
  simp only [discardWrites]
  simp [*]

@[simp] theorem segmentRemoved_frame (b : Bay) (s : State) :
    (segmentRemoved b s).settling = s.settling ∧ (segmentRemoved b s).icu = s.icu ∧ (segmentRemoved b s).bu = s.bu
      ∧ (segmentRemoved b s).blc = s.blc ∧ (segmentRemoved b s).shm = s.shm ∧ (segmentRemoved b s).dl = s.dl
      ∧ (segmentRemoved b s).ts = s.ts ∧ (segmentRemoved b s).freeIndex = s.freeIndex
      ∧ (segmentRemoved b s).pending = s.pending := by
  simp only [segmentRemoved]
  simp [*]

@[simp] theorem meetPollPeriod_frame (b : Bay) (s : State) :
    (meetPollPeriod b s).settling = s.settling ∧ (meetPollPeriod b s).icu = s.icu ∧ (meetPollPeriod b s).ppc = s.ppc
      ∧ (meetPollPeriod b s).cc = s.cc ∧ (meetPollPeriod b s).bu = s.bu ∧ (meetPollPeriod b s).blc = s.blc
      ∧ (meetPollPeriod b s).shm = s.shm ∧ (meetPollPeriod b s).dl = s.dl ∧ (meetPollPeriod b s).ts = s.ts
      ∧ (meetPollPeriod b s).lu = s.lu ∧ (meetPollPeriod b s).delivered = s.delivered
      ∧ (meetPollPeriod b s).freeIndex = s.freeIndex ∧ (meetPollPeriod b s).pending = s.pending := by
  simp only [meetPollPeriod]
  repeat' split
  all_goals simp [*]

@[simp] theorem meetDeferredExpiry_frame (s : State) :
    (meetDeferredExpiry s).settling = s.settling ∧ (meetDeferredExpiry s).icu = s.icu ∧ (meetDeferredExpiry s).ppc = s.ppc
      ∧ (meetDeferredExpiry s).cc = s.cc ∧ (meetDeferredExpiry s).bu = s.bu ∧ (meetDeferredExpiry s).blc = s.blc
      ∧ (meetDeferredExpiry s).shm = s.shm ∧ (meetDeferredExpiry s).dl = s.dl ∧ (meetDeferredExpiry s).ts = s.ts
      ∧ (meetDeferredExpiry s).delivered = s.delivered ∧ (meetDeferredExpiry s).freeIndex = s.freeIndex
      ∧ (meetDeferredExpiry s).pending = s.pending := by
  simp only [meetDeferredExpiry]
  repeat' split
  all_goals simp [*]

@[simp] theorem resetPoll_frame (b : Bay) (s : State) :
    (resetPoll b s).settling = s.settling ∧ (resetPoll b s).icu = s.icu ∧ (resetPoll b s).ppc = s.ppc
      ∧ (resetPoll b s).cc = s.cc ∧ (resetPoll b s).bu = s.bu ∧ (resetPoll b s).blc = s.blc ∧ (resetPoll b s).shm = s.shm
      ∧ (resetPoll b s).dl = s.dl ∧ (resetPoll b s).ts = s.ts ∧ (resetPoll b s).lu = s.lu
      ∧ (resetPoll b s).delivered = s.delivered ∧ (resetPoll b s).freeIndex = s.freeIndex
      ∧ (resetPoll b s).pending = s.pending := by
  simp only [resetPoll]
  repeat' split
  all_goals simp [*]

@[simp] theorem resetBus_frame (s : State) :
    (resetBus s).settling = s.settling ∧ (resetBus s).icu = s.icu ∧ (resetBus s).ppc = s.ppc ∧ (resetBus s).cc = s.cc
      ∧ (resetBus s).bu = s.bu ∧ (resetBus s).blc = s.blc ∧ (resetBus s).shm = s.shm ∧ (resetBus s).dl = s.dl
      ∧ (resetBus s).ts = s.ts ∧ (resetBus s).lu = s.lu ∧ (resetBus s).delivered = s.delivered
      ∧ (resetBus s).freeIndex = s.freeIndex ∧ (resetBus s).pending = s.pending := by
  simp only [resetBus]
  simp [*]

/-! ### The budget and the backlight -/

@[simp] theorem computeBudget_frame (s : State) :
    (computeBudget s).settling = s.settling ∧ (computeBudget s).icu = s.icu ∧ (computeBudget s).ppc = s.ppc
      ∧ (computeBudget s).bbc = s.bbc ∧ (computeBudget s).cc = s.cc ∧ (computeBudget s).blc = s.blc
      ∧ (computeBudget s).shm = s.shm ∧ (computeBudget s).dl = s.dl ∧ (computeBudget s).ts = s.ts
      ∧ (computeBudget s).lu = s.lu ∧ (computeBudget s).delivered = s.delivered ∧ (computeBudget s).freeIndex = s.freeIndex
      ∧ (computeBudget s).pending = s.pending := by
  simp only [computeBudget]
  simp [*]

@[simp] theorem publish_frame (s : State) :
    (publish s).settling = s.settling ∧ (publish s).icu = s.icu ∧ (publish s).ppc = s.ppc ∧ (publish s).bbc = s.bbc
      ∧ (publish s).cc = s.cc ∧ (publish s).blc = s.blc ∧ (publish s).shm = s.shm ∧ (publish s).dl = s.dl
      ∧ (publish s).ts = s.ts ∧ (publish s).lu = s.lu ∧ (publish s).freeIndex = s.freeIndex
      ∧ (publish s).pending = s.pending := by
  simp only [publish]
  simp [*]

@[simp] theorem publishIfChanged_frame (s : State) :
    (publishIfChanged s).settling = s.settling ∧ (publishIfChanged s).icu = s.icu ∧ (publishIfChanged s).ppc = s.ppc
      ∧ (publishIfChanged s).bbc = s.bbc ∧ (publishIfChanged s).cc = s.cc ∧ (publishIfChanged s).blc = s.blc
      ∧ (publishIfChanged s).shm = s.shm ∧ (publishIfChanged s).dl = s.dl ∧ (publishIfChanged s).ts = s.ts
      ∧ (publishIfChanged s).lu = s.lu ∧ (publishIfChanged s).freeIndex = s.freeIndex
      ∧ (publishIfChanged s).pending = s.pending := by
  simp only [publishIfChanged]
  repeat' split
  all_goals simp [*]

@[simp] theorem evaluateCapped_frame (s : State) :
    (evaluateCapped s).settling = s.settling ∧ (evaluateCapped s).icu = s.icu ∧ (evaluateCapped s).ppc = s.ppc
      ∧ (evaluateCapped s).bbc = s.bbc ∧ (evaluateCapped s).cc = s.cc ∧ (evaluateCapped s).blc = s.blc
      ∧ (evaluateCapped s).shm = s.shm ∧ (evaluateCapped s).dl = s.dl ∧ (evaluateCapped s).ts = s.ts
      ∧ (evaluateCapped s).delivered = s.delivered ∧ (evaluateCapped s).freeIndex = s.freeIndex
      ∧ (evaluateCapped s).pending = s.pending := by
  simp only [evaluateCapped]
  simp [*]

@[simp] theorem recomputeBudget_frame (s : State) :
    (recomputeBudget s).settling = s.settling ∧ (recomputeBudget s).icu = s.icu ∧ (recomputeBudget s).ppc = s.ppc
      ∧ (recomputeBudget s).bbc = s.bbc ∧ (recomputeBudget s).cc = s.cc ∧ (recomputeBudget s).blc = s.blc
      ∧ (recomputeBudget s).shm = s.shm ∧ (recomputeBudget s).dl = s.dl ∧ (recomputeBudget s).ts = s.ts
      ∧ (recomputeBudget s).freeIndex = s.freeIndex ∧ (recomputeBudget s).pending = s.pending := by
  simp only [recomputeBudget]
  simp [*]

@[simp] theorem takeDemand_frame (d : Nat) (s : State) :
    (takeDemand d s).settling = s.settling ∧ (takeDemand d s).icu = s.icu ∧ (takeDemand d s).ppc = s.ppc
      ∧ (takeDemand d s).bbc = s.bbc ∧ (takeDemand d s).cc = s.cc ∧ (takeDemand d s).blc = s.blc
      ∧ (takeDemand d s).shm = s.shm ∧ (takeDemand d s).dl = s.dl ∧ (takeDemand d s).ts = s.ts
      ∧ (takeDemand d s).delivered = s.delivered ∧ (takeDemand d s).freeIndex = s.freeIndex
      ∧ (takeDemand d s).pending = s.pending := by
  simp only [takeDemand]
  simp [*]

@[simp] theorem resetBudget_frame (s : State) :
    (resetBudget s).settling = s.settling ∧ (resetBudget s).icu = s.icu ∧ (resetBudget s).ppc = s.ppc
      ∧ (resetBudget s).bbc = s.bbc ∧ (resetBudget s).cc = s.cc ∧ (resetBudget s).blc = s.blc ∧ (resetBudget s).shm = s.shm
      ∧ (resetBudget s).dl = s.dl ∧ (resetBudget s).ts = s.ts ∧ (resetBudget s).freeIndex = s.freeIndex
      ∧ (resetBudget s).pending = s.pending := by
  simp only [resetBudget]
  simp [*]

@[simp] theorem readLid_frame (s : State) :
    (readLid s).settling = s.settling ∧ (readLid s).icu = s.icu ∧ (readLid s).ppc = s.ppc ∧ (readLid s).bbc = s.bbc
      ∧ (readLid s).cc = s.cc ∧ (readLid s).bu = s.bu ∧ (readLid s).shm = s.shm ∧ (readLid s).dl = s.dl
      ∧ (readLid s).ts = s.ts ∧ (readLid s).lu = s.lu ∧ (readLid s).delivered = s.delivered
      ∧ (readLid s).freeIndex = s.freeIndex ∧ (readLid s).pending = s.pending := by
  simp only [readLid]
  simp [*]

@[simp] theorem recomputeHeld_frame (s : State) :
    (recomputeHeld s).settling = s.settling ∧ (recomputeHeld s).icu = s.icu ∧ (recomputeHeld s).ppc = s.ppc
      ∧ (recomputeHeld s).bbc = s.bbc ∧ (recomputeHeld s).cc = s.cc ∧ (recomputeHeld s).bu = s.bu
      ∧ (recomputeHeld s).shm = s.shm ∧ (recomputeHeld s).dl = s.dl ∧ (recomputeHeld s).ts = s.ts
      ∧ (recomputeHeld s).lu = s.lu ∧ (recomputeHeld s).freeIndex = s.freeIndex
      ∧ (recomputeHeld s).pending = s.pending := by
  simp only [recomputeHeld]
  simp [*]

@[simp] theorem recomputeTarget_frame (s : State) :
    (recomputeTarget s).settling = s.settling ∧ (recomputeTarget s).icu = s.icu ∧ (recomputeTarget s).ppc = s.ppc
      ∧ (recomputeTarget s).bbc = s.bbc ∧ (recomputeTarget s).cc = s.cc ∧ (recomputeTarget s).bu = s.bu
      ∧ (recomputeTarget s).shm = s.shm ∧ (recomputeTarget s).dl = s.dl ∧ (recomputeTarget s).ts = s.ts
      ∧ (recomputeTarget s).lu = s.lu ∧ (recomputeTarget s).freeIndex = s.freeIndex
      ∧ (recomputeTarget s).pending = s.pending := by
  simp only [recomputeTarget]
  simp [*]

@[simp] theorem swapCurve_frame (s : State) :
    (swapCurve s).settling = s.settling ∧ (swapCurve s).icu = s.icu ∧ (swapCurve s).ppc = s.ppc ∧ (swapCurve s).bbc = s.bbc
      ∧ (swapCurve s).cc = s.cc ∧ (swapCurve s).bu = s.bu ∧ (swapCurve s).blc = s.blc ∧ (swapCurve s).shm = s.shm
      ∧ (swapCurve s).dl = s.dl ∧ (swapCurve s).delivered = s.delivered ∧ (swapCurve s).freeIndex = s.freeIndex
      ∧ (swapCurve s).pending = s.pending := by
  simp only [swapCurve]
  repeat' split
  all_goals simp [*]

@[simp] theorem filterLight_frame (s : State) :
    (filterLight s).settling = s.settling ∧ (filterLight s).icu = s.icu ∧ (filterLight s).ppc = s.ppc
      ∧ (filterLight s).bbc = s.bbc ∧ (filterLight s).cc = s.cc ∧ (filterLight s).bu = s.bu ∧ (filterLight s).shm = s.shm
      ∧ (filterLight s).dl = s.dl ∧ (filterLight s).ts = s.ts ∧ (filterLight s).lu = s.lu
      ∧ (filterLight s).delivered = s.delivered ∧ (filterLight s).freeIndex = s.freeIndex
      ∧ (filterLight s).pending = s.pending := by
  simp only [filterLight]
  simp [*]

@[simp] theorem filterStep_frame (x : LightSensor) (s : State) :
    (filterStep x s).settling = s.settling ∧ (filterStep x s).icu = s.icu ∧ (filterStep x s).ppc = s.ppc
      ∧ (filterStep x s).bbc = s.bbc ∧ (filterStep x s).cc = s.cc ∧ (filterStep x s).bu = s.bu
      ∧ (filterStep x s).shm = s.shm ∧ (filterStep x s).dl = s.dl ∧ (filterStep x s).freeIndex = s.freeIndex
      ∧ (filterStep x s).pending = s.pending := by
  simp only [filterStep]
  simp [*]

@[simp] theorem storeLight_frame (x : LightSensor) (lux : Nat) (v : Bool) (s : State) :
    (storeLight x lux v s).settling = s.settling ∧ (storeLight x lux v s).icu = s.icu ∧ (storeLight x lux v s).ppc = s.ppc
      ∧ (storeLight x lux v s).bbc = s.bbc ∧ (storeLight x lux v s).cc = s.cc ∧ (storeLight x lux v s).bu = s.bu
      ∧ (storeLight x lux v s).shm = s.shm ∧ (storeLight x lux v s).dl = s.dl ∧ (storeLight x lux v s).ts = s.ts
      ∧ (storeLight x lux v s).lu = s.lu ∧ (storeLight x lux v s).delivered = s.delivered
      ∧ (storeLight x lux v s).freeIndex = s.freeIndex ∧ (storeLight x lux v s).pending = s.pending := by
  simp only [storeLight]
  repeat' split
  all_goals simp [*]

@[simp] theorem failSensor_frame (x : LightSensor) (s : State) :
    (failSensor x s).settling = s.settling ∧ (failSensor x s).icu = s.icu ∧ (failSensor x s).ppc = s.ppc
      ∧ (failSensor x s).bbc = s.bbc ∧ (failSensor x s).cc = s.cc ∧ (failSensor x s).bu = s.bu
      ∧ (failSensor x s).shm = s.shm ∧ (failSensor x s).dl = s.dl ∧ (failSensor x s).ts = s.ts
      ∧ (failSensor x s).delivered = s.delivered ∧ (failSensor x s).freeIndex = s.freeIndex
      ∧ (failSensor x s).pending = s.pending := by
  simp only [failSensor]
  simp [*]

@[simp] theorem failIfSilent_frame (x : LightSensor) (s : State) :
    (failIfSilent x s).settling = s.settling ∧ (failIfSilent x s).icu = s.icu ∧ (failIfSilent x s).ppc = s.ppc
      ∧ (failIfSilent x s).bbc = s.bbc ∧ (failIfSilent x s).cc = s.cc ∧ (failIfSilent x s).bu = s.bu
      ∧ (failIfSilent x s).shm = s.shm ∧ (failIfSilent x s).dl = s.dl ∧ (failIfSilent x s).ts = s.ts
      ∧ (failIfSilent x s).delivered = s.delivered ∧ (failIfSilent x s).freeIndex = s.freeIndex
      ∧ (failIfSilent x s).pending = s.pending := by
  simp only [failIfSilent]
  repeat' split
  all_goals simp [*]

@[simp] theorem refreshThermalCap_frame (s : State) :
    (refreshThermalCap s).settling = s.settling ∧ (refreshThermalCap s).icu = s.icu ∧ (refreshThermalCap s).ppc = s.ppc
      ∧ (refreshThermalCap s).bbc = s.bbc ∧ (refreshThermalCap s).cc = s.cc ∧ (refreshThermalCap s).bu = s.bu
      ∧ (refreshThermalCap s).shm = s.shm ∧ (refreshThermalCap s).dl = s.dl ∧ (refreshThermalCap s).ts = s.ts
      ∧ (refreshThermalCap s).lu = s.lu ∧ (refreshThermalCap s).delivered = s.delivered
      ∧ (refreshThermalCap s).freeIndex = s.freeIndex ∧ (refreshThermalCap s).pending = s.pending := by
  simp only [refreshThermalCap]
  simp [*]

@[simp] theorem emptyStack_frame (s : State) :
    (emptyStack s).settling = s.settling ∧ (emptyStack s).icu = s.icu ∧ (emptyStack s).ppc = s.ppc
      ∧ (emptyStack s).bbc = s.bbc ∧ (emptyStack s).cc = s.cc ∧ (emptyStack s).bu = s.bu ∧ (emptyStack s).shm = s.shm
      ∧ (emptyStack s).dl = s.dl ∧ (emptyStack s).ts = s.ts ∧ (emptyStack s).lu = s.lu
      ∧ (emptyStack s).freeIndex = s.freeIndex ∧ (emptyStack s).pending = s.pending := by
  simp only [emptyStack]
  repeat' split
  all_goals simp [*]

@[simp] theorem resetBacklight_frame (s : State) :
    (resetBacklight s).settling = s.settling ∧ (resetBacklight s).icu = s.icu ∧ (resetBacklight s).ppc = s.ppc
      ∧ (resetBacklight s).bbc = s.bbc ∧ (resetBacklight s).cc = s.cc ∧ (resetBacklight s).bu = s.bu
      ∧ (resetBacklight s).shm = s.shm ∧ (resetBacklight s).dl = s.dl ∧ (resetBacklight s).ts = s.ts
      ∧ (resetBacklight s).lu = s.lu ∧ (resetBacklight s).freeIndex = s.freeIndex ∧ (resetBacklight s).pending = s.pending := by
  simp only [resetBacklight]
  simp [*]

/-! ### The drop log and the shock monitor -/

@[simp] theorem keepRecord_frame (r : DropRecord) (s : State) :
    (keepRecord r s).settling = s.settling ∧ (keepRecord r s).icu = s.icu ∧ (keepRecord r s).ppc = s.ppc
      ∧ (keepRecord r s).bbc = s.bbc ∧ (keepRecord r s).cc = s.cc ∧ (keepRecord r s).bu = s.bu
      ∧ (keepRecord r s).blc = s.blc ∧ (keepRecord r s).shm = s.shm ∧ (keepRecord r s).ts = s.ts
      ∧ (keepRecord r s).delivered = s.delivered ∧ (keepRecord r s).freeIndex = s.freeIndex
      ∧ (keepRecord r s).pending = s.pending := by
  simp only [keepRecord]
  simp [*]

@[simp] theorem storeEvent_frame (h : HandOver) (v : Verdict) (s : State) :
    (storeEvent h v s).settling = s.settling ∧ (storeEvent h v s).icu = s.icu ∧ (storeEvent h v s).ppc = s.ppc
      ∧ (storeEvent h v s).bbc = s.bbc ∧ (storeEvent h v s).cc = s.cc ∧ (storeEvent h v s).bu = s.bu
      ∧ (storeEvent h v s).blc = s.blc ∧ (storeEvent h v s).shm = s.shm ∧ (storeEvent h v s).ts = s.ts
      ∧ (storeEvent h v s).delivered = s.delivered ∧ (storeEvent h v s).freeIndex = s.freeIndex
      ∧ (storeEvent h v s).pending = s.pending := by
  simp only [storeEvent]
  repeat' split
  all_goals simp [*]

@[simp] theorem markEvent_frame (h : HandOver) (v : Verdict) (s : State) :
    (markEvent h v s).settling = s.settling ∧ (markEvent h v s).icu = s.icu ∧ (markEvent h v s).bu = s.bu
      ∧ (markEvent h v s).blc = s.blc ∧ (markEvent h v s).shm = s.shm ∧ (markEvent h v s).dl = s.dl
      ∧ (markEvent h v s).ts = s.ts ∧ (markEvent h v s).freeIndex = s.freeIndex ∧ (markEvent h v s).pending = s.pending := by
  simp only [markEvent]
  repeat' split
  all_goals simp [*]

@[simp] theorem takeEvent_frame (h : HandOver) (s : State) :
    (takeEvent h s).1.settling = s.settling ∧ (takeEvent h s).1.icu = s.icu ∧ (takeEvent h s).1.bu = s.bu
      ∧ (takeEvent h s).1.blc = s.blc ∧ (takeEvent h s).1.shm = s.shm ∧ (takeEvent h s).1.ts = s.ts
      ∧ (takeEvent h s).1.freeIndex = s.freeIndex ∧ (takeEvent h s).1.pending = s.pending := by
  simp only [takeEvent]
  simp [*]

@[simp] theorem closeRecord_frame (e : Ending) (s : State) :
    (closeRecord e s).settling = s.settling ∧ (closeRecord e s).icu = s.icu ∧ (closeRecord e s).ppc = s.ppc
      ∧ (closeRecord e s).bbc = s.bbc ∧ (closeRecord e s).cc = s.cc ∧ (closeRecord e s).bu = s.bu
      ∧ (closeRecord e s).blc = s.blc ∧ (closeRecord e s).shm = s.shm ∧ (closeRecord e s).ts = s.ts
      ∧ (closeRecord e s).lu = s.lu ∧ (closeRecord e s).delivered = s.delivered ∧ (closeRecord e s).freeIndex = s.freeIndex
      ∧ (closeRecord e s).pending = s.pending := by
  simp only [closeRecord]
  repeat' split
  all_goals simp [*]

@[simp] theorem swapClasses_frame (s : State) :
    (swapClasses s).settling = s.settling ∧ (swapClasses s).icu = s.icu ∧ (swapClasses s).ppc = s.ppc
      ∧ (swapClasses s).bbc = s.bbc ∧ (swapClasses s).cc = s.cc ∧ (swapClasses s).bu = s.bu ∧ (swapClasses s).blc = s.blc
      ∧ (swapClasses s).shm = s.shm ∧ (swapClasses s).dl = s.dl ∧ (swapClasses s).delivered = s.delivered
      ∧ (swapClasses s).freeIndex = s.freeIndex ∧ (swapClasses s).pending = s.pending := by
  simp only [swapClasses]
  repeat' split
  all_goals simp [*]

@[simp] theorem enterQuiet_frame (st : ShmState) (s : State) :
    (enterQuiet st s).settling = s.settling ∧ (enterQuiet st s).icu = s.icu ∧ (enterQuiet st s).ppc = s.ppc
      ∧ (enterQuiet st s).bbc = s.bbc ∧ (enterQuiet st s).cc = s.cc ∧ (enterQuiet st s).bu = s.bu
      ∧ (enterQuiet st s).blc = s.blc ∧ (enterQuiet st s).dl = s.dl ∧ (enterQuiet st s).delivered = s.delivered
      ∧ (enterQuiet st s).freeIndex = s.freeIndex ∧ (enterQuiet st s).pending = s.pending := by
  simp only [enterQuiet]
  simp [*]

@[simp] theorem deliverHoldStart_frame (s : State) :
    (deliverHoldStart s).settling = s.settling ∧ (deliverHoldStart s).icu = s.icu ∧ (deliverHoldStart s).ppc = s.ppc
      ∧ (deliverHoldStart s).bbc = s.bbc ∧ (deliverHoldStart s).cc = s.cc ∧ (deliverHoldStart s).bu = s.bu
      ∧ (deliverHoldStart s).blc = s.blc ∧ (deliverHoldStart s).shm = s.shm ∧ (deliverHoldStart s).dl = s.dl
      ∧ (deliverHoldStart s).ts = s.ts ∧ (deliverHoldStart s).lu = s.lu ∧ (deliverHoldStart s).freeIndex = s.freeIndex
      ∧ (deliverHoldStart s).pending = s.pending := by
  simp only [deliverHoldStart]
  repeat' split
  all_goals simp [*]

@[simp] theorem beginEvent_frame (st : ShmState) (n m2 : Nat) (s : State) :
    (beginEvent st n m2 s).settling = s.settling ∧ (beginEvent st n m2 s).icu = s.icu ∧ (beginEvent st n m2 s).ppc = s.ppc
      ∧ (beginEvent st n m2 s).bbc = s.bbc ∧ (beginEvent st n m2 s).cc = s.cc ∧ (beginEvent st n m2 s).bu = s.bu
      ∧ (beginEvent st n m2 s).blc = s.blc ∧ (beginEvent st n m2 s).dl = s.dl ∧ (beginEvent st n m2 s).ts = s.ts
      ∧ (beginEvent st n m2 s).freeIndex = s.freeIndex ∧ (beginEvent st n m2 s).pending = s.pending := by
  simp only [beginEvent]
  simp [*]

@[simp] theorem handOver_frame (o : DropOutcome) (n : Nat) (v : Bool) (s : State) :
    (handOver o n v s).settling = s.settling ∧ (handOver o n v s).icu = s.icu ∧ (handOver o n v s).bu = s.bu
      ∧ (handOver o n v s).blc = s.blc ∧ (handOver o n v s).ts = s.ts ∧ (handOver o n v s).freeIndex = s.freeIndex
      ∧ (handOver o n v s).pending = s.pending := by
  simp only [handOver]
  simp [*]

@[simp] theorem enterSettling_frame (s : State) :
    (enterSettling s).settling = s.settling ∧ (enterSettling s).icu = s.icu ∧ (enterSettling s).ppc = s.ppc
      ∧ (enterSettling s).bbc = s.bbc ∧ (enterSettling s).cc = s.cc ∧ (enterSettling s).bu = s.bu
      ∧ (enterSettling s).blc = s.blc ∧ (enterSettling s).dl = s.dl ∧ (enterSettling s).ts = s.ts
      ∧ (enterSettling s).lu = s.lu ∧ (enterSettling s).delivered = s.delivered ∧ (enterSettling s).freeIndex = s.freeIndex
      ∧ (enterSettling s).pending = s.pending := by
  simp only [enterSettling]
  simp [*]

@[simp] theorem dropHold_frame (e : Ending) (o : Option DropOutcome) (s : State) :
    (dropHold e o s).settling = s.settling ∧ (dropHold e o s).icu = s.icu ∧ (dropHold e o s).ppc = s.ppc
      ∧ (dropHold e o s).bbc = s.bbc ∧ (dropHold e o s).cc = s.cc ∧ (dropHold e o s).bu = s.bu
      ∧ (dropHold e o s).blc = s.blc ∧ (dropHold e o s).dl = s.dl ∧ (dropHold e o s).ts = s.ts
      ∧ (dropHold e o s).freeIndex = s.freeIndex ∧ (dropHold e o s).pending = s.pending := by
  simp only [dropHold]
  simp [*]

@[simp] theorem leaveEvent_frame (e : Ending) (st : ShmState) (s : State) :
    (leaveEvent e st s).settling = s.settling ∧ (leaveEvent e st s).icu = s.icu ∧ (leaveEvent e st s).ppc = s.ppc
      ∧ (leaveEvent e st s).bbc = s.bbc ∧ (leaveEvent e st s).cc = s.cc ∧ (leaveEvent e st s).bu = s.bu
      ∧ (leaveEvent e st s).blc = s.blc ∧ (leaveEvent e st s).dl = s.dl ∧ (leaveEvent e st s).freeIndex = s.freeIndex
      ∧ (leaveEvent e st s).pending = s.pending := by
  simp only [leaveEvent]
  simp [*]

@[simp] theorem closeEvent_frame (e : Ending) (st : ShmState) (s : State) :
    (closeEvent e st s).settling = s.settling ∧ (closeEvent e st s).icu = s.icu ∧ (closeEvent e st s).ppc = s.ppc
      ∧ (closeEvent e st s).bbc = s.bbc ∧ (closeEvent e st s).cc = s.cc ∧ (closeEvent e st s).bu = s.bu
      ∧ (closeEvent e st s).blc = s.blc ∧ (closeEvent e st s).freeIndex = s.freeIndex
      ∧ (closeEvent e st s).pending = s.pending := by
  simp only [closeEvent]
  simp [*]

@[simp] theorem windowEnd_frame (s : State) :
    (windowEnd s).settling = s.settling ∧ (windowEnd s).icu = s.icu ∧ (windowEnd s).bu = s.bu ∧ (windowEnd s).blc = s.blc
      ∧ (windowEnd s).ts = s.ts ∧ (windowEnd s).freeIndex = s.freeIndex ∧ (windowEnd s).pending = s.pending := by
  simp only [windowEnd]
  simp [*]

@[simp] theorem testWindow_frame (s : State) :
    (testWindow s).settling = s.settling ∧ (testWindow s).icu = s.icu ∧ (testWindow s).bu = s.bu
      ∧ (testWindow s).blc = s.blc ∧ (testWindow s).ts = s.ts ∧ (testWindow s).freeIndex = s.freeIndex
      ∧ (testWindow s).pending = s.pending := by
  simp only [testWindow]
  repeat' split
  all_goals simp [*]

@[simp] theorem sampleIdle_frame (m2 : Nat) (s : State) :
    (sampleIdle m2 s).settling = s.settling ∧ (sampleIdle m2 s).icu = s.icu ∧ (sampleIdle m2 s).bu = s.bu
      ∧ (sampleIdle m2 s).blc = s.blc ∧ (sampleIdle m2 s).ts = s.ts ∧ (sampleIdle m2 s).freeIndex = s.freeIndex
      ∧ (sampleIdle m2 s).pending = s.pending := by
  simp only [sampleIdle]
  repeat' split
  all_goals simp [*]

@[simp] theorem caughtFall_frame (s : State) :
    (caughtFall s).settling = s.settling ∧ (caughtFall s).icu = s.icu ∧ (caughtFall s).bu = s.bu
      ∧ (caughtFall s).blc = s.blc ∧ (caughtFall s).ts = s.ts ∧ (caughtFall s).freeIndex = s.freeIndex
      ∧ (caughtFall s).pending = s.pending := by
  simp only [caughtFall]
  simp [*]

@[simp] theorem sampleFalling_frame (m2 : Nat) (s : State) :
    (sampleFalling m2 s).settling = s.settling ∧ (sampleFalling m2 s).icu = s.icu ∧ (sampleFalling m2 s).bu = s.bu
      ∧ (sampleFalling m2 s).blc = s.blc ∧ (sampleFalling m2 s).ts = s.ts ∧ (sampleFalling m2 s).freeIndex = s.freeIndex
      ∧ (sampleFalling m2 s).pending = s.pending := by
  simp only [sampleFalling]
  repeat' split
  all_goals simp [*]

@[simp] theorem sampleImpact_frame (m2 : Nat) (s : State) :
    (sampleImpact m2 s).settling = s.settling ∧ (sampleImpact m2 s).icu = s.icu ∧ (sampleImpact m2 s).bu = s.bu
      ∧ (sampleImpact m2 s).blc = s.blc ∧ (sampleImpact m2 s).ts = s.ts ∧ (sampleImpact m2 s).freeIndex = s.freeIndex
      ∧ (sampleImpact m2 s).pending = s.pending := by
  simp only [sampleImpact]
  repeat' split
  all_goals simp [*]

@[simp] theorem fallAgain_frame (q m2 : Nat) (s : State) :
    (fallAgain q m2 s).settling = s.settling ∧ (fallAgain q m2 s).icu = s.icu ∧ (fallAgain q m2 s).ppc = s.ppc
      ∧ (fallAgain q m2 s).bbc = s.bbc ∧ (fallAgain q m2 s).cc = s.cc ∧ (fallAgain q m2 s).bu = s.bu
      ∧ (fallAgain q m2 s).blc = s.blc ∧ (fallAgain q m2 s).ts = s.ts ∧ (fallAgain q m2 s).freeIndex = s.freeIndex
      ∧ (fallAgain q m2 s).pending = s.pending := by
  simp only [fallAgain]
  simp [*]

@[simp] theorem sampleSettling_frame (m2 : Nat) (s : State) :
    (sampleSettling m2 s).settling = s.settling ∧ (sampleSettling m2 s).icu = s.icu ∧ (sampleSettling m2 s).ppc = s.ppc
      ∧ (sampleSettling m2 s).bbc = s.bbc ∧ (sampleSettling m2 s).cc = s.cc ∧ (sampleSettling m2 s).bu = s.bu
      ∧ (sampleSettling m2 s).blc = s.blc ∧ (sampleSettling m2 s).freeIndex = s.freeIndex
      ∧ (sampleSettling m2 s).pending = s.pending := by
  simp only [sampleSettling]
  repeat' split
  all_goals simp [*]

@[simp] theorem takeSample_frame (m2 : Nat) (s : State) :
    (takeSample m2 s).settling = s.settling ∧ (takeSample m2 s).icu = s.icu ∧ (takeSample m2 s).bu = s.bu
      ∧ (takeSample m2 s).blc = s.blc ∧ (takeSample m2 s).freeIndex = s.freeIndex ∧ (takeSample m2 s).pending = s.pending := by
  simp only [takeSample]
  repeat' split
  all_goals simp [*]

@[simp] theorem forwardMotion_frame (x y z : Int) (s : State) :
    (forwardMotion x y z s).settling = s.settling ∧ (forwardMotion x y z s).icu = s.icu
      ∧ (forwardMotion x y z s).ppc = s.ppc ∧ (forwardMotion x y z s).bbc = s.bbc ∧ (forwardMotion x y z s).cc = s.cc
      ∧ (forwardMotion x y z s).bu = s.bu ∧ (forwardMotion x y z s).blc = s.blc ∧ (forwardMotion x y z s).dl = s.dl
      ∧ (forwardMotion x y z s).ts = s.ts ∧ (forwardMotion x y z s).delivered = s.delivered
      ∧ (forwardMotion x y z s).freeIndex = s.freeIndex ∧ (forwardMotion x y z s).pending = s.pending := by
  simp only [forwardMotion]
  repeat' split
  all_goals simp [*]

@[simp] theorem settleExpired_frame (s : State) :
    (settleExpired s).settling = s.settling ∧ (settleExpired s).icu = s.icu ∧ (settleExpired s).ppc = s.ppc
      ∧ (settleExpired s).bbc = s.bbc ∧ (settleExpired s).cc = s.cc ∧ (settleExpired s).bu = s.bu
      ∧ (settleExpired s).blc = s.blc ∧ (settleExpired s).freeIndex = s.freeIndex ∧ (settleExpired s).pending = s.pending := by
  simp only [settleExpired]
  repeat' split
  all_goals simp [*]

@[simp] theorem sensorLost_frame (s : State) :
    (sensorLost s).settling = s.settling ∧ (sensorLost s).icu = s.icu ∧ (sensorLost s).bu = s.bu
      ∧ (sensorLost s).blc = s.blc ∧ (sensorLost s).freeIndex = s.freeIndex ∧ (sensorLost s).pending = s.pending := by
  simp only [sensorLost]
  repeat' split
  all_goals simp [*]

/-! ### The inputs and the tables -/

@[simp] theorem acceptInput_frame (i : Input) (s : State) :
    (acceptInput i s).settling = s.settling ∧ (acceptInput i s).ppc = s.ppc ∧ (acceptInput i s).bbc = s.bbc
      ∧ (acceptInput i s).cc = s.cc ∧ (acceptInput i s).bu = s.bu ∧ (acceptInput i s).blc = s.blc
      ∧ (acceptInput i s).shm = s.shm ∧ (acceptInput i s).dl = s.dl ∧ (acceptInput i s).ts = s.ts
      ∧ (acceptInput i s).lu = s.lu ∧ (acceptInput i s).freeIndex = s.freeIndex ∧ (acceptInput i s).pending = s.pending := by
  simp only [acceptInput]
  simp [*]

@[simp] theorem meetLength_frame (old : Icu) (s : State) (i : Input) :
    (meetLength old s i).settling = s.settling ∧ (meetLength old s i).ppc = s.ppc ∧ (meetLength old s i).bbc = s.bbc
      ∧ (meetLength old s i).cc = s.cc ∧ (meetLength old s i).bu = s.bu ∧ (meetLength old s i).blc = s.blc
      ∧ (meetLength old s i).shm = s.shm ∧ (meetLength old s i).dl = s.dl ∧ (meetLength old s i).ts = s.ts
      ∧ (meetLength old s i).lu = s.lu ∧ (meetLength old s i).freeIndex = s.freeIndex
      ∧ (meetLength old s i).pending = s.pending := by
  simp only [meetLength]
  repeat' split
  all_goals simp [*]

@[simp] theorem changeLengths_frame (c : LengthCause) (s : State) :
    (changeLengths c s).settling = s.settling ∧ (changeLengths c s).ppc = s.ppc ∧ (changeLengths c s).bbc = s.bbc
      ∧ (changeLengths c s).cc = s.cc ∧ (changeLengths c s).bu = s.bu ∧ (changeLengths c s).blc = s.blc
      ∧ (changeLengths c s).shm = s.shm ∧ (changeLengths c s).dl = s.dl ∧ (changeLengths c s).ts = s.ts
      ∧ (changeLengths c s).lu = s.lu ∧ (changeLengths c s).freeIndex = s.freeIndex
      ∧ (changeLengths c s).pending = s.pending := by
  simp [changeLengths, relength, allInputs]

@[simp] theorem swapParams_frame (s : State) :
    (swapParams s).settling = s.settling ∧ (swapParams s).icu = s.icu ∧ (swapParams s).ppc = s.ppc
      ∧ (swapParams s).bbc = s.bbc ∧ (swapParams s).cc = s.cc ∧ (swapParams s).bu = s.bu ∧ (swapParams s).blc = s.blc
      ∧ (swapParams s).shm = s.shm ∧ (swapParams s).dl = s.dl ∧ (swapParams s).freeIndex = s.freeIndex
      ∧ (swapParams s).pending = s.pending := by
  simp only [swapParams]
  simp [*]

@[simp] theorem swapProfiles_frame (s : State) :
    (swapProfiles s).settling = s.settling ∧ (swapProfiles s).icu = s.icu ∧ (swapProfiles s).ppc = s.ppc
      ∧ (swapProfiles s).bbc = s.bbc ∧ (swapProfiles s).cc = s.cc ∧ (swapProfiles s).bu = s.bu
      ∧ (swapProfiles s).blc = s.blc ∧ (swapProfiles s).shm = s.shm ∧ (swapProfiles s).dl = s.dl
      ∧ (swapProfiles s).freeIndex = s.freeIndex ∧ (swapProfiles s).pending = s.pending := by
  simp only [swapProfiles]
  simp [*]

@[simp] theorem swapLevels_frame (s : State) :
    (swapLevels s).settling = s.settling ∧ (swapLevels s).icu = s.icu ∧ (swapLevels s).ppc = s.ppc
      ∧ (swapLevels s).bbc = s.bbc ∧ (swapLevels s).cc = s.cc ∧ (swapLevels s).bu = s.bu ∧ (swapLevels s).blc = s.blc
      ∧ (swapLevels s).shm = s.shm ∧ (swapLevels s).dl = s.dl ∧ (swapLevels s).delivered = s.delivered
      ∧ (swapLevels s).freeIndex = s.freeIndex ∧ (swapLevels s).pending = s.pending := by
  simp only [swapLevels]
  simp [*]

@[simp] theorem applied_frame (table : Nat) (s : State) :
    (applied table s).settling = s.settling ∧ (applied table s).icu = s.icu ∧ (applied table s).ppc = s.ppc
      ∧ (applied table s).bbc = s.bbc ∧ (applied table s).cc = s.cc ∧ (applied table s).bu = s.bu
      ∧ (applied table s).blc = s.blc ∧ (applied table s).shm = s.shm ∧ (applied table s).dl = s.dl
      ∧ (applied table s).freeIndex = s.freeIndex ∧ (applied table s).pending = s.pending := by
  simp only [applied]
  repeat' split
  all_goals simp [*]

@[simp] theorem resetTables_frame (s : State) :
    (resetTables s).settling = s.settling ∧ (resetTables s).icu = s.icu ∧ (resetTables s).ppc = s.ppc
      ∧ (resetTables s).bbc = s.bbc ∧ (resetTables s).cc = s.cc ∧ (resetTables s).bu = s.bu ∧ (resetTables s).blc = s.blc
      ∧ (resetTables s).shm = s.shm ∧ (resetTables s).dl = s.dl ∧ (resetTables s).lu = s.lu
      ∧ (resetTables s).delivered = s.delivered ∧ (resetTables s).freeIndex = s.freeIndex
      ∧ (resetTables s).pending = s.pending := by
  simp only [resetTables]
  simp [*]

end Sys2Proof.Machine
end

