-- ==== Sys2Proof/Laws/Link.lean ====
section
/-! SUPPORT. What the operations that reach the Link Unit leave of it: an operation of another block changes only the pending set, the traffic
queue and the sequence counters. One lemma per operation. -/

namespace Sys2Proof.Machine

/-! ### The named operations (Ops) -/

@[simp] theorem raise_link (n : Notice) (s : State) :
    (raise n s).lu.receiver = s.lu.receiver ∧ (raise n s).lu.responses = s.lu.responses
      ∧ (raise n s).lu.overrun = s.lu.overrun ∧ (raise n s).lu.line = s.lu.line
      ∧ (raise n s).lu.silenceTimer = s.lu.silenceTimer ∧ (raise n s).lu.silence = s.lu.silence
      ∧ (raise n s).lu.resetPending = s.lu.resetPending := by
  simp only [raise]
  repeat' split
  all_goals simp [*]

@[simp] theorem raiseIf_link (c : Bool) (n : Notice) (s : State) :
    (raiseIf c n s).lu.receiver = s.lu.receiver ∧ (raiseIf c n s).lu.responses = s.lu.responses
      ∧ (raiseIf c n s).lu.overrun = s.lu.overrun ∧ (raiseIf c n s).lu.line = s.lu.line
      ∧ (raiseIf c n s).lu.silenceTimer = s.lu.silenceTimer ∧ (raiseIf c n s).lu.silence = s.lu.silence
      ∧ (raiseIf c n s).lu.resetPending = s.lu.resetPending := by
  simp only [raiseIf]
  repeat' split
  all_goals simp [*]

@[simp] theorem relevel_link (s : State) :
    (relevel s).lu.receiver = s.lu.receiver ∧ (relevel s).lu.responses = s.lu.responses
      ∧ (relevel s).lu.overrun = s.lu.overrun ∧ (relevel s).lu.line = s.lu.line
      ∧ (relevel s).lu.silenceTimer = s.lu.silenceTimer ∧ (relevel s).lu.silence = s.lu.silence
      ∧ (relevel s).lu.resetPending = s.lu.resetPending := by
  simp only [relevel]
  simp [*]

@[simp] theorem handTraffic_link (t : Traffic) (s : State) :
    (handTraffic t s).lu.receiver = s.lu.receiver ∧ (handTraffic t s).lu.responses = s.lu.responses
      ∧ (handTraffic t s).lu.overrun = s.lu.overrun ∧ (handTraffic t s).lu.line = s.lu.line
      ∧ (handTraffic t s).lu.silenceTimer = s.lu.silenceTimer ∧ (handTraffic t s).lu.silence = s.lu.silence
      ∧ (handTraffic t s).lu.resetPending = s.lu.resetPending := by
  simp only [handTraffic]
  split
  · simp
  · cases t <;> simp [countTraffic]

/-! ### Charging and the pack memory -/

@[simp] theorem sessionStopped_link (b : Bay) (r : Option HeldReason) (s : State) :
    (sessionStopped b r s).lu.receiver = s.lu.receiver ∧ (sessionStopped b r s).lu.responses = s.lu.responses
      ∧ (sessionStopped b r s).lu.overrun = s.lu.overrun ∧ (sessionStopped b r s).lu.line = s.lu.line
      ∧ (sessionStopped b r s).lu.silenceTimer = s.lu.silenceTimer ∧ (sessionStopped b r s).lu.silence = s.lu.silence
      ∧ (sessionStopped b r s).lu.resetPending = s.lu.resetPending := by
  simp only [sessionStopped]
  repeat' split
  all_goals simp [*]

@[simp] theorem stopSession_link (b : Bay) (r : HeldReason) (s : State) :
    (stopSession b r s).lu.receiver = s.lu.receiver ∧ (stopSession b r s).lu.responses = s.lu.responses
      ∧ (stopSession b r s).lu.overrun = s.lu.overrun ∧ (stopSession b r s).lu.line = s.lu.line
      ∧ (stopSession b r s).lu.silenceTimer = s.lu.silenceTimer ∧ (stopSession b r s).lu.silence = s.lu.silence
      ∧ (stopSession b r s).lu.resetPending = s.lu.resetPending := by
  simp only [stopSession]
  simp [*]

@[simp] theorem stopCharging_link (b : Bay) (s : State) :
    (stopCharging b s).lu.receiver = s.lu.receiver ∧ (stopCharging b s).lu.responses = s.lu.responses
      ∧ (stopCharging b s).lu.overrun = s.lu.overrun ∧ (stopCharging b s).lu.line = s.lu.line
      ∧ (stopCharging b s).lu.silenceTimer = s.lu.silenceTimer ∧ (stopCharging b s).lu.silence = s.lu.silence
      ∧ (stopCharging b s).lu.resetPending = s.lu.resetPending := by
  simp only [stopCharging]
  repeat' split
  all_goals simp [*]

@[simp] theorem stopAllCharging_link (s : State) :
    (stopAllCharging s).lu.receiver = s.lu.receiver ∧ (stopAllCharging s).lu.responses = s.lu.responses
      ∧ (stopAllCharging s).lu.overrun = s.lu.overrun ∧ (stopAllCharging s).lu.line = s.lu.line
      ∧ (stopAllCharging s).lu.silenceTimer = s.lu.silenceTimer ∧ (stopAllCharging s).lu.silence = s.lu.silence
      ∧ (stopAllCharging s).lu.resetPending = s.lu.resetPending := by
  simp only [stopAllCharging]
  simp [*]

@[simp] theorem countFailure_link (r : TxResult) (s : State) :
    (countFailure r s).lu.receiver = s.lu.receiver ∧ (countFailure r s).lu.responses = s.lu.responses
      ∧ (countFailure r s).lu.overrun = s.lu.overrun ∧ (countFailure r s).lu.line = s.lu.line
      ∧ (countFailure r s).lu.silenceTimer = s.lu.silenceTimer ∧ (countFailure r s).lu.silence = s.lu.silence
      ∧ (countFailure r s).lu.resetPending = s.lu.resetPending := by
  simp only [countFailure]
  simp [*]

@[simp] theorem closeCharge_link (b : Bay) (i : Nat) (v : Recorded) (s : State) :
    (closeCharge b i v s).lu.receiver = s.lu.receiver ∧ (closeCharge b i v s).lu.responses = s.lu.responses
      ∧ (closeCharge b i v s).lu.overrun = s.lu.overrun ∧ (closeCharge b i v s).lu.line = s.lu.line
      ∧ (closeCharge b i v s).lu.silenceTimer = s.lu.silenceTimer ∧ (closeCharge b i v s).lu.silence = s.lu.silence
      ∧ (closeCharge b i v s).lu.resetPending = s.lu.resetPending := by
  simp only [closeCharge]
  simp [*]

@[simp] theorem startDone_link (s : State) :
    (startDone s).lu.receiver = s.lu.receiver ∧ (startDone s).lu.responses = s.lu.responses
      ∧ (startDone s).lu.overrun = s.lu.overrun ∧ (startDone s).lu.line = s.lu.line
      ∧ (startDone s).lu.silenceTimer = s.lu.silenceTimer ∧ (startDone s).lu.silence = s.lu.silence
      ∧ (startDone s).lu.resetPending = s.lu.resetPending := by
  simp only [startDone]
  repeat' split
  all_goals simp [*]

@[simp] theorem listDone_link (k : ListKind) (s : State) :
    (listDone k s).lu.receiver = s.lu.receiver ∧ (listDone k s).lu.responses = s.lu.responses
      ∧ (listDone k s).lu.overrun = s.lu.overrun ∧ (listDone k s).lu.line = s.lu.line
      ∧ (listDone k s).lu.silenceTimer = s.lu.silenceTimer ∧ (listDone k s).lu.silence = s.lu.silence
      ∧ (listDone k s).lu.resetPending = s.lu.resetPending := by
  simp only [listDone]
  repeat' split
  all_goals simp [*]

@[simp] theorem listFailed_link (k : ListKind) (r : TxResult) (s : State) :
    (listFailed k r s).lu.receiver = s.lu.receiver ∧ (listFailed k r s).lu.responses = s.lu.responses
      ∧ (listFailed k r s).lu.overrun = s.lu.overrun ∧ (listFailed k r s).lu.line = s.lu.line
      ∧ (listFailed k r s).lu.silenceTimer = s.lu.silenceTimer ∧ (listFailed k r s).lu.silence = s.lu.silence
      ∧ (listFailed k r s).lu.resetPending = s.lu.resetPending := by
  simp only [listFailed]
  repeat' split
  all_goals simp [*]

@[simp] theorem markPacks_link (ns : List Nat) (seq : Option Nat) (s : State) :
    (markPacks ns seq s).lu.receiver = s.lu.receiver ∧ (markPacks ns seq s).lu.responses = s.lu.responses
      ∧ (markPacks ns seq s).lu.overrun = s.lu.overrun ∧ (markPacks ns seq s).lu.line = s.lu.line
      ∧ (markPacks ns seq s).lu.silenceTimer = s.lu.silenceTimer ∧ (markPacks ns seq s).lu.silence = s.lu.silence
      ∧ (markPacks ns seq s).lu.resetPending = s.lu.resetPending := by
  simp only [markPacks]
  repeat' split
  all_goals simp [*]

@[simp] theorem rematchAll_link (s : State) :
    (rematchAll s).lu.receiver = s.lu.receiver ∧ (rematchAll s).lu.responses = s.lu.responses
      ∧ (rematchAll s).lu.overrun = s.lu.overrun ∧ (rematchAll s).lu.line = s.lu.line
      ∧ (rematchAll s).lu.silenceTimer = s.lu.silenceTimer ∧ (rematchAll s).lu.silence = s.lu.silence
      ∧ (rematchAll s).lu.resetPending = s.lu.resetPending := by
  simp only [rematchAll]
  repeat' split
  all_goals simp [*]

@[simp] theorem sessionDone_link (b : Bay) (n : Nat) (s : State) :
    (sessionDone b n s).lu.receiver = s.lu.receiver ∧ (sessionDone b n s).lu.responses = s.lu.responses
      ∧ (sessionDone b n s).lu.overrun = s.lu.overrun ∧ (sessionDone b n s).lu.line = s.lu.line
      ∧ (sessionDone b n s).lu.silenceTimer = s.lu.silenceTimer ∧ (sessionDone b n s).lu.silence = s.lu.silence
      ∧ (sessionDone b n s).lu.resetPending = s.lu.resetPending := by
  simp only [sessionDone]
  simp [*]

@[simp] theorem sessionTelemetry_link (b : Bay) (t : Telemetry) (s : State) :
    (sessionTelemetry b t s).lu.receiver = s.lu.receiver ∧ (sessionTelemetry b t s).lu.responses = s.lu.responses
      ∧ (sessionTelemetry b t s).lu.overrun = s.lu.overrun ∧ (sessionTelemetry b t s).lu.line = s.lu.line
      ∧ (sessionTelemetry b t s).lu.silenceTimer = s.lu.silenceTimer ∧ (sessionTelemetry b t s).lu.silence = s.lu.silence
      ∧ (sessionTelemetry b t s).lu.resetPending = s.lu.resetPending := by
  simp only [sessionTelemetry]
  repeat' split
  all_goals simp [*]

@[simp] theorem chargeTelemetry_link (b : Bay) (t : Telemetry) (s : State) :
    (chargeTelemetry b t s).lu.receiver = s.lu.receiver ∧ (chargeTelemetry b t s).lu.responses = s.lu.responses
      ∧ (chargeTelemetry b t s).lu.overrun = s.lu.overrun ∧ (chargeTelemetry b t s).lu.line = s.lu.line
      ∧ (chargeTelemetry b t s).lu.silenceTimer = s.lu.silenceTimer ∧ (chargeTelemetry b t s).lu.silence = s.lu.silence
      ∧ (chargeTelemetry b t s).lu.resetPending = s.lu.resetPending := by
  simp only [chargeTelemetry]
  repeat' split
  all_goals simp [*]

/-! ### The power path -/

@[simp] theorem clearTarget_link (y : Source) (s : State) :
    (clearTarget y s).lu.receiver = s.lu.receiver ∧ (clearTarget y s).lu.responses = s.lu.responses
      ∧ (clearTarget y s).lu.overrun = s.lu.overrun ∧ (clearTarget y s).lu.line = s.lu.line
      ∧ (clearTarget y s).lu.silenceTimer = s.lu.silenceTimer ∧ (clearTarget y s).lu.silence = s.lu.silence
      ∧ (clearTarget y s).lu.resetPending = s.lu.resetPending := by
  simp only [clearTarget]
  repeat' split
  all_goals simp [*]

@[simp] theorem startTransfer_link (x y : Source) (m : Method) (c : Cause) (s : State) :
    (startTransfer x y m c s).lu.receiver = s.lu.receiver ∧ (startTransfer x y m c s).lu.responses = s.lu.responses
      ∧ (startTransfer x y m c s).lu.overrun = s.lu.overrun ∧ (startTransfer x y m c s).lu.line = s.lu.line
      ∧ (startTransfer x y m c s).lu.silenceTimer = s.lu.silenceTimer ∧ (startTransfer x y m c s).lu.silence = s.lu.silence
      ∧ (startTransfer x y m c s).lu.resetPending = s.lu.resetPending := by
  simp only [startTransfer]
  repeat' split
  all_goals simp [*]

@[simp] theorem retryWaiting_link (s : State) :
    (retryWaiting s).1.lu.receiver = s.lu.receiver ∧ (retryWaiting s).1.lu.responses = s.lu.responses
      ∧ (retryWaiting s).1.lu.overrun = s.lu.overrun ∧ (retryWaiting s).1.lu.line = s.lu.line
      ∧ (retryWaiting s).1.lu.silenceTimer = s.lu.silenceTimer ∧ (retryWaiting s).1.lu.silence = s.lu.silence
      ∧ (retryWaiting s).1.lu.resetPending = s.lu.resetPending := by
  simp only [retryWaiting]
  repeat' split
  all_goals simp [*]

@[simp] theorem seekTransfer_link (b : Bay) (y : Source) (c : Cause) (w : WaitCause) (s : State) :
    (seekTransfer b y c w s).lu.receiver = s.lu.receiver ∧ (seekTransfer b y c w s).lu.responses = s.lu.responses
      ∧ (seekTransfer b y c w s).lu.overrun = s.lu.overrun ∧ (seekTransfer b y c w s).lu.line = s.lu.line
      ∧ (seekTransfer b y c w s).lu.silenceTimer = s.lu.silenceTimer ∧ (seekTransfer b y c w s).lu.silence = s.lu.silence
      ∧ (seekTransfer b y c w s).lu.resetPending = s.lu.resetPending := by
  simp only [seekTransfer]
  repeat' split
  all_goals simp [*]

@[simp] theorem giveUpLoad_link (b : Bay) (s : State) :
    (giveUpLoad b s).lu.receiver = s.lu.receiver ∧ (giveUpLoad b s).lu.responses = s.lu.responses
      ∧ (giveUpLoad b s).lu.overrun = s.lu.overrun ∧ (giveUpLoad b s).lu.line = s.lu.line
      ∧ (giveUpLoad b s).lu.silenceTimer = s.lu.silenceTimer ∧ (giveUpLoad b s).lu.silence = s.lu.silence
      ∧ (giveUpLoad b s).lu.resetPending = s.lu.resetPending := by
  simp only [giveUpLoad]
  repeat' split
  all_goals simp [*]

@[simp] theorem chooseSource_link (s : State) :
    (chooseSource s).lu.receiver = s.lu.receiver ∧ (chooseSource s).lu.responses = s.lu.responses
      ∧ (chooseSource s).lu.overrun = s.lu.overrun ∧ (chooseSource s).lu.line = s.lu.line
      ∧ (chooseSource s).lu.silenceTimer = s.lu.silenceTimer ∧ (chooseSource s).lu.silence = s.lu.silence
      ∧ (chooseSource s).lu.resetPending = s.lu.resetPending := by
  simp only [chooseSource]
  repeat' split
  all_goals simp [*]

@[simp] theorem select_link (s : State) :
    (select s).lu.receiver = s.lu.receiver ∧ (select s).lu.responses = s.lu.responses ∧ (select s).lu.overrun = s.lu.overrun
      ∧ (select s).lu.line = s.lu.line ∧ (select s).lu.silenceTimer = s.lu.silenceTimer
      ∧ (select s).lu.silence = s.lu.silence ∧ (select s).lu.resetPending = s.lu.resetPending := by
  have h := retryWaiting_link (dropStaleWaiting s)
  simp only [select]
  repeat' split
  all_goals simp_all

@[simp] theorem goReleased_link (b : Bay) (s : State) :
    (goReleased b s).lu.receiver = s.lu.receiver ∧ (goReleased b s).lu.responses = s.lu.responses
      ∧ (goReleased b s).lu.overrun = s.lu.overrun ∧ (goReleased b s).lu.line = s.lu.line
      ∧ (goReleased b s).lu.silenceTimer = s.lu.silenceTimer ∧ (goReleased b s).lu.silence = s.lu.silence
      ∧ (goReleased b s).lu.resetPending = s.lu.resetPending := by
  simp only [goReleased]
  repeat' split
  all_goals simp [*]

@[simp] theorem seekRelease_link (b : Bay) (s : State) :
    (seekRelease b s).1.lu.receiver = s.lu.receiver ∧ (seekRelease b s).1.lu.responses = s.lu.responses
      ∧ (seekRelease b s).1.lu.overrun = s.lu.overrun ∧ (seekRelease b s).1.lu.line = s.lu.line
      ∧ (seekRelease b s).1.lu.silenceTimer = s.lu.silenceTimer ∧ (seekRelease b s).1.lu.silence = s.lu.silence
      ∧ (seekRelease b s).1.lu.resetPending = s.lu.resetPending := by
  simp only [seekRelease]
  repeat' split
  all_goals simp [*]

@[simp] theorem refuseRelease_link (b : Bay) (r : RefusalReason) (s : State) :
    (refuseRelease b r s).lu.receiver = s.lu.receiver ∧ (refuseRelease b r s).lu.responses = s.lu.responses
      ∧ (refuseRelease b r s).lu.overrun = s.lu.overrun ∧ (refuseRelease b r s).lu.line = s.lu.line
      ∧ (refuseRelease b r s).lu.silenceTimer = s.lu.silenceTimer ∧ (refuseRelease b r s).lu.silence = s.lu.silence
      ∧ (refuseRelease b r s).lu.resetPending = s.lu.resetPending := by
  simp only [refuseRelease]
  repeat' split
  all_goals simp [*]

@[simp] theorem releaseSupplying_link (b : Bay) (s : State) :
    (releaseSupplying b s).1.lu.receiver = s.lu.receiver ∧ (releaseSupplying b s).1.lu.responses = s.lu.responses
      ∧ (releaseSupplying b s).1.lu.overrun = s.lu.overrun ∧ (releaseSupplying b s).1.lu.line = s.lu.line
      ∧ (releaseSupplying b s).1.lu.silenceTimer = s.lu.silenceTimer ∧ (releaseSupplying b s).1.lu.silence = s.lu.silence
      ∧ (releaseSupplying b s).1.lu.resetPending = s.lu.resetPending := by
  have h := seekRelease_link b s
  simp only [releaseSupplying]
  repeat' split
  all_goals simp_all

@[simp] theorem releaseCharging_link (b : Bay) (s : State) :
    (releaseCharging b s).lu.receiver = s.lu.receiver ∧ (releaseCharging b s).lu.responses = s.lu.responses
      ∧ (releaseCharging b s).lu.overrun = s.lu.overrun ∧ (releaseCharging b s).lu.line = s.lu.line
      ∧ (releaseCharging b s).lu.silenceTimer = s.lu.silenceTimer ∧ (releaseCharging b s).lu.silence = s.lu.silence
      ∧ (releaseCharging b s).lu.resetPending = s.lu.resetPending := by
  simp only [releaseCharging]
  simp [*]

@[simp] theorem releaseRequest_link (b : Bay) (s : State) :
    (releaseRequest b s).1.lu.receiver = s.lu.receiver ∧ (releaseRequest b s).1.lu.responses = s.lu.responses
      ∧ (releaseRequest b s).1.lu.overrun = s.lu.overrun ∧ (releaseRequest b s).1.lu.line = s.lu.line
      ∧ (releaseRequest b s).1.lu.silenceTimer = s.lu.silenceTimer ∧ (releaseRequest b s).1.lu.silence = s.lu.silence
      ∧ (releaseRequest b s).1.lu.resetPending = s.lu.resetPending := by
  simp only [releaseRequest]
  repeat' split
  all_goals simp [*]

@[simp] theorem evaluatePending_link (b : Bay) (s : State) :
    (evaluatePending b s).lu.receiver = s.lu.receiver ∧ (evaluatePending b s).lu.responses = s.lu.responses
      ∧ (evaluatePending b s).lu.overrun = s.lu.overrun ∧ (evaluatePending b s).lu.line = s.lu.line
      ∧ (evaluatePending b s).lu.silenceTimer = s.lu.silenceTimer ∧ (evaluatePending b s).lu.silence = s.lu.silence
      ∧ (evaluatePending b s).lu.resetPending = s.lu.resetPending := by
  simp only [evaluatePending]
  repeat' split
  all_goals simp [*]

@[simp] theorem evaluatePendings_link (s : State) :
    (evaluatePendings s).lu.receiver = s.lu.receiver ∧ (evaluatePendings s).lu.responses = s.lu.responses
      ∧ (evaluatePendings s).lu.overrun = s.lu.overrun ∧ (evaluatePendings s).lu.line = s.lu.line
      ∧ (evaluatePendings s).lu.silenceTimer = s.lu.silenceTimer ∧ (evaluatePendings s).lu.silence = s.lu.silence
      ∧ (evaluatePendings s).lu.resetPending = s.lu.resetPending := by
  simp only [evaluatePendings]
  repeat' split
  all_goals simp [*]

@[simp] theorem graceTest_link (s : State) :
    (graceTest s).lu.receiver = s.lu.receiver ∧ (graceTest s).lu.responses = s.lu.responses
      ∧ (graceTest s).lu.overrun = s.lu.overrun ∧ (graceTest s).lu.line = s.lu.line
      ∧ (graceTest s).lu.silenceTimer = s.lu.silenceTimer ∧ (graceTest s).lu.silence = s.lu.silence
      ∧ (graceTest s).lu.resetPending = s.lu.resetPending := by
  simp only [graceTest]
  repeat' split
  all_goals simp [*]

@[simp] theorem graceTestFor_link (b : Bay) (s : State) :
    (graceTestFor b s).lu.receiver = s.lu.receiver ∧ (graceTestFor b s).lu.responses = s.lu.responses
      ∧ (graceTestFor b s).lu.overrun = s.lu.overrun ∧ (graceTestFor b s).lu.line = s.lu.line
      ∧ (graceTestFor b s).lu.silenceTimer = s.lu.silenceTimer ∧ (graceTestFor b s).lu.silence = s.lu.silence
      ∧ (graceTestFor b s).lu.resetPending = s.lu.resetPending := by
  simp only [graceTestFor]
  repeat' split
  all_goals simp [*]

@[simp] theorem graceLeft_link (s : State) :
    (graceLeft s).lu.receiver = s.lu.receiver ∧ (graceLeft s).lu.responses = s.lu.responses
      ∧ (graceLeft s).lu.overrun = s.lu.overrun ∧ (graceLeft s).lu.line = s.lu.line
      ∧ (graceLeft s).lu.silenceTimer = s.lu.silenceTimer ∧ (graceLeft s).lu.silence = s.lu.silence
      ∧ (graceLeft s).lu.resetPending = s.lu.resetPending := by
  simp only [graceLeft]
  repeat' split
  all_goals simp [*]

@[simp] theorem selectSource_link (s : State) :
    (selectSource s).lu.receiver = s.lu.receiver ∧ (selectSource s).lu.responses = s.lu.responses
      ∧ (selectSource s).lu.overrun = s.lu.overrun ∧ (selectSource s).lu.line = s.lu.line
      ∧ (selectSource s).lu.silenceTimer = s.lu.silenceTimer ∧ (selectSource s).lu.silence = s.lu.silence
      ∧ (selectSource s).lu.resetPending = s.lu.resetPending := by
  simp only [selectSource]
  simp [*]

@[simp] theorem becameStandby_link (b : Bay) (s : State) :
    (becameStandby b s).lu.receiver = s.lu.receiver ∧ (becameStandby b s).lu.responses = s.lu.responses
      ∧ (becameStandby b s).lu.overrun = s.lu.overrun ∧ (becameStandby b s).lu.line = s.lu.line
      ∧ (becameStandby b s).lu.silenceTimer = s.lu.silenceTimer ∧ (becameStandby b s).lu.silence = s.lu.silence
      ∧ (becameStandby b s).lu.resetPending = s.lu.resetPending := by
  simp only [becameStandby]
  simp [*]

@[simp] theorem endTransfer_link (c : Bool) (s : State) :
    (endTransfer c s).lu.receiver = s.lu.receiver ∧ (endTransfer c s).lu.responses = s.lu.responses
      ∧ (endTransfer c s).lu.overrun = s.lu.overrun ∧ (endTransfer c s).lu.line = s.lu.line
      ∧ (endTransfer c s).lu.silenceTimer = s.lu.silenceTimer ∧ (endTransfer c s).lu.silence = s.lu.silence
      ∧ (endTransfer c s).lu.resetPending = s.lu.resetPending := by
  simp only [endTransfer]
  repeat' split
  all_goals simp [*]

@[simp] theorem sourceEnds_link (x : Option Source) (s : State) :
    (sourceEnds x s).lu.receiver = s.lu.receiver ∧ (sourceEnds x s).lu.responses = s.lu.responses
      ∧ (sourceEnds x s).lu.overrun = s.lu.overrun ∧ (sourceEnds x s).lu.line = s.lu.line
      ∧ (sourceEnds x s).lu.silenceTimer = s.lu.silenceTimer ∧ (sourceEnds x s).lu.silence = s.lu.silence
      ∧ (sourceEnds x s).lu.resetPending = s.lu.resetPending := by
  simp only [sourceEnds]
  repeat' split
  all_goals simp [*]

@[simp] theorem completeOverlap_link (t : Transfer) (s : State) :
    (completeOverlap t s).lu.receiver = s.lu.receiver ∧ (completeOverlap t s).lu.responses = s.lu.responses
      ∧ (completeOverlap t s).lu.overrun = s.lu.overrun ∧ (completeOverlap t s).lu.line = s.lu.line
      ∧ (completeOverlap t s).lu.silenceTimer = s.lu.silenceTimer ∧ (completeOverlap t s).lu.silence = s.lu.silence
      ∧ (completeOverlap t s).lu.resetPending = s.lu.resetPending := by
  simp only [completeOverlap]
  simp [*]

@[simp] theorem completeBridge_link (t : Transfer) (s : State) :
    (completeBridge t s).lu.receiver = s.lu.receiver ∧ (completeBridge t s).lu.responses = s.lu.responses
      ∧ (completeBridge t s).lu.overrun = s.lu.overrun ∧ (completeBridge t s).lu.line = s.lu.line
      ∧ (completeBridge t s).lu.silenceTimer = s.lu.silenceTimer ∧ (completeBridge t s).lu.silence = s.lu.silence
      ∧ (completeBridge t s).lu.resetPending = s.lu.resetPending := by
  simp only [completeBridge]
  repeat' split
  all_goals simp [*]

@[simp] theorem unplannedTransfer_link (x : Source) (c : Cause) (s : State) :
    (unplannedTransfer x c s).lu.receiver = s.lu.receiver ∧ (unplannedTransfer x c s).lu.responses = s.lu.responses
      ∧ (unplannedTransfer x c s).lu.overrun = s.lu.overrun ∧ (unplannedTransfer x c s).lu.line = s.lu.line
      ∧ (unplannedTransfer x c s).lu.silenceTimer = s.lu.silenceTimer ∧ (unplannedTransfer x c s).lu.silence = s.lu.silence
      ∧ (unplannedTransfer x c s).lu.resetPending = s.lu.resetPending := by
  simp only [unplannedTransfer]
  repeat' split
  all_goals simp [*]

@[simp] theorem releaseAgain_link (b : Bay) (s : State) :
    (releaseAgain b s).lu.receiver = s.lu.receiver ∧ (releaseAgain b s).lu.responses = s.lu.responses
      ∧ (releaseAgain b s).lu.overrun = s.lu.overrun ∧ (releaseAgain b s).lu.line = s.lu.line
      ∧ (releaseAgain b s).lu.silenceTimer = s.lu.silenceTimer ∧ (releaseAgain b s).lu.silence = s.lu.silence
      ∧ (releaseAgain b s).lu.resetPending = s.lu.resetPending := by
  have h := seekRelease_link b s
  simp only [releaseAgain]
  repeat' split
  all_goals simp_all

@[simp] theorem targetLost_link (c : Cause) (s : State) :
    (targetLost c s).lu.receiver = s.lu.receiver ∧ (targetLost c s).lu.responses = s.lu.responses
      ∧ (targetLost c s).lu.overrun = s.lu.overrun ∧ (targetLost c s).lu.line = s.lu.line
      ∧ (targetLost c s).lu.silenceTimer = s.lu.silenceTimer ∧ (targetLost c s).lu.silence = s.lu.silence
      ∧ (targetLost c s).lu.resetPending = s.lu.resetPending := by
  simp only [targetLost]
  repeat' split
  all_goals simp [*]

@[simp] theorem setDown_link (b : Bay) (s : State) :
    (setDown b s).lu.receiver = s.lu.receiver ∧ (setDown b s).lu.responses = s.lu.responses
      ∧ (setDown b s).lu.overrun = s.lu.overrun ∧ (setDown b s).lu.line = s.lu.line
      ∧ (setDown b s).lu.silenceTimer = s.lu.silenceTimer ∧ (setDown b s).lu.silence = s.lu.silence
      ∧ (setDown b s).lu.resetPending = s.lu.resetPending := by
  simp only [setDown]
  repeat' split
  all_goals simp [*]

@[simp] theorem releaseReleasing_link (b : Bay) (s : State) :
    (releaseReleasing b s).lu.receiver = s.lu.receiver ∧ (releaseReleasing b s).lu.responses = s.lu.responses
      ∧ (releaseReleasing b s).lu.overrun = s.lu.overrun ∧ (releaseReleasing b s).lu.line = s.lu.line
      ∧ (releaseReleasing b s).lu.silenceTimer = s.lu.silenceTimer ∧ (releaseReleasing b s).lu.silence = s.lu.silence
      ∧ (releaseReleasing b s).lu.resetPending = s.lu.resetPending := by
  simp only [releaseReleasing]
  repeat' split
  all_goals simp [*]

@[simp] theorem railOff_link (r : OffReason) (s : State) :
    (railOff r s).lu.receiver = s.lu.receiver ∧ (railOff r s).lu.responses = s.lu.responses
      ∧ (railOff r s).lu.overrun = s.lu.overrun ∧ (railOff r s).lu.line = s.lu.line
      ∧ (railOff r s).lu.silenceTimer = s.lu.silenceTimer ∧ (railOff r s).lu.silence = s.lu.silence
      ∧ (railOff r s).lu.resetPending = s.lu.resetPending := by
  simp only [railOff]
  simp [*]

@[simp] theorem railOffReleasing_link (r : OffReason) (s : State) :
    (railOffReleasing r s).lu.receiver = s.lu.receiver ∧ (railOffReleasing r s).lu.responses = s.lu.responses
      ∧ (railOffReleasing r s).lu.overrun = s.lu.overrun ∧ (railOffReleasing r s).lu.line = s.lu.line
      ∧ (railOffReleasing r s).lu.silenceTimer = s.lu.silenceTimer ∧ (railOffReleasing r s).lu.silence = s.lu.silence
      ∧ (railOffReleasing r s).lu.resetPending = s.lu.resetPending := by
  simp only [railOffReleasing]
  repeat' split
  all_goals simp [*]

@[simp] theorem bridgeExpired_link (s : State) :
    (bridgeExpired s).lu.receiver = s.lu.receiver ∧ (bridgeExpired s).lu.responses = s.lu.responses
      ∧ (bridgeExpired s).lu.overrun = s.lu.overrun ∧ (bridgeExpired s).lu.line = s.lu.line
      ∧ (bridgeExpired s).lu.silenceTimer = s.lu.silenceTimer ∧ (bridgeExpired s).lu.silence = s.lu.silence
      ∧ (bridgeExpired s).lu.resetPending = s.lu.resetPending := by
  simp only [bridgeExpired]
  repeat' split
  all_goals simp [*]

@[simp] theorem forcedRemoval_link (b : Bay) (s : State) :
    (forcedRemoval b s).lu.receiver = s.lu.receiver ∧ (forcedRemoval b s).lu.responses = s.lu.responses
      ∧ (forcedRemoval b s).lu.overrun = s.lu.overrun ∧ (forcedRemoval b s).lu.line = s.lu.line
      ∧ (forcedRemoval b s).lu.silenceTimer = s.lu.silenceTimer ∧ (forcedRemoval b s).lu.silence = s.lu.silence
      ∧ (forcedRemoval b s).lu.resetPending = s.lu.resetPending := by
  simp only [forcedRemoval]
  repeat' split
  all_goals simp [*]

@[simp] theorem dcArrived_link (s : State) :
    (dcArrived s).lu.receiver = s.lu.receiver ∧ (dcArrived s).lu.responses = s.lu.responses
      ∧ (dcArrived s).lu.overrun = s.lu.overrun ∧ (dcArrived s).lu.line = s.lu.line
      ∧ (dcArrived s).lu.silenceTimer = s.lu.silenceTimer ∧ (dcArrived s).lu.silence = s.lu.silence
      ∧ (dcArrived s).lu.resetPending = s.lu.resetPending := by
  simp only [dcArrived]
  simp [*]

@[simp] theorem dcGone_link (s : State) :
    (dcGone s).lu.receiver = s.lu.receiver ∧ (dcGone s).lu.responses = s.lu.responses ∧ (dcGone s).lu.overrun = s.lu.overrun
      ∧ (dcGone s).lu.line = s.lu.line ∧ (dcGone s).lu.silenceTimer = s.lu.silenceTimer
      ∧ (dcGone s).lu.silence = s.lu.silence ∧ (dcGone s).lu.resetPending = s.lu.resetPending := by
  simp only [dcGone]
  repeat' split
  all_goals simp [*]

/-! ### Bays -/

@[simp] theorem presRose_link (b : Bay) (s : State) :
    (presRose b s).lu.receiver = s.lu.receiver ∧ (presRose b s).lu.responses = s.lu.responses
      ∧ (presRose b s).lu.overrun = s.lu.overrun ∧ (presRose b s).lu.line = s.lu.line
      ∧ (presRose b s).lu.silenceTimer = s.lu.silenceTimer ∧ (presRose b s).lu.silence = s.lu.silence
      ∧ (presRose b s).lu.resetPending = s.lu.resetPending := by
  simp only [presRose]
  repeat' split
  all_goals simp [*]

@[simp] theorem returnToStandby_link (b : Bay) (s : State) :
    (returnToStandby b s).lu.receiver = s.lu.receiver ∧ (returnToStandby b s).lu.responses = s.lu.responses
      ∧ (returnToStandby b s).lu.overrun = s.lu.overrun ∧ (returnToStandby b s).lu.line = s.lu.line
      ∧ (returnToStandby b s).lu.silenceTimer = s.lu.silenceTimer ∧ (returnToStandby b s).lu.silence = s.lu.silence
      ∧ (returnToStandby b s).lu.resetPending = s.lu.resetPending := by
  simp only [returnToStandby]
  simp [*]

@[simp] theorem latchRose_link (b : Bay) (s : State) :
    (latchRose b s).lu.receiver = s.lu.receiver ∧ (latchRose b s).lu.responses = s.lu.responses
      ∧ (latchRose b s).lu.overrun = s.lu.overrun ∧ (latchRose b s).lu.line = s.lu.line
      ∧ (latchRose b s).lu.silenceTimer = s.lu.silenceTimer ∧ (latchRose b s).lu.silence = s.lu.silence
      ∧ (latchRose b s).lu.resetPending = s.lu.resetPending := by
  simp only [latchRose]
  repeat' split
  all_goals simp [*]

@[simp] theorem latchFell_link (b : Bay) (s : State) :
    (latchFell b s).lu.receiver = s.lu.receiver ∧ (latchFell b s).lu.responses = s.lu.responses
      ∧ (latchFell b s).lu.overrun = s.lu.overrun ∧ (latchFell b s).lu.line = s.lu.line
      ∧ (latchFell b s).lu.silenceTimer = s.lu.silenceTimer ∧ (latchFell b s).lu.silence = s.lu.silence
      ∧ (latchFell b s).lu.resetPending = s.lu.resetPending := by
  simp only [latchFell]
  repeat' split
  all_goals simp [*]

@[simp] theorem plainRemoval_link (b : Bay) (s : State) :
    (plainRemoval b s).lu.receiver = s.lu.receiver ∧ (plainRemoval b s).lu.responses = s.lu.responses
      ∧ (plainRemoval b s).lu.overrun = s.lu.overrun ∧ (plainRemoval b s).lu.line = s.lu.line
      ∧ (plainRemoval b s).lu.silenceTimer = s.lu.silenceTimer ∧ (plainRemoval b s).lu.silence = s.lu.silence
      ∧ (plainRemoval b s).lu.resetPending = s.lu.resetPending := by
  simp only [plainRemoval]
  repeat' split
  all_goals simp [*]

@[simp] theorem presFell_link (b : Bay) (s : State) :
    (presFell b s).lu.receiver = s.lu.receiver ∧ (presFell b s).lu.responses = s.lu.responses
      ∧ (presFell b s).lu.overrun = s.lu.overrun ∧ (presFell b s).lu.line = s.lu.line
      ∧ (presFell b s).lu.silenceTimer = s.lu.silenceTimer ∧ (presFell b s).lu.silence = s.lu.silence
      ∧ (presFell b s).lu.resetPending = s.lu.resetPending := by
  simp only [presFell]
  repeat' split
  all_goals simp [*]

@[simp] theorem relRose_link (b : Bay) (s : State) :
    (relRose b s).lu.receiver = s.lu.receiver ∧ (relRose b s).lu.responses = s.lu.responses
      ∧ (relRose b s).lu.overrun = s.lu.overrun ∧ (relRose b s).lu.line = s.lu.line
      ∧ (relRose b s).lu.silenceTimer = s.lu.silenceTimer ∧ (relRose b s).lu.silence = s.lu.silence
      ∧ (relRose b s).lu.resetPending = s.lu.resetPending := by
  simp only [relRose]
  simp [*]

@[simp] theorem fillForced_link (b : Bay) (s : State) :
    (fillForced b s).lu.receiver = s.lu.receiver ∧ (fillForced b s).lu.responses = s.lu.responses
      ∧ (fillForced b s).lu.overrun = s.lu.overrun ∧ (fillForced b s).lu.line = s.lu.line
      ∧ (fillForced b s).lu.silenceTimer = s.lu.silenceTimer ∧ (fillForced b s).lu.silence = s.lu.silence
      ∧ (fillForced b s).lu.resetPending = s.lu.resetPending := by
  simp only [fillForced]
  simp [*]

@[simp] theorem holdExpired_link (b : Bay) (s : State) :
    (holdExpired b s).lu.receiver = s.lu.receiver ∧ (holdExpired b s).lu.responses = s.lu.responses
      ∧ (holdExpired b s).lu.overrun = s.lu.overrun ∧ (holdExpired b s).lu.line = s.lu.line
      ∧ (holdExpired b s).lu.silenceTimer = s.lu.silenceTimer ∧ (holdExpired b s).lu.silence = s.lu.silence
      ∧ (holdExpired b s).lu.resetPending = s.lu.resetPending := by
  simp only [holdExpired]
  repeat' split
  all_goals simp [*]

@[simp] theorem graceExpired_link (s : State) :
    (graceExpired s).lu.receiver = s.lu.receiver ∧ (graceExpired s).lu.responses = s.lu.responses
      ∧ (graceExpired s).lu.overrun = s.lu.overrun ∧ (graceExpired s).lu.line = s.lu.line
      ∧ (graceExpired s).lu.silenceTimer = s.lu.silenceTimer ∧ (graceExpired s).lu.silence = s.lu.silence
      ∧ (graceExpired s).lu.resetPending = s.lu.resetPending := by
  simp only [graceExpired]
  repeat' split
  all_goals simp [*]

@[simp] theorem relock_link (b : Bay) (s : State) :
    (relock b s).lu.receiver = s.lu.receiver ∧ (relock b s).lu.responses = s.lu.responses
      ∧ (relock b s).lu.overrun = s.lu.overrun ∧ (relock b s).lu.line = s.lu.line
      ∧ (relock b s).lu.silenceTimer = s.lu.silenceTimer ∧ (relock b s).lu.silence = s.lu.silence
      ∧ (relock b s).lu.resetPending = s.lu.resetPending := by
  simp only [relock]
  repeat' split
  all_goals simp [*]

@[simp] theorem lapseExpired_link (b : Bay) (s : State) :
    (lapseExpired b s).lu.receiver = s.lu.receiver ∧ (lapseExpired b s).lu.responses = s.lu.responses
      ∧ (lapseExpired b s).lu.overrun = s.lu.overrun ∧ (lapseExpired b s).lu.line = s.lu.line
      ∧ (lapseExpired b s).lu.silenceTimer = s.lu.silenceTimer ∧ (lapseExpired b s).lu.silence = s.lu.silence
      ∧ (lapseExpired b s).lu.resetPending = s.lu.resetPending := by
  simp only [lapseExpired]
  repeat' split
  all_goals simp [*]

@[simp] theorem holdEnded_link (s : State) :
    (holdEnded s).lu.receiver = s.lu.receiver ∧ (holdEnded s).lu.responses = s.lu.responses
      ∧ (holdEnded s).lu.overrun = s.lu.overrun ∧ (holdEnded s).lu.line = s.lu.line
      ∧ (holdEnded s).lu.silenceTimer = s.lu.silenceTimer ∧ (holdEnded s).lu.silence = s.lu.silence
      ∧ (holdEnded s).lu.resetPending = s.lu.resetPending := by
  simp only [holdEnded]
  simp [*]

@[simp] theorem faultBay_link (b : Bay) (r : FaultReason) (s : State) :
    (faultBay b r s).lu.receiver = s.lu.receiver ∧ (faultBay b r s).lu.responses = s.lu.responses
      ∧ (faultBay b r s).lu.overrun = s.lu.overrun ∧ (faultBay b r s).lu.line = s.lu.line
      ∧ (faultBay b r s).lu.silenceTimer = s.lu.silenceTimer ∧ (faultBay b r s).lu.silence = s.lu.silence
      ∧ (faultBay b r s).lu.resetPending = s.lu.resetPending := by
  simp only [faultBay]
  simp [*]

@[simp] theorem identified_link (b : Bay) (id : Identity) (t : Telemetry) (s : State) :
    (identified b id t s).lu.receiver = s.lu.receiver ∧ (identified b id t s).lu.responses = s.lu.responses
      ∧ (identified b id t s).lu.overrun = s.lu.overrun ∧ (identified b id t s).lu.line = s.lu.line
      ∧ (identified b id t s).lu.silenceTimer = s.lu.silenceTimer ∧ (identified b id t s).lu.silence = s.lu.silence
      ∧ (identified b id t s).lu.resetPending = s.lu.resetPending := by
  simp only [identified]
  repeat' split
  all_goals simp [*]

@[simp] theorem identificationEnded_link (b : Bay) (o : IdOutcome) (s : State) :
    (identificationEnded b o s).lu.receiver = s.lu.receiver ∧ (identificationEnded b o s).lu.responses = s.lu.responses
      ∧ (identificationEnded b o s).lu.overrun = s.lu.overrun ∧ (identificationEnded b o s).lu.line = s.lu.line
      ∧ (identificationEnded b o s).lu.silenceTimer = s.lu.silenceTimer
      ∧ (identificationEnded b o s).lu.silence = s.lu.silence
      ∧ (identificationEnded b o s).lu.resetPending = s.lu.resetPending := by
  simp only [identificationEnded]
  repeat' split
  all_goals simp [*]

@[simp] theorem alarmSet_link (b : Bay) (s : State) :
    (alarmSet b s).lu.receiver = s.lu.receiver ∧ (alarmSet b s).lu.responses = s.lu.responses
      ∧ (alarmSet b s).lu.overrun = s.lu.overrun ∧ (alarmSet b s).lu.line = s.lu.line
      ∧ (alarmSet b s).lu.silenceTimer = s.lu.silenceTimer ∧ (alarmSet b s).lu.silence = s.lu.silence
      ∧ (alarmSet b s).lu.resetPending = s.lu.resetPending := by
  simp only [alarmSet]
  repeat' split
  all_goals simp [*]

@[simp] theorem alarmCleared_link (b : Bay) (s : State) :
    (alarmCleared b s).lu.receiver = s.lu.receiver ∧ (alarmCleared b s).lu.responses = s.lu.responses
      ∧ (alarmCleared b s).lu.overrun = s.lu.overrun ∧ (alarmCleared b s).lu.line = s.lu.line
      ∧ (alarmCleared b s).lu.silenceTimer = s.lu.silenceTimer ∧ (alarmCleared b s).lu.silence = s.lu.silence
      ∧ (alarmCleared b s).lu.resetPending = s.lu.resetPending := by
  simp only [alarmCleared]
  repeat' split
  all_goals simp [*]

@[simp] theorem takeAlarms_link (b : Bay) (t : Telemetry) (s : State) :
    (takeAlarms b t s).lu.receiver = s.lu.receiver ∧ (takeAlarms b t s).lu.responses = s.lu.responses
      ∧ (takeAlarms b t s).lu.overrun = s.lu.overrun ∧ (takeAlarms b t s).lu.line = s.lu.line
      ∧ (takeAlarms b t s).lu.silenceTimer = s.lu.silenceTimer ∧ (takeAlarms b t s).lu.silence = s.lu.silence
      ∧ (takeAlarms b t s).lu.resetPending = s.lu.resetPending := by
  simp only [takeAlarms]
  repeat' split
  all_goals simp [*]

@[simp] theorem pathTelemetry_link (b : Bay) (t : Telemetry) (s : State) :
    (pathTelemetry b t s).lu.receiver = s.lu.receiver ∧ (pathTelemetry b t s).lu.responses = s.lu.responses
      ∧ (pathTelemetry b t s).lu.overrun = s.lu.overrun ∧ (pathTelemetry b t s).lu.line = s.lu.line
      ∧ (pathTelemetry b t s).lu.silenceTimer = s.lu.silenceTimer ∧ (pathTelemetry b t s).lu.silence = s.lu.silence
      ∧ (pathTelemetry b t s).lu.resetPending = s.lu.resetPending := by
  simp only [pathTelemetry]
  repeat' split
  all_goals simp [*]

@[simp] theorem reserveReady_link (s : State) :
    (reserveReady s).lu.receiver = s.lu.receiver ∧ (reserveReady s).lu.responses = s.lu.responses
      ∧ (reserveReady s).lu.overrun = s.lu.overrun ∧ (reserveReady s).lu.line = s.lu.line
      ∧ (reserveReady s).lu.silenceTimer = s.lu.silenceTimer ∧ (reserveReady s).lu.silence = s.lu.silence
      ∧ (reserveReady s).lu.resetPending = s.lu.resetPending := by
  simp only [reserveReady]
  repeat' split
  all_goals simp [*]

@[simp] theorem takePresence_link (s : State) :
    (takePresence s).lu.receiver = s.lu.receiver ∧ (takePresence s).lu.responses = s.lu.responses
      ∧ (takePresence s).lu.overrun = s.lu.overrun ∧ (takePresence s).lu.line = s.lu.line
      ∧ (takePresence s).lu.silenceTimer = s.lu.silenceTimer ∧ (takePresence s).lu.silence = s.lu.silence
      ∧ (takePresence s).lu.resetPending = s.lu.resetPending := by
  simp only [takePresence]
  repeat' split
  all_goals simp [*]

@[simp] theorem monitorReading_link (vdc va vb vres : Nat) (s : State) :
    (monitorReading vdc va vb vres s).lu.receiver = s.lu.receiver
      ∧ (monitorReading vdc va vb vres s).lu.responses = s.lu.responses
      ∧ (monitorReading vdc va vb vres s).lu.overrun = s.lu.overrun ∧ (monitorReading vdc va vb vres s).lu.line = s.lu.line
      ∧ (monitorReading vdc va vb vres s).lu.silenceTimer = s.lu.silenceTimer
      ∧ (monitorReading vdc va vb vres s).lu.silence = s.lu.silence
      ∧ (monitorReading vdc va vb vres s).lu.resetPending = s.lu.resetPending := by
  simp only [monitorReading]
  repeat' split
  all_goals simp [*]

@[simp] theorem overlapEnds_link (s : State) :
    (overlapEnds s).lu.receiver = s.lu.receiver ∧ (overlapEnds s).lu.responses = s.lu.responses
      ∧ (overlapEnds s).lu.overrun = s.lu.overrun ∧ (overlapEnds s).lu.line = s.lu.line
      ∧ (overlapEnds s).lu.silenceTimer = s.lu.silenceTimer ∧ (overlapEnds s).lu.silence = s.lu.silence
      ∧ (overlapEnds s).lu.resetPending = s.lu.resetPending := by
  simp only [overlapEnds]
  repeat' split
  all_goals simp [*]

@[simp] theorem bridgeCloses_link (s : State) :
    (bridgeCloses s).lu.receiver = s.lu.receiver ∧ (bridgeCloses s).lu.responses = s.lu.responses
      ∧ (bridgeCloses s).lu.overrun = s.lu.overrun ∧ (bridgeCloses s).lu.line = s.lu.line
      ∧ (bridgeCloses s).lu.silenceTimer = s.lu.silenceTimer ∧ (bridgeCloses s).lu.silence = s.lu.silence
      ∧ (bridgeCloses s).lu.resetPending = s.lu.resetPending := by
  simp only [bridgeCloses]
  repeat' split
  all_goals simp [*]

@[simp] theorem warnLow_link (y : Source) (low : Bool) (s : State) :
    (warnLow y low s).lu.receiver = s.lu.receiver ∧ (warnLow y low s).lu.responses = s.lu.responses
      ∧ (warnLow y low s).lu.overrun = s.lu.overrun ∧ (warnLow y low s).lu.line = s.lu.line
      ∧ (warnLow y low s).lu.silenceTimer = s.lu.silenceTimer ∧ (warnLow y low s).lu.silence = s.lu.silence
      ∧ (warnLow y low s).lu.resetPending = s.lu.resetPending := by
  simp only [warnLow]
  repeat' split
  all_goals simp [*]

/-! ### Transactions -/

@[simp] theorem sequencePassed_link (b : Bay) (id : Identity) (t : Telemetry) (bytes : List Byte) (s : State) :
    (sequencePassed b id t bytes s).lu.receiver = s.lu.receiver
      ∧ (sequencePassed b id t bytes s).lu.responses = s.lu.responses
      ∧ (sequencePassed b id t bytes s).lu.overrun = s.lu.overrun ∧ (sequencePassed b id t bytes s).lu.line = s.lu.line
      ∧ (sequencePassed b id t bytes s).lu.silenceTimer = s.lu.silenceTimer
      ∧ (sequencePassed b id t bytes s).lu.silence = s.lu.silence
      ∧ (sequencePassed b id t bytes s).lu.resetPending = s.lu.resetPending := by
  simp only [sequencePassed]
  simp [*]

@[simp] theorem sequenceStep_link (b : Bay) (q : IdSequence) (e : Ended) (s : State) :
    (sequenceStep b q e s).lu.receiver = s.lu.receiver ∧ (sequenceStep b q e s).lu.responses = s.lu.responses
      ∧ (sequenceStep b q e s).lu.overrun = s.lu.overrun ∧ (sequenceStep b q e s).lu.line = s.lu.line
      ∧ (sequenceStep b q e s).lu.silenceTimer = s.lu.silenceTimer ∧ (sequenceStep b q e s).lu.silence = s.lu.silence
      ∧ (sequenceStep b q e s).lu.resetPending = s.lu.resetPending := by
  simp only [sequenceStep]
  repeat' split
  all_goals simp [*]

@[simp] theorem identifyEnded_link (b : Bay) (e : Ended) (s : State) :
    (identifyEnded b e s).lu.receiver = s.lu.receiver ∧ (identifyEnded b e s).lu.responses = s.lu.responses
      ∧ (identifyEnded b e s).lu.overrun = s.lu.overrun ∧ (identifyEnded b e s).lu.line = s.lu.line
      ∧ (identifyEnded b e s).lu.silenceTimer = s.lu.silenceTimer ∧ (identifyEnded b e s).lu.silence = s.lu.silence
      ∧ (identifyEnded b e s).lu.resetPending = s.lu.resetPending := by
  simp only [identifyEnded]
  repeat' split
  all_goals simp [*]

@[simp] theorem pollDelivered_link (b : Bay) (t : Telemetry) (bytes : List Byte) (s : State) :
    (pollDelivered b t bytes s).lu.receiver = s.lu.receiver ∧ (pollDelivered b t bytes s).lu.responses = s.lu.responses
      ∧ (pollDelivered b t bytes s).lu.overrun = s.lu.overrun ∧ (pollDelivered b t bytes s).lu.line = s.lu.line
      ∧ (pollDelivered b t bytes s).lu.silenceTimer = s.lu.silenceTimer
      ∧ (pollDelivered b t bytes s).lu.silence = s.lu.silence
      ∧ (pollDelivered b t bytes s).lu.resetPending = s.lu.resetPending := by
  simp only [pollDelivered]
  simp [*]

@[simp] theorem loseTelemetry_link (b : Bay) (s : State) :
    (loseTelemetry b s).lu.receiver = s.lu.receiver ∧ (loseTelemetry b s).lu.responses = s.lu.responses
      ∧ (loseTelemetry b s).lu.overrun = s.lu.overrun ∧ (loseTelemetry b s).lu.line = s.lu.line
      ∧ (loseTelemetry b s).lu.silenceTimer = s.lu.silenceTimer ∧ (loseTelemetry b s).lu.silence = s.lu.silence
      ∧ (loseTelemetry b s).lu.resetPending = s.lu.resetPending := by
  simp only [loseTelemetry]
  repeat' split
  all_goals simp [*]

@[simp] theorem pollFailed_link (b : Bay) (s : State) :
    (pollFailed b s).lu.receiver = s.lu.receiver ∧ (pollFailed b s).lu.responses = s.lu.responses
      ∧ (pollFailed b s).lu.overrun = s.lu.overrun ∧ (pollFailed b s).lu.line = s.lu.line
      ∧ (pollFailed b s).lu.silenceTimer = s.lu.silenceTimer ∧ (pollFailed b s).lu.silence = s.lu.silence
      ∧ (pollFailed b s).lu.resetPending = s.lu.resetPending := by
  simp only [pollFailed]
  repeat' split
  all_goals simp [*]

@[simp] theorem pollEnded_link (b : Bay) (e : Ended) (s : State) :
    (pollEnded b e s).lu.receiver = s.lu.receiver ∧ (pollEnded b e s).lu.responses = s.lu.responses
      ∧ (pollEnded b e s).lu.overrun = s.lu.overrun ∧ (pollEnded b e s).lu.line = s.lu.line
      ∧ (pollEnded b e s).lu.silenceTimer = s.lu.silenceTimer ∧ (pollEnded b e s).lu.silence = s.lu.silence
      ∧ (pollEnded b e s).lu.resetPending = s.lu.resetPending := by
  simp only [pollEnded]
  repeat' split
  all_goals simp [*]

@[simp] theorem chargerEnded_link (e : Ended) (s : State) :
    (chargerEnded e s).lu.receiver = s.lu.receiver ∧ (chargerEnded e s).lu.responses = s.lu.responses
      ∧ (chargerEnded e s).lu.overrun = s.lu.overrun ∧ (chargerEnded e s).lu.line = s.lu.line
      ∧ (chargerEnded e s).lu.silenceTimer = s.lu.silenceTimer ∧ (chargerEnded e s).lu.silence = s.lu.silence
      ∧ (chargerEnded e s).lu.resetPending = s.lu.resetPending := by
  simp only [chargerEnded]
  repeat' split
  all_goals simp [*]

@[simp] theorem postedEnded_link (e : Ended) (s : State) :
    (postedEnded e s).lu.receiver = s.lu.receiver ∧ (postedEnded e s).lu.responses = s.lu.responses
      ∧ (postedEnded e s).lu.overrun = s.lu.overrun ∧ (postedEnded e s).lu.line = s.lu.line
      ∧ (postedEnded e s).lu.silenceTimer = s.lu.silenceTimer ∧ (postedEnded e s).lu.silence = s.lu.silence
      ∧ (postedEnded e s).lu.resetPending = s.lu.resetPending := by
  simp only [postedEnded]
  repeat' split
  all_goals simp [*]

@[simp] theorem routeResult_link (o : TxOwner) (e : Ended) (s : State) :
    (routeResult o e s).lu.receiver = s.lu.receiver ∧ (routeResult o e s).lu.responses = s.lu.responses
      ∧ (routeResult o e s).lu.overrun = s.lu.overrun ∧ (routeResult o e s).lu.line = s.lu.line
      ∧ (routeResult o e s).lu.silenceTimer = s.lu.silenceTimer ∧ (routeResult o e s).lu.silence = s.lu.silence
      ∧ (routeResult o e s).lu.resetPending = s.lu.resetPending := by
  simp only [routeResult]
  repeat' split
  all_goals simp [*]

@[simp] theorem endWith_link (t : Transaction) (e : Ended) (s : State) :
    (endWith t e s).lu.receiver = s.lu.receiver ∧ (endWith t e s).lu.responses = s.lu.responses
      ∧ (endWith t e s).lu.overrun = s.lu.overrun ∧ (endWith t e s).lu.line = s.lu.line
      ∧ (endWith t e s).lu.silenceTimer = s.lu.silenceTimer ∧ (endWith t e s).lu.silence = s.lu.silence
      ∧ (endWith t e s).lu.resetPending = s.lu.resetPending := by
  simp only [endWith]
  simp [*]

@[simp] theorem transactionReply_link (r : BusReply) (s : State) :
    (transactionReply r s).lu.receiver = s.lu.receiver ∧ (transactionReply r s).lu.responses = s.lu.responses
      ∧ (transactionReply r s).lu.overrun = s.lu.overrun ∧ (transactionReply r s).lu.line = s.lu.line
      ∧ (transactionReply r s).lu.silenceTimer = s.lu.silenceTimer ∧ (transactionReply r s).lu.silence = s.lu.silence
      ∧ (transactionReply r s).lu.resetPending = s.lu.resetPending := by
  simp only [transactionReply]
  repeat' split
  all_goals simp [*]

@[simp] theorem transactionTimedOut_link (s : State) :
    (transactionTimedOut s).lu.receiver = s.lu.receiver ∧ (transactionTimedOut s).lu.responses = s.lu.responses
      ∧ (transactionTimedOut s).lu.overrun = s.lu.overrun ∧ (transactionTimedOut s).lu.line = s.lu.line
      ∧ (transactionTimedOut s).lu.silenceTimer = s.lu.silenceTimer ∧ (transactionTimedOut s).lu.silence = s.lu.silence
      ∧ (transactionTimedOut s).lu.resetPending = s.lu.resetPending := by
  simp only [transactionTimedOut]
  repeat' split
  all_goals simp [*]

@[simp] theorem deferredExpired_link (s : State) :
    (deferredExpired s).lu.receiver = s.lu.receiver ∧ (deferredExpired s).lu.responses = s.lu.responses
      ∧ (deferredExpired s).lu.overrun = s.lu.overrun ∧ (deferredExpired s).lu.line = s.lu.line
      ∧ (deferredExpired s).lu.silenceTimer = s.lu.silenceTimer ∧ (deferredExpired s).lu.silence = s.lu.silence
      ∧ (deferredExpired s).lu.resetPending = s.lu.resetPending := by
  simp only [deferredExpired]
  repeat' split
  all_goals simp [*]

@[simp] theorem stopOnSegment_link (g : Segment) (s : State) :
    (stopOnSegment g s).lu.receiver = s.lu.receiver ∧ (stopOnSegment g s).lu.responses = s.lu.responses
      ∧ (stopOnSegment g s).lu.overrun = s.lu.overrun ∧ (stopOnSegment g s).lu.line = s.lu.line
      ∧ (stopOnSegment g s).lu.silenceTimer = s.lu.silenceTimer ∧ (stopOnSegment g s).lu.silence = s.lu.silence
      ∧ (stopOnSegment g s).lu.resetPending = s.lu.resetPending := by
  simp only [stopOnSegment]
  repeat' split
  all_goals simp [*]

@[simp] theorem discardWrite_link (s : State) (w : PostedWrite) :
    (discardWrite s w).lu.receiver = s.lu.receiver ∧ (discardWrite s w).lu.responses = s.lu.responses
      ∧ (discardWrite s w).lu.overrun = s.lu.overrun ∧ (discardWrite s w).lu.line = s.lu.line
      ∧ (discardWrite s w).lu.silenceTimer = s.lu.silenceTimer ∧ (discardWrite s w).lu.silence = s.lu.silence
      ∧ (discardWrite s w).lu.resetPending = s.lu.resetPending := by
  simp only [discardWrite]
  simp [*]

@[simp] theorem discardAll_link (ws : List PostedWrite) (s : State) :
    (ws.foldl discardWrite s).lu.receiver = s.lu.receiver ∧ (ws.foldl discardWrite s).lu.responses = s.lu.responses
      ∧ (ws.foldl discardWrite s).lu.overrun = s.lu.overrun ∧ (ws.foldl discardWrite s).lu.line = s.lu.line
      ∧ (ws.foldl discardWrite s).lu.silenceTimer = s.lu.silenceTimer ∧ (ws.foldl discardWrite s).lu.silence = s.lu.silence
      ∧ (ws.foldl discardWrite s).lu.resetPending = s.lu.resetPending := by
  induction ws generalizing s with
  | nil => simp
  | cons w rest ih => simpa using ih (discardWrite s w)

@[simp] theorem discardWrites_link (g : Segment) (s : State) :
    (discardWrites g s).lu.receiver = s.lu.receiver ∧ (discardWrites g s).lu.responses = s.lu.responses
      ∧ (discardWrites g s).lu.overrun = s.lu.overrun ∧ (discardWrites g s).lu.line = s.lu.line
      ∧ (discardWrites g s).lu.silenceTimer = s.lu.silenceTimer ∧ (discardWrites g s).lu.silence = s.lu.silence
      ∧ (discardWrites g s).lu.resetPending = s.lu.resetPending := by
  simp only [discardWrites]
  simp [*]

@[simp] theorem segmentRemoved_link (b : Bay) (s : State) :
    (segmentRemoved b s).lu.receiver = s.lu.receiver ∧ (segmentRemoved b s).lu.responses = s.lu.responses
      ∧ (segmentRemoved b s).lu.overrun = s.lu.overrun ∧ (segmentRemoved b s).lu.line = s.lu.line
      ∧ (segmentRemoved b s).lu.silenceTimer = s.lu.silenceTimer ∧ (segmentRemoved b s).lu.silence = s.lu.silence
      ∧ (segmentRemoved b s).lu.resetPending = s.lu.resetPending := by
  simp only [segmentRemoved]
  simp [*]

@[simp] theorem meetDeferredExpiry_link (s : State) :
    (meetDeferredExpiry s).lu.receiver = s.lu.receiver ∧ (meetDeferredExpiry s).lu.responses = s.lu.responses
      ∧ (meetDeferredExpiry s).lu.overrun = s.lu.overrun ∧ (meetDeferredExpiry s).lu.line = s.lu.line
      ∧ (meetDeferredExpiry s).lu.silenceTimer = s.lu.silenceTimer ∧ (meetDeferredExpiry s).lu.silence = s.lu.silence
      ∧ (meetDeferredExpiry s).lu.resetPending = s.lu.resetPending := by
  simp only [meetDeferredExpiry]
  repeat' split
  all_goals simp [*]

/-! ### The budget and the backlight -/

@[simp] theorem evaluateCapped_link (s : State) :
    (evaluateCapped s).lu.receiver = s.lu.receiver ∧ (evaluateCapped s).lu.responses = s.lu.responses
      ∧ (evaluateCapped s).lu.overrun = s.lu.overrun ∧ (evaluateCapped s).lu.line = s.lu.line
      ∧ (evaluateCapped s).lu.silenceTimer = s.lu.silenceTimer ∧ (evaluateCapped s).lu.silence = s.lu.silence
      ∧ (evaluateCapped s).lu.resetPending = s.lu.resetPending := by
  simp only [evaluateCapped]
  simp [*]

@[simp] theorem recomputeBudget_link (s : State) :
    (recomputeBudget s).lu.receiver = s.lu.receiver ∧ (recomputeBudget s).lu.responses = s.lu.responses
      ∧ (recomputeBudget s).lu.overrun = s.lu.overrun ∧ (recomputeBudget s).lu.line = s.lu.line
      ∧ (recomputeBudget s).lu.silenceTimer = s.lu.silenceTimer ∧ (recomputeBudget s).lu.silence = s.lu.silence
      ∧ (recomputeBudget s).lu.resetPending = s.lu.resetPending := by
  simp only [recomputeBudget]
  simp [*]

@[simp] theorem takeDemand_link (d : Nat) (s : State) :
    (takeDemand d s).lu.receiver = s.lu.receiver ∧ (takeDemand d s).lu.responses = s.lu.responses
      ∧ (takeDemand d s).lu.overrun = s.lu.overrun ∧ (takeDemand d s).lu.line = s.lu.line
      ∧ (takeDemand d s).lu.silenceTimer = s.lu.silenceTimer ∧ (takeDemand d s).lu.silence = s.lu.silence
      ∧ (takeDemand d s).lu.resetPending = s.lu.resetPending := by
  simp only [takeDemand]
  simp [*]

@[simp] theorem resetBudget_link (s : State) :
    (resetBudget s).lu.receiver = s.lu.receiver ∧ (resetBudget s).lu.responses = s.lu.responses
      ∧ (resetBudget s).lu.overrun = s.lu.overrun ∧ (resetBudget s).lu.line = s.lu.line
      ∧ (resetBudget s).lu.silenceTimer = s.lu.silenceTimer ∧ (resetBudget s).lu.silence = s.lu.silence
      ∧ (resetBudget s).lu.resetPending = s.lu.resetPending := by
  simp only [resetBudget]
  simp [*]

@[simp] theorem swapCurve_link (s : State) :
    (swapCurve s).lu.receiver = s.lu.receiver ∧ (swapCurve s).lu.responses = s.lu.responses
      ∧ (swapCurve s).lu.overrun = s.lu.overrun ∧ (swapCurve s).lu.line = s.lu.line
      ∧ (swapCurve s).lu.silenceTimer = s.lu.silenceTimer ∧ (swapCurve s).lu.silence = s.lu.silence
      ∧ (swapCurve s).lu.resetPending = s.lu.resetPending := by
  simp only [swapCurve]
  repeat' split
  all_goals simp [*]

@[simp] theorem filterStep_link (x : LightSensor) (s : State) :
    (filterStep x s).lu.receiver = s.lu.receiver ∧ (filterStep x s).lu.responses = s.lu.responses
      ∧ (filterStep x s).lu.overrun = s.lu.overrun ∧ (filterStep x s).lu.line = s.lu.line
      ∧ (filterStep x s).lu.silenceTimer = s.lu.silenceTimer ∧ (filterStep x s).lu.silence = s.lu.silence
      ∧ (filterStep x s).lu.resetPending = s.lu.resetPending := by
  simp only [filterStep]
  simp [*]

@[simp] theorem failSensor_link (x : LightSensor) (s : State) :
    (failSensor x s).lu.receiver = s.lu.receiver ∧ (failSensor x s).lu.responses = s.lu.responses
      ∧ (failSensor x s).lu.overrun = s.lu.overrun ∧ (failSensor x s).lu.line = s.lu.line
      ∧ (failSensor x s).lu.silenceTimer = s.lu.silenceTimer ∧ (failSensor x s).lu.silence = s.lu.silence
      ∧ (failSensor x s).lu.resetPending = s.lu.resetPending := by
  simp only [failSensor]
  simp [*]

@[simp] theorem failIfSilent_link (x : LightSensor) (s : State) :
    (failIfSilent x s).lu.receiver = s.lu.receiver ∧ (failIfSilent x s).lu.responses = s.lu.responses
      ∧ (failIfSilent x s).lu.overrun = s.lu.overrun ∧ (failIfSilent x s).lu.line = s.lu.line
      ∧ (failIfSilent x s).lu.silenceTimer = s.lu.silenceTimer ∧ (failIfSilent x s).lu.silence = s.lu.silence
      ∧ (failIfSilent x s).lu.resetPending = s.lu.resetPending := by
  simp only [failIfSilent]
  repeat' split
  all_goals simp [*]

/-! ### The drop log and the shock monitor -/

@[simp] theorem keepRecord_link (r : DropRecord) (s : State) :
    (keepRecord r s).lu.receiver = s.lu.receiver ∧ (keepRecord r s).lu.responses = s.lu.responses
      ∧ (keepRecord r s).lu.overrun = s.lu.overrun ∧ (keepRecord r s).lu.line = s.lu.line
      ∧ (keepRecord r s).lu.silenceTimer = s.lu.silenceTimer ∧ (keepRecord r s).lu.silence = s.lu.silence
      ∧ (keepRecord r s).lu.resetPending = s.lu.resetPending := by
  simp only [keepRecord]
  simp [*]

@[simp] theorem storeEvent_link (h : HandOver) (v : Verdict) (s : State) :
    (storeEvent h v s).lu.receiver = s.lu.receiver ∧ (storeEvent h v s).lu.responses = s.lu.responses
      ∧ (storeEvent h v s).lu.overrun = s.lu.overrun ∧ (storeEvent h v s).lu.line = s.lu.line
      ∧ (storeEvent h v s).lu.silenceTimer = s.lu.silenceTimer ∧ (storeEvent h v s).lu.silence = s.lu.silence
      ∧ (storeEvent h v s).lu.resetPending = s.lu.resetPending := by
  simp only [storeEvent]
  repeat' split
  all_goals simp [*]

@[simp] theorem markEvent_link (h : HandOver) (v : Verdict) (s : State) :
    (markEvent h v s).lu.receiver = s.lu.receiver ∧ (markEvent h v s).lu.responses = s.lu.responses
      ∧ (markEvent h v s).lu.overrun = s.lu.overrun ∧ (markEvent h v s).lu.line = s.lu.line
      ∧ (markEvent h v s).lu.silenceTimer = s.lu.silenceTimer ∧ (markEvent h v s).lu.silence = s.lu.silence
      ∧ (markEvent h v s).lu.resetPending = s.lu.resetPending := by
  simp only [markEvent]
  repeat' split
  all_goals simp [*]

@[simp] theorem takeEvent_link (h : HandOver) (s : State) :
    (takeEvent h s).1.lu.receiver = s.lu.receiver ∧ (takeEvent h s).1.lu.responses = s.lu.responses
      ∧ (takeEvent h s).1.lu.overrun = s.lu.overrun ∧ (takeEvent h s).1.lu.line = s.lu.line
      ∧ (takeEvent h s).1.lu.silenceTimer = s.lu.silenceTimer ∧ (takeEvent h s).1.lu.silence = s.lu.silence
      ∧ (takeEvent h s).1.lu.resetPending = s.lu.resetPending := by
  simp only [takeEvent]
  simp [*]

@[simp] theorem swapClasses_link (s : State) :
    (swapClasses s).lu.receiver = s.lu.receiver ∧ (swapClasses s).lu.responses = s.lu.responses
      ∧ (swapClasses s).lu.overrun = s.lu.overrun ∧ (swapClasses s).lu.line = s.lu.line
      ∧ (swapClasses s).lu.silenceTimer = s.lu.silenceTimer ∧ (swapClasses s).lu.silence = s.lu.silence
      ∧ (swapClasses s).lu.resetPending = s.lu.resetPending := by
  simp only [swapClasses]
  repeat' split
  all_goals simp [*]

@[simp] theorem enterQuiet_link (st : ShmState) (s : State) :
    (enterQuiet st s).lu.receiver = s.lu.receiver ∧ (enterQuiet st s).lu.responses = s.lu.responses
      ∧ (enterQuiet st s).lu.overrun = s.lu.overrun ∧ (enterQuiet st s).lu.line = s.lu.line
      ∧ (enterQuiet st s).lu.silenceTimer = s.lu.silenceTimer ∧ (enterQuiet st s).lu.silence = s.lu.silence
      ∧ (enterQuiet st s).lu.resetPending = s.lu.resetPending := by
  simp only [enterQuiet]
  simp [*]

@[simp] theorem beginEvent_link (st : ShmState) (n m2 : Nat) (s : State) :
    (beginEvent st n m2 s).lu.receiver = s.lu.receiver ∧ (beginEvent st n m2 s).lu.responses = s.lu.responses
      ∧ (beginEvent st n m2 s).lu.overrun = s.lu.overrun ∧ (beginEvent st n m2 s).lu.line = s.lu.line
      ∧ (beginEvent st n m2 s).lu.silenceTimer = s.lu.silenceTimer ∧ (beginEvent st n m2 s).lu.silence = s.lu.silence
      ∧ (beginEvent st n m2 s).lu.resetPending = s.lu.resetPending := by
  simp only [beginEvent]
  simp [*]

@[simp] theorem handOver_link (o : DropOutcome) (n : Nat) (v : Bool) (s : State) :
    (handOver o n v s).lu.receiver = s.lu.receiver ∧ (handOver o n v s).lu.responses = s.lu.responses
      ∧ (handOver o n v s).lu.overrun = s.lu.overrun ∧ (handOver o n v s).lu.line = s.lu.line
      ∧ (handOver o n v s).lu.silenceTimer = s.lu.silenceTimer ∧ (handOver o n v s).lu.silence = s.lu.silence
      ∧ (handOver o n v s).lu.resetPending = s.lu.resetPending := by
  simp only [handOver]
  simp [*]

@[simp] theorem dropHold_link (e : Ending) (o : Option DropOutcome) (s : State) :
    (dropHold e o s).lu.receiver = s.lu.receiver ∧ (dropHold e o s).lu.responses = s.lu.responses
      ∧ (dropHold e o s).lu.overrun = s.lu.overrun ∧ (dropHold e o s).lu.line = s.lu.line
      ∧ (dropHold e o s).lu.silenceTimer = s.lu.silenceTimer ∧ (dropHold e o s).lu.silence = s.lu.silence
      ∧ (dropHold e o s).lu.resetPending = s.lu.resetPending := by
  simp only [dropHold]
  simp [*]

@[simp] theorem leaveEvent_link (e : Ending) (st : ShmState) (s : State) :
    (leaveEvent e st s).lu.receiver = s.lu.receiver ∧ (leaveEvent e st s).lu.responses = s.lu.responses
      ∧ (leaveEvent e st s).lu.overrun = s.lu.overrun ∧ (leaveEvent e st s).lu.line = s.lu.line
      ∧ (leaveEvent e st s).lu.silenceTimer = s.lu.silenceTimer ∧ (leaveEvent e st s).lu.silence = s.lu.silence
      ∧ (leaveEvent e st s).lu.resetPending = s.lu.resetPending := by
  simp only [leaveEvent]
  simp [*]

@[simp] theorem closeEvent_link (e : Ending) (st : ShmState) (s : State) :
    (closeEvent e st s).lu.receiver = s.lu.receiver ∧ (closeEvent e st s).lu.responses = s.lu.responses
      ∧ (closeEvent e st s).lu.overrun = s.lu.overrun ∧ (closeEvent e st s).lu.line = s.lu.line
      ∧ (closeEvent e st s).lu.silenceTimer = s.lu.silenceTimer ∧ (closeEvent e st s).lu.silence = s.lu.silence
      ∧ (closeEvent e st s).lu.resetPending = s.lu.resetPending := by
  simp only [closeEvent]
  simp [*]

@[simp] theorem windowEnd_link (s : State) :
    (windowEnd s).lu.receiver = s.lu.receiver ∧ (windowEnd s).lu.responses = s.lu.responses
      ∧ (windowEnd s).lu.overrun = s.lu.overrun ∧ (windowEnd s).lu.line = s.lu.line
      ∧ (windowEnd s).lu.silenceTimer = s.lu.silenceTimer ∧ (windowEnd s).lu.silence = s.lu.silence
      ∧ (windowEnd s).lu.resetPending = s.lu.resetPending := by
  simp only [windowEnd]
  simp [*]

@[simp] theorem testWindow_link (s : State) :
    (testWindow s).lu.receiver = s.lu.receiver ∧ (testWindow s).lu.responses = s.lu.responses
      ∧ (testWindow s).lu.overrun = s.lu.overrun ∧ (testWindow s).lu.line = s.lu.line
      ∧ (testWindow s).lu.silenceTimer = s.lu.silenceTimer ∧ (testWindow s).lu.silence = s.lu.silence
      ∧ (testWindow s).lu.resetPending = s.lu.resetPending := by
  simp only [testWindow]
  repeat' split
  all_goals simp [*]

@[simp] theorem sampleIdle_link (m2 : Nat) (s : State) :
    (sampleIdle m2 s).lu.receiver = s.lu.receiver ∧ (sampleIdle m2 s).lu.responses = s.lu.responses
      ∧ (sampleIdle m2 s).lu.overrun = s.lu.overrun ∧ (sampleIdle m2 s).lu.line = s.lu.line
      ∧ (sampleIdle m2 s).lu.silenceTimer = s.lu.silenceTimer ∧ (sampleIdle m2 s).lu.silence = s.lu.silence
      ∧ (sampleIdle m2 s).lu.resetPending = s.lu.resetPending := by
  simp only [sampleIdle]
  repeat' split
  all_goals simp [*]

@[simp] theorem caughtFall_link (s : State) :
    (caughtFall s).lu.receiver = s.lu.receiver ∧ (caughtFall s).lu.responses = s.lu.responses
      ∧ (caughtFall s).lu.overrun = s.lu.overrun ∧ (caughtFall s).lu.line = s.lu.line
      ∧ (caughtFall s).lu.silenceTimer = s.lu.silenceTimer ∧ (caughtFall s).lu.silence = s.lu.silence
      ∧ (caughtFall s).lu.resetPending = s.lu.resetPending := by
  simp only [caughtFall]
  simp [*]

@[simp] theorem sampleFalling_link (m2 : Nat) (s : State) :
    (sampleFalling m2 s).lu.receiver = s.lu.receiver ∧ (sampleFalling m2 s).lu.responses = s.lu.responses
      ∧ (sampleFalling m2 s).lu.overrun = s.lu.overrun ∧ (sampleFalling m2 s).lu.line = s.lu.line
      ∧ (sampleFalling m2 s).lu.silenceTimer = s.lu.silenceTimer ∧ (sampleFalling m2 s).lu.silence = s.lu.silence
      ∧ (sampleFalling m2 s).lu.resetPending = s.lu.resetPending := by
  simp only [sampleFalling]
  repeat' split
  all_goals simp [*]

@[simp] theorem sampleImpact_link (m2 : Nat) (s : State) :
    (sampleImpact m2 s).lu.receiver = s.lu.receiver ∧ (sampleImpact m2 s).lu.responses = s.lu.responses
      ∧ (sampleImpact m2 s).lu.overrun = s.lu.overrun ∧ (sampleImpact m2 s).lu.line = s.lu.line
      ∧ (sampleImpact m2 s).lu.silenceTimer = s.lu.silenceTimer ∧ (sampleImpact m2 s).lu.silence = s.lu.silence
      ∧ (sampleImpact m2 s).lu.resetPending = s.lu.resetPending := by
  simp only [sampleImpact]
  repeat' split
  all_goals simp [*]

@[simp] theorem fallAgain_link (q m2 : Nat) (s : State) :
    (fallAgain q m2 s).lu.receiver = s.lu.receiver ∧ (fallAgain q m2 s).lu.responses = s.lu.responses
      ∧ (fallAgain q m2 s).lu.overrun = s.lu.overrun ∧ (fallAgain q m2 s).lu.line = s.lu.line
      ∧ (fallAgain q m2 s).lu.silenceTimer = s.lu.silenceTimer ∧ (fallAgain q m2 s).lu.silence = s.lu.silence
      ∧ (fallAgain q m2 s).lu.resetPending = s.lu.resetPending := by
  simp only [fallAgain]
  simp [*]

@[simp] theorem sampleSettling_link (m2 : Nat) (s : State) :
    (sampleSettling m2 s).lu.receiver = s.lu.receiver ∧ (sampleSettling m2 s).lu.responses = s.lu.responses
      ∧ (sampleSettling m2 s).lu.overrun = s.lu.overrun ∧ (sampleSettling m2 s).lu.line = s.lu.line
      ∧ (sampleSettling m2 s).lu.silenceTimer = s.lu.silenceTimer ∧ (sampleSettling m2 s).lu.silence = s.lu.silence
      ∧ (sampleSettling m2 s).lu.resetPending = s.lu.resetPending := by
  simp only [sampleSettling]
  repeat' split
  all_goals simp [*]

@[simp] theorem takeSample_link (m2 : Nat) (s : State) :
    (takeSample m2 s).lu.receiver = s.lu.receiver ∧ (takeSample m2 s).lu.responses = s.lu.responses
      ∧ (takeSample m2 s).lu.overrun = s.lu.overrun ∧ (takeSample m2 s).lu.line = s.lu.line
      ∧ (takeSample m2 s).lu.silenceTimer = s.lu.silenceTimer ∧ (takeSample m2 s).lu.silence = s.lu.silence
      ∧ (takeSample m2 s).lu.resetPending = s.lu.resetPending := by
  simp only [takeSample]
  repeat' split
  all_goals simp [*]

@[simp] theorem forwardMotion_link (x y z : Int) (s : State) :
    (forwardMotion x y z s).lu.receiver = s.lu.receiver ∧ (forwardMotion x y z s).lu.responses = s.lu.responses
      ∧ (forwardMotion x y z s).lu.overrun = s.lu.overrun ∧ (forwardMotion x y z s).lu.line = s.lu.line
      ∧ (forwardMotion x y z s).lu.silenceTimer = s.lu.silenceTimer ∧ (forwardMotion x y z s).lu.silence = s.lu.silence
      ∧ (forwardMotion x y z s).lu.resetPending = s.lu.resetPending := by
  simp only [forwardMotion]
  repeat' split
  all_goals simp [*]

@[simp] theorem settleExpired_link (s : State) :
    (settleExpired s).lu.receiver = s.lu.receiver ∧ (settleExpired s).lu.responses = s.lu.responses
      ∧ (settleExpired s).lu.overrun = s.lu.overrun ∧ (settleExpired s).lu.line = s.lu.line
      ∧ (settleExpired s).lu.silenceTimer = s.lu.silenceTimer ∧ (settleExpired s).lu.silence = s.lu.silence
      ∧ (settleExpired s).lu.resetPending = s.lu.resetPending := by
  simp only [settleExpired]
  repeat' split
  all_goals simp [*]

@[simp] theorem sensorLost_link (s : State) :
    (sensorLost s).lu.receiver = s.lu.receiver ∧ (sensorLost s).lu.responses = s.lu.responses
      ∧ (sensorLost s).lu.overrun = s.lu.overrun ∧ (sensorLost s).lu.line = s.lu.line
      ∧ (sensorLost s).lu.silenceTimer = s.lu.silenceTimer ∧ (sensorLost s).lu.silence = s.lu.silence
      ∧ (sensorLost s).lu.resetPending = s.lu.resetPending := by
  simp only [sensorLost]
  repeat' split
  all_goals simp [*]

/-! ### The inputs and the tables -/

@[simp] theorem swapParams_link (s : State) :
    (swapParams s).lu.receiver = s.lu.receiver ∧ (swapParams s).lu.responses = s.lu.responses
      ∧ (swapParams s).lu.overrun = s.lu.overrun ∧ (swapParams s).lu.line = s.lu.line
      ∧ (swapParams s).lu.silenceTimer = s.lu.silenceTimer ∧ (swapParams s).lu.silence = s.lu.silence
      ∧ (swapParams s).lu.resetPending = s.lu.resetPending := by
  simp only [swapParams]
  simp [*]

@[simp] theorem swapProfiles_link (s : State) :
    (swapProfiles s).lu.receiver = s.lu.receiver ∧ (swapProfiles s).lu.responses = s.lu.responses
      ∧ (swapProfiles s).lu.overrun = s.lu.overrun ∧ (swapProfiles s).lu.line = s.lu.line
      ∧ (swapProfiles s).lu.silenceTimer = s.lu.silenceTimer ∧ (swapProfiles s).lu.silence = s.lu.silence
      ∧ (swapProfiles s).lu.resetPending = s.lu.resetPending := by
  simp only [swapProfiles]
  simp [*]

@[simp] theorem swapLevels_link (s : State) :
    (swapLevels s).lu.receiver = s.lu.receiver ∧ (swapLevels s).lu.responses = s.lu.responses
      ∧ (swapLevels s).lu.overrun = s.lu.overrun ∧ (swapLevels s).lu.line = s.lu.line
      ∧ (swapLevels s).lu.silenceTimer = s.lu.silenceTimer ∧ (swapLevels s).lu.silence = s.lu.silence
      ∧ (swapLevels s).lu.resetPending = s.lu.resetPending := by
  simp only [swapLevels]
  simp [*]

@[simp] theorem applied_link (table : Nat) (s : State) :
    (applied table s).lu.receiver = s.lu.receiver ∧ (applied table s).lu.responses = s.lu.responses
      ∧ (applied table s).lu.overrun = s.lu.overrun ∧ (applied table s).lu.line = s.lu.line
      ∧ (applied table s).lu.silenceTimer = s.lu.silenceTimer ∧ (applied table s).lu.silence = s.lu.silence
      ∧ (applied table s).lu.resetPending = s.lu.resetPending := by
  simp only [applied]
  repeat' split
  all_goals simp [*]

end Sys2Proof.Machine
end

