-- ==== Sys2Proof/Laws/Ops.lean ====
section
/-! SUPPORT. What the named operations do, said once each: raising a notice, answering a request, handing a frame, and how two states are
compared. -/

namespace Sys2Proof.Machine

/-! ### Comparing states -/

/-- States that agree on every part are equal. -/
theorem state_ext {s t : State} (h : ∀ p : Part, p.Same s t) : t = s := by
  cases s
  cases t
  have h1 := h .settling
  have h2 := h .icu
  have h3 := h .ppc
  have h4 := h .bbc
  have h5 := h .cc
  have h6 := h .bu
  have h7 := h .blc
  have h8 := h .shm
  have h9 := h .dl
  have h10 := h .ts
  have h11 := h .lu
  have h12 := h .delivered
  have h13 := h .freeIndex
  have h14 := h .pending
  simp only [Part.Same] at h1 h2 h3 h4 h5 h6 h7 h8 h9 h10 h11 h12 h13 h14
  subst h1 h2 h3 h4 h5 h6 h7 h8 h9 h10 h11 h12 h13 h14
  rfl

theorem keeps_refl (changed : List Part) (s : State) : KeepsAllBut changed s s := by
  intro p _
  cases p <;> rfl

theorem Part.Same.trans {p : Part} {s t u : State} (h : p.Same s t) (k : p.Same t u) : p.Same s u := by
  cases p <;> simp_all [Part.Same]

theorem keeps_trans {x y : List Part} {s t u : State} (h : KeepsAllBut x s t) (k : KeepsAllBut y t u) :
    KeepsAllBut (x ++ y) s u := by
  intro p hp
  rw [List.mem_append, not_or] at hp
  exact (h p hp.1).trans (k p hp.2)

theorem keeps_mono {x y : List Part} {s t : State} (h : KeepsAllBut x s t) (sub : ∀ p ∈ x, p ∈ y) : KeepsAllBut y s t :=
  fun p hp => h p fun hx => hp (sub p hx)

/-! ### Notices (R186) -/

/-- A raise changes the Link Unit alone, and of it the pending set alone. -/
theorem raise_eq (n : Notice) (s : State) : raise n s = { s with lu := (raise n s).lu } := by
  simp only [raise]
  split <;> rfl

/-- A raise at level 0 is not recorded; any other is folded into the pending set. -/
theorem raise_notices (n : Notice) (s : State) :
    (raise n s).lu.notices =
      if noticeLevel s n.kind = 0 then s.lu.notices else foldNotice n (noticeLevel s n.kind) s.lu.notices := by
  simp only [raise]
  split <;> rfl

/-- A raise depends on the Link Unit and on the levels alone. -/
theorem raise_lu_congr (n : Notice) {s t : State} (h : t.lu = s.lu) (k : t.ts.t4.active = s.ts.t4.active) :
    (raise n t).lu = (raise n s).lu := by
  have e : noticeLevel t n.kind = noticeLevel s n.kind := by simp only [noticeLevel, k]
  simp only [raise, e]
  split
  · exact h
  · rw [h]

/-- The kinds of the pending set after a raise: the kind raised joins, if it is not there. -/
theorem foldNotice_kinds (n : Notice) (level : Nat) (q : List PendingNotice) :
    (foldNotice n level q).map (fun e => e.notice.kind) =
      if n.kind ∈ q.map (fun e => e.notice.kind) then q.map (fun e => e.notice.kind)
      else q.map (fun e => e.notice.kind) ++ [n.kind] := by
  induction q with
  | nil => simp [foldNotice]
  | cons e rest ih =>
    simp only [foldNotice]
    by_cases h : e.notice.kind = n.kind
    · simp [h]
    · rw [if_neg h]
      simp only [List.map_cons, ih, List.mem_cons]
      by_cases k : n.kind ∈ rest.map (fun e => e.notice.kind)
      · simp [k]
      · simp [k, Ne.symm h]

/-- An entry of the pending set after a raise is the new one or one that was there. -/
theorem mem_foldNotice {n : Notice} {level : Nat} {q : List PendingNotice} {e : PendingNotice}
    (h : e ∈ foldNotice n level q) : e ∈ q ∨ (e.notice = n ∧ e.level = level ∧ 1 ≤ e.count ∧ e.count ≤ 255) := by
  induction q with
  | nil =>
    simp only [foldNotice, List.mem_singleton] at h
    subst h
    simp
  | cons x rest ih =>
    simp only [foldNotice] at h
    split at h
    · rcases List.mem_cons.mp h with rfl | h
      · refine .inr ⟨rfl, rfl, ?_, ?_⟩ <;> dsimp only <;> omega
      · exact .inl (List.mem_cons_of_mem _ h)
    · rcases List.mem_cons.mp h with rfl | h
      · exact .inl List.mem_cons_self
      · rcases ih h with h | h
        · exact .inl (List.mem_cons_of_mem _ h)
        · exact .inr h

/-- A raise keeps the pending set sound. -/
theorem raise_notices_sound (n : Notice) {s : State} (h : NoticesSound s) : NoticesSound (raise n s) := by
  unfold NoticesSound at h ⊢
  rw [raise_notices]
  split
  · exact h
  · refine ⟨?_, fun e he => ?_⟩
    · rw [foldNotice_kinds]
      split
      · exact h.1
      · rename_i k
        exact h.1.append (List.nodup_singleton _) (by simpa using k)
    · rcases mem_foldNotice he with m | ⟨_, hl, h1, h2⟩
      · exact h.2 e m
      · exact ⟨h1, h2, by rwa [hl]⟩

/-! ### Traffic (R188) -/

/-- The traffic queue after a frame joins holds at most 16 where it held at most 16. -/
theorem joinTraffic_length (f : TrafficFrame) (q : List TrafficFrame) (h : q.length ≤ 16) : (joinTraffic f q).length ≤ 16 := by
  simp only [joinTraffic]
  split <;> simp <;> omega

/-- Handing a frame leaves the pending set. -/
@[simp] theorem handTraffic_notices (t : Traffic) (s : State) : (handTraffic t s).lu.notices = s.lu.notices := by
  simp only [handTraffic]
  split
  · rfl
  · cases t <;> simp [countTraffic]

/-! ### Requests (R183, R184) -/

/-- In the settle interval a request is ignored. -/
theorem handleRequest_settling {s : State} (h : s.settling.isSome) (tag code : Byte) (owner : State → Answer) :
    handleRequest tag code owner s = s := by
  simp [handleRequest, h]

/-- With a reset pending a request is discarded, as a valid frame. -/
theorem handleRequest_pending {s : State} (h : s.settling = none) (k : s.lu.resetPending = true) (tag code : Byte)
    (owner : State → Answer) : handleRequest tag code owner s = acceptFrame s := by
  simp [handleRequest, h, k]

/-- With 8 responses waiting a request is discarded and the overrun mark set. -/
theorem handleRequest_full {s : State} (h : s.settling = none) (k : s.lu.resetPending = false) (f : 8 ≤ s.lu.responses.length)
    (tag code : Byte) (owner : State → Answer) :
    handleRequest tag code owner s = { acceptFrame s with lu := { (acceptFrame s).lu with overrun := true } } := by
  simp [handleRequest, h, k, f]

/-- An open link hands the request to its owner, whose answer joins the queue. -/
theorem handleRequest_open {s : State} (h : LinkOpen s) (tag code : Byte) (owner : State → Answer) :
    handleRequest tag code owner s =
      respond tag code (owner (acceptFrame s)).status (owner (acceptFrame s)).results (owner (acceptFrame s)).state := by
  obtain ⟨h1, h2, h3⟩ := h
  simp [handleRequest, h1, h2, h3]

/-- Taking an event leaves the link as it was. -/
theorem linkOpen_take (e : Instr) {s : State} (h : LinkOpen s) : LinkOpen (take e s) := h

/-- An answer that changes nothing but the link is the request's whole effect. -/
theorem handleRequest_answer {s : State} (h : LinkOpen s) (tag code : Byte) (owner : State → Answer) (st : Status)
    (r : List Byte) (k : owner (acceptFrame s) = answer st r (acceptFrame s)) :
    handleRequest tag code owner s = answered tag code st r s := by
  rw [handleRequest_open h, k]
  rfl

/-! ### The end of a step -/

/-- What a step's end leaves: everything but the bus's grant and the line's choice. -/
theorem complete_eq (s : State) : complete s = .next (finish s) := rfl

/-- The line's choice leaves the Link Unit's other parts. -/
@[simp] theorem startLine_link (s : State) :
    (startLine s).lu.receiver = s.lu.receiver ∧ (startLine s).lu.overrun = s.lu.overrun
      ∧ (startLine s).lu.silenceTimer = s.lu.silenceTimer ∧ (startLine s).lu.silence = s.lu.silence
      ∧ (startLine s).lu.resetPending = s.lu.resetPending ∧ (startLine s).lu.motionSequence = s.lu.motionSequence
      ∧ (startLine s).lu.lightSequence = s.lu.lightSequence ∧ (startLine s).lu.packSequence = s.lu.packSequence := by
  simp only [startLine]
  split
  · simp
  · simp only [chooseFrame]
    repeat' split
    all_goals simp

/-- The bus's grant leaves the lists of writes and the queue of posted writes. -/
@[simp] theorem grantBus_bus (s : State) : (grantBus s).bbc.posted = s.bbc.posted ∧ (grantBus s).bbc.lists = s.bbc.lists := by
  simp only [grantBus]
  repeat' split
  all_goals simp only [beginTransaction, granted, and_self]
  split <;> simp

end Sys2Proof.Machine
end

