-- ==== Sys2Proof/Laws/Bays.lean ====
section
/-! SUPPORT. What the shared operations of the power path, the bay bus and the charger do, field by field: a bay's move to a state, a switch
that opens or closes, arbitration while nothing can start, and the operations that have nothing to do. -/

namespace Sys2Proof.Machine

/-! ### Reads that depend on one part of the state -/

theorem filtered_congr {s t : State} (h : t.icu = s.icu) (i : Input) : filtered t i = filtered s i := by simp [filtered, h]

theorem paramN_congr {s t : State} (h : t.ts = s.ts) (n : Nat) : paramN t n = paramN s n := by simp [paramN, param, h]

theorem bayOf_congr {s t : State} (h : t.ppc = s.ppc) (b : Bay) : bayOf t b = bayOf s b := by simp [bayOf, h]

theorem busOf_congr {s t : State} (h : t.bbc = s.bbc) (b : Bay) : busOf t b = busOf s b := by simp [busOf, h]

theorem bridging_congr {s t : State} (h : t.ppc = s.ppc) : bridging t = bridging s := by simp [bridging, anyFeeding, bayOf, h]

theorem sessionActive_congr {s t : State} (h : t.cc = s.cc) (b : Bay) : sessionActive t b = sessionActive s b := by
  simp [sessionActive, h]

/-! ### A bay enters a state (R15, R16, R56, R57) -/

/-- Of the PPC, the bay's record alone changes. -/
@[simp] theorem enterBay_ppc (b : Bay) (st : BayState) (s : State) :
    (enterBay b st s).ppc = { s.ppc with bays := s.ppc.bays.set b (enteredRecord st (s.ppc.bays.get b)) } := by
  simp [enterBay, apply_ite State.ppc]

theorem enterBay_onlyBayRecord (b : Bay) (st : BayState) (s : State) : OnlyBayRecord b s (enterBay b st s) := by
  simp [OnlyBayRecord, bayOf]

/-- The BBC's record of the bay follows the state. -/
@[simp] theorem enterBay_bus (b : Bay) (st : BayState) (s : State) :
    (enterBay b st s).bbc.bays =
      s.bbc.bays.set b (enteredBus (s.ppc.bays.get b).state st (s.bbc.bays.get b)) := by
  simp only [enterBay, stopIdentifyRead]
  repeat' split
  all_goals simp [bayOf]

/-- The bay's identification read in flight is stopped; nothing else of the BBC changes but the bay's record. -/
theorem enterBay_bbc (b : Bay) (st : BayState) (s : State) :
    (enterBay b st s).bbc.lists = s.bbc.lists ∧ (enterBay b st s).bbc.deferred = s.bbc.deferred
      ∧ (enterBay b st s).bbc.posted = s.bbc.posted ∧ (enterBay b st s).bbc.selector = s.bbc.selector
      ∧ ((∀ t, s.bbc.inFlight = some t → t.owner ≠ .identify b) → (enterBay b st s).bbc.inFlight = s.bbc.inFlight)
      ∧ (st ≠ .identifying → ∀ t, (enterBay b st s).bbc.inFlight = some t → t.owner ≠ .identify b) := by
  have inner : ∀ u : State, u.bbc.lists = s.bbc.lists → u.bbc.deferred = s.bbc.deferred → u.bbc.posted = s.bbc.posted →
      u.bbc.selector = s.bbc.selector → u.bbc.inFlight = s.bbc.inFlight →
      (stopIdentifyRead b u).bbc.lists = s.bbc.lists ∧ (stopIdentifyRead b u).bbc.deferred = s.bbc.deferred
        ∧ (stopIdentifyRead b u).bbc.posted = s.bbc.posted ∧ (stopIdentifyRead b u).bbc.selector = s.bbc.selector
        ∧ ((∀ t, s.bbc.inFlight = some t → t.owner ≠ .identify b) → (stopIdentifyRead b u).bbc.inFlight = s.bbc.inFlight)
        ∧ ∀ t, (stopIdentifyRead b u).bbc.inFlight = some t → t.owner ≠ .identify b := by
    intro u h1 h2 h3 h4 h5
    simp only [stopIdentifyRead]
    split
    · rename_i x hx
      split
      · rename_i ho
        refine ⟨h1, h2, h3, h4, fun h => ?_, fun t h => ?_⟩
        · exact absurd ho (h x (h5 ▸ hx))
        · cases h
      · rename_i ho
        refine ⟨h1, h2, h3, h4, fun _ => h5, fun t h => ?_⟩
        rw [hx] at h
        cases h
        exact ho
    · rename_i hx
      refine ⟨h1, h2, h3, h4, fun _ => h5, fun t h => ?_⟩
      rw [hx] at h
      cases h
  by_cases h : st = .identifying
  · subst h
    refine ⟨?_, ?_, ?_, ?_, fun _ => ?_, fun h => absurd rfl h⟩ <;> simp [enterBay]
  · have key := inner (updBus b (enteredBus (bayOf s b).state st) (updBay b (enteredRecord st) s)) rfl rfl rfl rfl rfl
    have same : (enterBay b st s).bbc =
        (stopIdentifyRead b (updBus b (enteredBus (bayOf s b).state st) (updBay b (enteredRecord st) s))).bbc := by
      simp [enterBay, h, apply_ite State.bbc]
    rw [same]
    exact ⟨key.1, key.2.1, key.2.2.1, key.2.2.2.1, key.2.2.2.2.1, fun _ => key.2.2.2.2.2⟩

/-- The charged-since-insertion mark clears as the bay becomes EMPTY. -/
@[simp] theorem enterBay_cc (b : Bay) (st : BayState) (s : State) :
    (enterBay b st s).cc = if st = .empty then { s.cc with charged := s.cc.charged.set b false } else s.cc := by
  by_cases h : st = .empty <;> by_cases k : st = .identifying <;> simp [enterBay, h, k]

/-- The Budget Unit is told where a lost-telemetry mark goes with the pack, and where RELEASING is entered or left (R91). -/
theorem enterBay_delivered (b : Bay) (st : BayState) (s : State) :
    (enterBay b st s).delivered =
      s.delivered ++ (if st = .empty ∧ (s.ppc.bays.get b).telemetryLost = true then [.budgetRecompute] else [])
        ++ (if ((s.ppc.bays.get b).state = .releasing) = (st = .releasing) then [] else [.budgetRecompute]) := by
  have h1 : (stopIdentifyRead b (updBus b (enteredBus (bayOf s b).state st) (updBay b (enteredRecord st) s))).delivered
      = s.delivered := by simp
  cases st <;> cases h : (s.ppc.bays.get b).state <;> cases k : (s.ppc.bays.get b).telemetryLost <;>
    simp [enterBay, tellBudgetIf, bayOf, h, k]

/-- Outside RELEASING, and with no lost telemetry going with the pack, nothing is delivered. -/
theorem enterBay_quiet {b : Bay} {st : BayState} {s : State} (h : (s.ppc.bays.get b).state ≠ .releasing) (k : st ≠ .releasing)
    (l : st ≠ .empty ∨ (s.ppc.bays.get b).telemetryLost = false) : (enterBay b st s).delivered = s.delivered := by
  rw [enterBay_delivered]
  rcases l with l | l <;> simp [h, k, l]

/-! ### Switches (R13, R91) -/

/-- A change of switches or rail sets the bridge timer and tells the Budget Unit. -/
@[simp] theorem pathChanged_ppc (old s : State) :
    (pathChanged old s).ppc =
      { s.ppc with bridgeTimer := if bridging s then (if bridging old then s.ppc.bridgeTimer else some 0) else none } := by
  simp [pathChanged]

/-- A bay's switch opens or closes. -/
theorem setSwitch_bay (b : Bay) (v : Bool) (s : State) :
    (setSwitch (.bay b) v s).ppc.bays = s.ppc.bays.set b { s.ppc.bays.get b with discharge := v } := by
  simp [setSwitch, driveSwitch]

/-- The DC switch opens or closes. -/
theorem setSwitch_dc (v : Bool) (s : State) :
    (setSwitch .dc v s).ppc.bays = s.ppc.bays ∧ (setSwitch .dc v s).ppc.dcSwitch = v := by
  simp [setSwitch, driveSwitch]

/-! ### Operations with nothing to do -/

/-- With the record NONE and the fault mark set no attempt starts (R81). -/
theorem arbitrate_fault {s : State} (h : s.cc.session = .none) (k : s.cc.fault = true) : arbitrate s = s := by
  simp [arbitrate, h, chooseAttempt, k]

/-- An ACTIVE session is not given up (R81). -/
theorem arbitrate_active {s : State} {b : Bay} {i : Nat} {v : Recorded} (h : s.cc.session = .active b i v) : arbitrate s = s := by
  simp [arbitrate, h]

/-- While DC does not feed alone no bay is eligible to charge (R80). -/
theorem not_eligible_without_dc {s : State} (h : dcFeedsAlone s = false) (b : Bay) : eligibleToCharge s b = false := by
  simp only [eligibleToCharge, chargeable, h]
  split <;> simp

/-- While DC does not feed alone and no session stands, arbitration does nothing (R80, R81). -/
theorem arbitrate_without_dc {s : State} (h : s.cc.session = .none) (k : dcFeedsAlone s = false) : arbitrate s = s := by
  simp [arbitrate, h, chooseAttempt, chooseCharge, not_eligible_without_dc k]

theorem sessionStopped_idle {s : State} {b : Bay} (h : sessionActive s b = false) (r : Option HeldReason) :
    sessionStopped b r s = s := by
  simp [sessionStopped, h]

theorem stopCharging_idle {s : State} {b : Bay} (h : (s.ppc.bays.get b).state ≠ .charging) : stopCharging b s = s := by
  simp [stopCharging, bayOf, h]

theorem stopAllCharging_idle {s : State} (h : ∀ b, (s.ppc.bays.get b).state ≠ .charging) : stopAllCharging s = s := by
  simp [stopAllCharging, stopCharging_idle (h .A), stopCharging_idle (h .B)]

/-- With the rail OFF, or a transfer in flight, no source is selected (R23). -/
theorem select_idle {s : State} (h : s.ppc.railOn = false ∨ s.ppc.transfer.isSome) : select s = s := by
  rcases h with h | h <;> simp [select, h]

theorem graceTest_empty {s : State} (h : s.ppc.forced = none) : graceTest s = s := by simp [graceTest, h]

theorem graceTestFor_empty {s : State} (h : s.ppc.forced = none) (b : Bay) : graceTestFor b s = s := by simp [graceTestFor, h]

theorem graceLeft_empty {s : State} (h : s.ppc.forced = none) : graceLeft s = s := by simp [graceLeft, h]

theorem clearForcedOf_empty {s : State} (h : s.ppc.forced = none) (b : Bay) : clearForcedOf b s = s := by
  simp [clearForcedOf, h]

/-- With no pending mark nothing is evaluated at the hold's end or a transfer's end (R38). -/
theorem evaluatePendings_none {s : State} (h : ∀ b, (s.ppc.bays.get b).pendingRelease = false) : evaluatePendings s = s := by
  simp [evaluatePendings, evaluatePending, bayOf, h .A, h .B]

/-! ### The free orders (assumption 9) -/

/-- The state with one free order used. -/
theorem freeOrder_state (s : State) : (freeOrder s).2 = { s with freeIndex := s.freeIndex + 1 } := rfl

/-- A management reset's two cap parts come out in one of two orders (R90, R127). -/
theorem resetCaps_either (s : State) :
    resetCaps s = resetBudget (resetBacklightFirst (freeOrder s).2) ∨ resetCaps s = resetBacklight (resetBudget (freeOrder s).2) := by
  cases o : (freeOrder s).1 <;> simp [resetCaps, o]

/-- With both pending marks set, one bay is evaluated and then the other (R38). -/
theorem evaluatePendings_either {s : State} (h : ∀ b, (bayOf s b).pendingRelease = true) :
    ∃ b : Bay, evaluatePendings s = evaluatePending b.other (evaluatePending b (freeOrder s).2) := by
  cases o : (freeOrder s).1
  · exact ⟨.A, by simp [evaluatePendings, h, o, Bay.other]⟩
  · exact ⟨.B, by simp [evaluatePendings, h, o, Bay.other]⟩

end Sys2Proof.Machine
end

