-- ==== Sys2Proof/Tests/Slice0.lean ====
section
/-! SUPPORT. Tests of the model. Expected values come from the manual: its worked examples (sections 1.5, 2.8, 2.9, 3.11, 3.12, 4.1.1,
4.7, 4.8, 5.8, 6.11, 6.12, 7.13, 8.10, 8.11, 9.8, 10.8) and its tables. First the well-formedness checks, then the reading of
requests, then the commands in the order of the opcode table, then for each obligation a state and operands that meet its hypotheses,
clause by clause. -/

namespace Sys2Proof.Tests

open Sys2Proof.Machine

-- One test at a time: side by side, each holds a thread's stack while it waits for the kernel.
set_option Elab.async false

/-! ### Small states -/

/-- The next state of an outcome. -/
def after (o : Host.Outcome State Fault Refusal) : Option State :=
  match o with
  | .next s => some s
  | _ => none

/-- The state after a command, seen through a reading. -/
def sees {α : Type} (c : Instr) (s : State) (f : State → α) : Option α := (after (exec c s)).map f

/-- The companion after its settle interval, nothing delivered. -/
def calm : State := { State.reset with settling := none, delivered := [] }

/-- With a frame on the upstream line, so that responses and notices wait. -/
def lineBusy (s : State) : State := { s with lu := { s.lu with line := some ⟨0x83, [], 9, false⟩ } }

/-- The notices that wait. -/
def notices (s : State) : List Notice := s.lu.notices.map PendingNotice.notice

/-- The status and results of the responses that wait. -/
def replies (s : State) : List (Status × List Byte) := s.lu.responses.map fun r => (r.status, r.results)

/-- With the two bay records replaced. -/
def withBays (a b : BayRecord) (s : State) : State := { s with ppc := { s.ppc with bays := ⟨a, b⟩ } }

/-- With an input's record replaced. -/
def withInput (i : Input) (raw filtered : Bool) (timer : Option Nat) (s : State) : State :=
  { s with icu := setInput s.icu i ⟨raw, filtered, timer⟩ }

/-- With a parameter's active value replaced. -/
def withParam (n : Nat) (v : Int) (s : State) : State :=
  { s with ts := { s.ts with t0 := { s.ts.t0 with active := s.ts.t0.active.set n v } } }

/-- A telemetry block at 25.0 °C with no alarm. -/
def cell (charge voltage : Nat) : Telemetry := ⟨voltage, 0, 250, charge, 40000, 60000, 17, noAlarms⟩

/-- An identity. -/
def ident (serial : Nat) : Identity := ⟨serial, 1, 4, 60000, 14400⟩

/-- A bay with an identified pack that matched profile 0. -/
def packed (st : BayState) (serial charge voltage : Nat) : BayRecord :=
  { bayAtReset with state := st, identity := some (ident serial), telemetry := some (cell charge voltage), profile := some 0 }

/-- A bay in a state with nothing else in its record. -/
def bare (st : BayState) : BayRecord := { bayAtReset with state := st }

/-- A set with one alarm that clean reads clear. -/
def hot : AlarmSet := ⟨true, false, false, false⟩

/-- Section 2.8: bay A supplies at 22 %, bay B stands by at 71 %, the reserve is ready. -/
def onBatteries : State :=
  { calm with ppc := { ppcAtReset with
      va := 14100, vb := 16050, vres := 11800, reserveReady := true, railOn := true, offReason := .none
      bays := ⟨{ packed .supplying 7 22 14100 with discharge := true }, packed .standby 8 71 16050⟩ } }

/-- Section 2.9: bay A supplies alone at 31 %. -/
def alone : State :=
  { onBatteries with ppc := { onBatteries.ppc with
      va := 15400, vb := 0, vres := 11600
      bays := ⟨{ packed .supplying 7 31 15400 with discharge := true }, bayAtReset⟩ } }

/-- The values the default profile records. -/
def usual : Recorded := ⟨16800, 3000, 150, 0, 450⟩

/-- An entry of the pack memory. -/
def entry (serial : Nat) : PackEntry := ⟨serial, 1, 60000, .A, 50, 3, false, none⟩

/-- Section 4.7: DC feeds, bay A stands by at 62 % and bay B at 38 %, both known. -/
def onDc : State :=
  { calm with
    ppc := { ppcAtReset with
      vdc := 19000, vres := 12000, reserveReady := true, dc := .present 0, dcSwitch := true, railOn := true, offReason := .none
      bays := ⟨packed .standby 7 62 14800, packed .standby 8 38 14300⟩ }
    cc := { ccAtReset with memory := [entry 7, entry 8] } }

/-- Section 4.7 at 0.004 s: bay B is CHARGING. -/
def charging : State :=
  withBays (packed .standby 7 62 14800) { packed .charging 8 38 14300 with charge := true }
    { onDc with cc := { onDc.cc with session := .active .B 0 usual } }

/-- With a transaction in flight. -/
def inFlight (owner : TxOwner) (g : Segment) (op : BusOp) (s : State) : State :=
  { s with bbc := { s.bbc with inFlight := some ⟨owner, g, op, 0, 7000⟩ } }

/-- Section 6.11: the noon case before the step. -/
def shade : State :=
  { calm with
    blc := { blcAtReset with
      front := ⟨some 9000, false, false, some 0⟩, rear := ⟨some 14000, false, false, some 0⟩, filter := 144000, curveLevel := 616,
      held := 600, offset := 50, temperature := some 560, tempSilent := false, tempSilence := some 0, thermalCap := 880,
      publication := some (1000, false), railOn := true, target := 650, output := 650, rampPhase := some 0 } }

/-- Section 6.12: the same at its target of 691. -/
def noon : State := { shade with blc := { shade.blc with held := 641, target := 691, output := 691 } }

/-- The snapshot of section 7.13. -/
def tailgate : Snapshot := ⟨false, false, false, true, some 0x3A17C0DE, true, some 0x0B55E0A1⟩

/-- Section 7.13 with bays A and B occupied, the monitor in a state of the event. -/
def dropping (st : ShmState) (m : Shm) : State :=
  { withBays { packed .supplying 0x3A17C0DE 62 14800 with discharge := true } (packed .standby 0x0B55E0A1 80 14900) calm with
    shm := { m with state := st, silence := some 0 } }

/-- The monitor's record through the event of section 7.13. -/
def event : Shm :=
  { shmAtReset with fallCount := 312, peakM2 := 16890000, snapshot := some tailgate, quiesceLine := true }

/-- A record of the log. -/
def logged (n : Nat) (preserved : Bool) : DropRecord :=
  ⟨n, 0, false, .knock, 3, 0, 0, 0, 5000, 1, false, false, false, false, preserved, false, tailgate⟩

/-- Section 8.11: 32 records, the sixteen oldest preserved. -/
def fullLog : State :=
  { calm with dl := { dlAtReset with
      log := (List.range 16).map (fun i => logged (101 + i) true) ++ (List.range 16).map (fun i => logged (117 + i) false)
      nextSequence := 133 } }

/-! ### Well-formedness: each check refuses a command outside its range -/

theorem test_reading_in_range :
    wellFormed (.sourceMonitorReading 25000 0 0 25000) = true ∧ wellFormed (.sourceMonitorReading 25001 0 0 0) = false
      ∧ wellFormed (.sourceMonitorReading 0 25001 0 0) = false ∧ wellFormed (.sourceMonitorReading 0 0 25001 0) = false
      ∧ wellFormed (.sourceMonitorReading 0 0 0 25001) = false := by decide +kernel

theorem test_identity_in_range :
    let good : Identity := ⟨1, 15, 6, 65535, 65535⟩
    let ok := fun d => wellFormed (.ppcIdentificationOutcome .A (.success d (cell 100 14000)))
    ok good = true ∧ ok { good with serial := 0 } = false ∧ ok { good with serial := 4294967296 } = false
      ∧ ok { good with chemistry := 16 } = false ∧ ok { good with cellCount := 0 } = false ∧ ok { good with cellCount := 7 } = false
      ∧ ok { good with designCapacity := 65536 } = false ∧ ok { good with designVoltage := 65536 } = false := by decide +kernel

theorem test_telemetry_in_range :
    let good := cell 100 65535
    let ok := fun t => wellFormed (.ppcTelemetry .B t) && wellFormed (.ccTelemetry .B t)
    ok good = true ∧ ok { good with voltage := 65536 } = false ∧ ok { good with current := 32768 } = false
      ∧ ok { good with current := -32769 } = false ∧ ok { good with temperature := 32768 } = false
      ∧ ok { good with charge := 101 } = false ∧ ok { good with remainingEnergy := 65536 } = false
      ∧ ok { good with fullCapacity := 65536 } = false ∧ ok { good with cycleCount := 65536 } = false := by decide +kernel

theorem test_outcome_and_reply_in_range :
    wellFormed (.ppcIdentificationOutcome .A (.failed .timeout)) = true
      ∧ wellFormed (.ppcIdentificationOutcome .A (.failed .done)) = false
      ∧ wellFormed (.ppcIdentificationOutcome .A (.failed .removed)) = false
      ∧ wellFormed (.transactionEnd (.accepted (List.replicate 32 0))) = true
      ∧ wellFormed (.transactionEnd (.accepted (List.replicate 33 0))) = false := by decide +kernel

theorem test_levels_and_samples_in_range :
    wellFormed (.cappedEvaluation 1000) = true ∧ wellFormed (.cappedEvaluation 1001) = false
      ∧ wellFormed (.blcPublication 1001 false) = false ∧ wellFormed (.lightSample .front 131071 true) = true
      ∧ wellFormed (.lightSample .front 131072 true) = false ∧ wellFormed (.accelSample (-32768) 32767 0) = true
      ∧ wellFormed (.accelSample (-32769) 0 0) = false ∧ wellFormed (.accelSample 0 32768 0) = false
      ∧ wellFormed (.accelSample 0 0 32768) = false := by decide +kernel

theorem test_deliveries_and_requests_in_range :
    wellFormed (.table0SwapDelivery .icu [0, 47]) = true ∧ wellFormed (.table0SwapDelivery .icu [48]) = false
      ∧ wellFormed (.table3SwapDelivery .bu) = true ∧ wellFormed (.table3SwapDelivery .icu) = false
      ∧ wellFormed (.frameDiscarded (List.replicate 64 0)) = true ∧ wellFormed (.frameDiscarded (List.replicate 65 0)) = false
      ∧ wellFormed (.stateRead 1 (List.replicate 58 0)) = true ∧ wellFormed (.stateRead 1 (List.replicate 59 0)) = false
      ∧ wellFormed (.unknownRequest 1 0x7F []) = true ∧ wellFormed (.unknownRequest 1 0x01 []) = false
      ∧ wellFormed (.unknownRequest 1 0x7F (List.replicate 59 0)) = false
      ∧ wellFormed (.shortPayloadRequest [1]) = true ∧ wellFormed (.shortPayloadRequest [1, 2]) = false := by decide +kernel

/-! ### Reading requests (section 10.7) -/

/-- Request codes of section 10.7, one of each block. -/
theorem test_request_codes :
    decodeRequest [9, 0x01] = .identify 9 [] ∧ decodeRequest [9, 0x13, 2, 11, 1] = .tableRead 9 [2, 11, 1]
      ∧ decodeRequest [9, 0x21, 0, 0x51, 0x34, 0x12] = .packWrite 9 [0, 0x51, 0x34, 0x12]
      ∧ decodeRequest [9, 0x23, 1] = .rail 9 [1] ∧ decodeRequest [9, 0x32, 0x0C, 0xFE] = .offsetSet 9 [0x0C, 0xFE]
      ∧ decodeRequest [9, 0x42] = .quiesceRelease 9 [] ∧ decodeRequest [9, 0x54, 1, 2, 3, 4] = .timeSet 9 [1, 2, 3, 4]
      ∧ decodeRequest [9, 0x62, 1, 2, 3, 4] = .packClearShock 9 [1, 2, 3, 4] ∧ decodeRequest [9, 0x24] = .unknownRequest 9 0x24 []
      ∧ decodeRequest [9] = .shortPayloadRequest [9] ∧ decodeRequest [] = .shortPayloadRequest [] := by decide +kernel

/-- R181's test of an implementation of the check. -/
theorem test_frame_check : crc [0x31, 0x32, 0x33, 0x34, 0x35, 0x36, 0x37, 0x38, 0x39] = 0x29B1 := by decide +kernel

/-- No row of the opcode table has bits, so no table word spells a command. -/
theorem test_no_table_word : decodeTableWord 16 0x1234 = none ∧ calm.withFetchWord 16 0x1234 = calm := by decide +kernel


/-! ### Resets and inputs -/

/-- R10, R31, R126, R168: the rail is OFF with reason POWER_ON, the screen dark, the counter 1. -/
theorem test_power_on_reset :
    sees .powerOnReset { noon with pending := [.rampTick] }
        (fun s => (s.ppc.railOn, s.ppc.offReason, s.blc.output, s.dl.nextSequence, s.pending))
      = some (false, .powerOn, 0, 1, [.rampTick]) := by decide +kernel

/-- R2: at the end of the interval a raw level that differs from its filtered state starts its timer. -/
theorem test_settle_end :
    sees .supplySettleEnd (withInput .presA true false none State.reset)
        (fun s => (s.settling, s.icu.presA, s.icu.presB, s.blc.front.silence, s.shm.silence))
      = some (none, ⟨true, false, some 0⟩, ⟨false, false, none⟩, some 0, some 0) := by decide +kernel

/-- Section 1.5 at 0 and at 640. -/
theorem test_raw_levels :
    sees (.rawLevelChange .relA true) calm (fun s => s.icu.relA) = some ⟨true, false, some 0⟩
      ∧ sees (.rawLevelChange .presB true) (withInput .presB false true (some 8000) calm) (fun s => (s.icu.presB, s.delivered))
        = some (⟨true, true, none⟩, []) := by decide +kernel

/-- Section 1.5 at 250. -/
theorem test_stability_expiry :
    sees (.stabilityTimerExpiry .relA) (withInput .relA true false (some 50000) calm) (fun s => (s.icu.relA, s.delivered))
      = some (⟨true, true, none⟩, [.ppcRelRising .A]) := by decide +kernel

/-- Section 1.5 at 12: the timer runs on against 250. -/
theorem test_hold_start_lengthens :
    sees (.filterLengthChange .holdStart) (withInput .relA true false (some 2400) calm)
        (fun s => (s.icu.hold, s.icu.bayLength, s.icu.relA, s.delivered))
      = some (true, 250, ⟨true, false, some 2400⟩, []) := by decide +kernel

/-- Section 1.5 at 900: 245 ms are accepted at once against 20. -/
theorem test_hold_drop_accepts :
    sees (.filterLengthChange .holdDrop)
        (withInput .presB false true (some 49000) { calm with icu := { calm.icu with hold := true, bayLength := 250 } })
        (fun s => (s.icu.bayLength, s.icu.presB, s.delivered))
      = some (20, ⟨false, false, none⟩, [.ppcPresFalling .B, .bbcPresFalling .B]) := by decide +kernel

/-! ### Insertion, removal and release -/

/-- R18. -/
theorem test_pres_rising :
    sees (.ppcPresRising .B) (lineBusy calm) (fun s => ((bayOf s .B).state, notices s)) = some (.seating, [.bayInserted .B]) := by
  decide +kernel

/-- Section 2.8 at 3,400, and the forced removal of section 8.10's variant. -/
theorem test_pres_falling :
    sees (.ppcPresFalling .A) (lineBusy (withBays (packed .released 7 22 14100) bayAtReset calm))
        (fun s => (bayOf s .A, notices s)) = some (bayAtReset, [.bayRemoved .A])
      ∧ sees (.ppcPresFalling .B) (lineBusy onBatteries) (fun s => (bayOf s .B, notices s))
        = some (bayAtReset, [.forcedRemoval .B .standby]) := by decide +kernel

/-- R18, R54: the bay is IDENTIFYING and its identity read is granted at once. -/
theorem test_latch_rising :
    sees (.ppcLatchRising .B) (withBays bayAtReset (bare .seating) calm)
        (fun s => ((bayOf s .B).state, s.bbc.inFlight.map fun t => (t.owner, t.segment, t.op)))
      = some (.identifying, some (.identify .B, .B, .read 0x11 12)) := by decide +kernel

/-- R34, R35: a forced latch releases a STANDBY bay. -/
theorem test_latch_falling :
    sees (.ppcLatchFalling .B) (lineBusy onBatteries) (fun s => ((bayOf s .B).state, notices s))
      = some (.released, [.latchForced .B, .releaseGranted .B]) := by decide +kernel

/-- Section 2.8 at 0, and with V_b = 14,250 mV. -/
theorem test_release_by_bridge_or_overlap :
    sees (.ppcRelRising .A) onBatteries
        (fun s => (bayOf s .A, s.ppc.transfer, s.ppc.bridgeTimer, reserveCharge s))
      = some ({ packed .releasing 7 22 14100 with discharge := false },
          some ⟨some (.bay .A), .bay .B, .bridge, .bridge, true, .release, 0⟩, some 0, false)
      ∧ sees (.ppcRelRising .A) { onBatteries with ppc := { onBatteries.ppc with vb := 14250 } }
        (fun s => ((bayOf s .A).discharge, (bayOf s .B).state, (bayOf s .B).discharge, s.ppc.transfer.map Transfer.method))
        = some (true, .supplying, true, some .overlap) := by decide +kernel

/-- Section 2.8 with the reserve at 10,600 mV; section 2.9 at 0 with the button held. -/
theorem test_release_refused :
    sees (.ppcRelRising .A) (lineBusy { onBatteries with ppc := { onBatteries.ppc with vres := 10600, reserveReady := false } })
        (fun s => ((bayOf s .A).state, notices s)) = some (.supplying, [.releaseRefused .A .noBridge])
      ∧ sees (.ppcRelRising .A) (lineBusy (withInput .relA true true none alone))
        (fun s => ((bayOf s .A).state, (bayOf s .A).refusal, (bayOf s .A).holdTimer, notices s))
        = some (.supplying, true, some 0, [.releaseRefused .A .noAlternative]) := by decide +kernel

/-- Section 2.9 with the refusal standing. -/
def refused : State :=
  withInput .relA true true none
    { alone with ppc := { alone.ppc with
        bays := ⟨{ packed .supplying 7 31 15400 with discharge := true, refusal := true, holdTimer := some 1000000 }, bayAtReset⟩ } }

/-- Section 2.9 with the grace running. -/
def inGrace (elapsed : Nat) : State := { refused with ppc := { refused.ppc with forced := some ⟨.A, elapsed⟩ } }

/-- Section 2.9 at 6,200: the refusal ends, the record stays. -/
theorem test_rel_falling :
    sees (.ppcRelFalling .A) (inGrace 240000) (fun s => ((bayOf s .A).refusal, (bayOf s .A).holdTimer, s.ppc.forced))
      = some (false, none, some ⟨.A, 240000⟩) := by decide +kernel

/-- Section 3.11 at 2.0: the read is stopped, and the write to A is granted. -/
theorem test_bus_pres_falling :
    sees (.bbcPresFalling .B)
        (inFlight .deferred .B (.read 0x12 16) { calm with bbc := { bbcAtReset with
          deferred := some ⟨.B, 0x12, 16, .inFlight⟩, posted := [⟨.A, 0x51, 0⟩] } })
        (fun s => (s.bbc.deferred, s.bbc.inFlight.map fun t => (t.owner, t.op)))
      = some (some ⟨.B, 0x12, 16, .done .removed [] 0⟩, some (.posted, .write 0x51 0)) := by decide +kernel

/-- Section 2.9 at 5,000. -/
theorem test_hold_timer_expiry :
    sees (.releaseHoldTimerExpiry .A) (lineBusy refused) (fun s => (s.ppc.forced, (bayOf s .A).state, notices s))
      = some (some ⟨.A, 0⟩, .supplying, [.powerFailWarning (some .A)]) := by decide +kernel

/-- Section 2.9 at 15,000, had DC not arrived. -/
theorem test_grace_expiry :
    sees .graceExpiry (inGrace 2000000)
        (fun s => (s.ppc.railOn, s.ppc.offReason, (bayOf s .A).state, (bayOf s .A).discharge, s.ppc.forced))
      = some (false, .graceExpired, .released, false, none) := by decide +kernel

/-- R41: LATCH deasserted restarts the timer; LATCH asserted relocks the bay into STANDBY. -/
theorem test_release_lapse :
    let s := withInput .presA true true none (withBays { packed .released 7 50 15000 with lapseTimer := some 2000000 } bayAtReset calm)
    sees (.releaseLapseExpiry .A) s (fun s => ((bayOf s .A).state, (bayOf s .A).lapseTimer)) = some (.released, some 0)
      ∧ sees (.releaseLapseExpiry .A) (lineBusy (withInput .latchA true true none s))
        (fun s => ((bayOf s .A).state, (bayOf s .A).lapseTimer, notices s)) = some (.standby, none, [.releaseLapsed .A]) := by
  decide +kernel

/-- R38: the hold's start turns a standing refusal into a pending mark; its end evaluates one (section 7.13's press). -/
theorem test_shock_hold :
    sees .ppcShockHoldStart refused
        (fun s => (s.ppc.hold, (bayOf s .A).refusal, (bayOf s .A).holdTimer, (bayOf s .A).pendingRelease))
      = some (true, false, none, true)
      ∧ sees .ppcShockHoldEnd
        (withBays (packed .supplying 7 22 14100) { packed .standby 8 71 16050 with pendingRelease := true }
          { calm with ppc := { ppcAtReset with hold := true } })
        (fun s => (s.ppc.hold, (bayOf s .B).state, (bayOf s .B).pendingRelease)) = some (false, .released, false) := by
  decide +kernel

/-! ### Sources and transfers -/

/-- Section 2.9 at 8,000 and at 8,200: the grace finds DC, and the release bridges to it. -/
theorem test_dc_rescues_release :
    sees (.sourceMonitorReading 19000 15400 0 11600) (inGrace 600000) (fun s => (s.ppc.dc, s.ppc.forced))
      = some (.qualifying 0, some ⟨.A, 600000⟩)
      ∧ sees (.sourceMonitorReading 19000 15400 0 11600)
          { inGrace 640000 with ppc := { (inGrace 640000).ppc with dc := .qualifying 40000 } }
        (fun s => ((bayOf s .A).state, (bayOf s .A).discharge, s.ppc.forced, s.ppc.transfer.map fun t => (t.method, t.cause)))
        = some (.releasing, false, none, some (.bridge, .release)) := by decide +kernel

/-- R14: one reading below the threshold leaves DC PRESENT, the second loses it; section 5.8 at step 2 then bridges to bay A. -/
theorem test_dc_lost :
    sees (.sourceMonitorReading 9000 14800 14300 12000) onDc (fun s => s.ppc.dc) = some (.present 1)
      ∧ sees (.sourceMonitorReading 9000 14800 14300 12000) { onDc with ppc := { onDc.ppc with dc := .present 1 } }
        (fun s => (s.ppc.dc, s.ppc.dcSwitch, bridging s, s.ppc.transfer))
        = some (.absent, false, true, some ⟨some .dc, .bay .B, .bridge, .bridge, false, .dcLoss, 0⟩) := by decide +kernel

/-- Section 2.8 in its OVERLAP variant at 2. -/
theorem test_overlap_complete :
    sees .overlapComplete
        (lineBusy (withBays { packed .releasing 7 22 14100 with discharge := true } { packed .supplying 8 71 14250 with discharge := true }
          { onBatteries with ppc := { onBatteries.ppc with
              transfer := some ⟨some (.bay .A), .bay .B, .overlap, .overlap, true, .release, 400⟩ } }))
        (fun s => ((bayOf s .A).state, (bayOf s .A).discharge, (bayOf s .B).state, s.ppc.transfer, notices s))
      = some (.released, false, .supplying, none,
          [.releaseGranted .A, .transferDone (some (.bay .A)) (.bay .B) .overlap .release true]) := by decide +kernel

/-- Section 2.8 at 1. -/
theorem test_bridge_target_close :
    sees .bridgeTargetClose
        (withBays (packed .releasing 7 22 14100) (packed .standby 8 71 16050)
          { onBatteries with ppc := { onBatteries.ppc with
              bridgeTimer := some 200
              transfer := some ⟨some (.bay .A), .bay .B, .bridge, .bridge, true, .release, 200⟩ } })
        (fun s => (((bayOf s .A).state, (bayOf s .A).lapseTimer), (bayOf s .B).state, s.ppc.bridgeTimer, s.ppc.transfer, reserveCharge s))
      = some ((.released, some 0), .supplying, none, none, true) := by decide +kernel

/-- R30, R31. -/
theorem test_bridge_timer_expiry :
    sees .bridgeTimerExpiry
        { calm with ppc := { ppcAtReset with railOn := true, offReason := .none, bridgeTimer := some 300000 } }
        (fun s => (s.ppc.railOn, s.ppc.offReason, s.ppc.bridgeTimer, s.delivered.contains (.blcRailChange false)))
      = some (false, .bridgeExpired, none, true) := by decide +kernel

/-! ### Packs -/

/-- Section 4.1.1: a new pack evicts S0; a returning one moves to the front with its mark. The outcome's grant needs no rail. -/
theorem test_identification_remembers :
    let memory := ([17, 16, 15, 14, 13, 12] : List Nat).map entry ++ [{ entry 11 with shocked := true, shockSequence := some 14 }, entry 10]
    let s := withBays (packed .supplying 17 50 15000) (bare .identifying) { calm with cc := { ccAtReset with memory := memory } }
    sees (.ppcIdentificationOutcome .B (.success (ident 18) (cell 64 15000))) s
        (fun s => (s.cc.memory.map PackEntry.serial, (bayOf s .B).state)) = some ([18, 17, 16, 15, 14, 13, 12, 11], .standby)
      ∧ sees (.ppcIdentificationOutcome .B (.success (ident 11) (cell 64 15000))) s
        (fun s => s.cc.memory.head?.map fun e => (e.serial, e.insertCount, e.lastBay, e.shockSequence))
        = some (some (11, 4, .B, some 14)) := by decide +kernel

/-- R19: section 3.12's duplicate, and its final failure. -/
theorem test_identification_refused :
    let s := withBays (packed .supplying 7 50 15000) (bare .identifying) calm
    sees (.ppcIdentificationOutcome .B (.success (ident 7) (cell 64 15000))) s (fun s => (bayOf s .B).state)
        = some (.faulted .duplicate)
      ∧ sees (.ppcIdentificationOutcome .B (.failed .timeout)) s (fun s => (bayOf s .B).state) = some (.faulted .idFail) := by
  decide +kernel

/-- R20: OVER_TEMP faults a STANDBY bay. -/
theorem test_path_telemetry :
    sees (.ppcTelemetry .B { cell 71 16050 with alarms := hot }) (lineBusy onBatteries)
        (fun s => ((bayOf s .B).state, notices s))
      = some (.faulted .alarm, [.packAlarm .B hot, .bayFault .B .alarm]) := by decide +kernel

/-- Section 4.7 at 0: B, the lower, is chosen, and its start list is handed. -/
theorem test_charge_arbitration :
    sees (.ccTelemetry .B (cell 38 14300)) onDc (fun s => (s.cc.session, s.bbc.lists))
      = some (.starting .B 0 usual, [⟨.start, [(0x31, 16800), (0x32, 3000), (0x33, 1)], false⟩]) := by decide +kernel

/-- Section 4.7: 140 mA at 16,762 mV ends the session. -/
theorem test_charge_done :
    sees (.ccTelemetry .B { cell 100 16762 with current := 140 })
        (lineBusy (withBays (packed .standby 7 62 14800) { packed .charging 8 100 16762 with charge := true } charging))
        (fun s => (((bayOf s .B).state, s.cc.charged.b), s.cc.session, s.bbc.lists.map ChargerList.kind, notices s))
      = some ((.standby, true), .starting .A 0 usual, [.stop, .start], [.chargeDone .B 100]) := by decide +kernel

/-! ### The bay bus -/

/-- Section 4.7 at 0.004: the last write of the start list is done. -/
theorem test_start_list_done :
    sees (.transactionEnd (.accepted []))
        (lineBusy (inFlight .charger .C (.write 0x33 1)
          { onDc with cc := { onDc.cc with session := .starting .B 0 usual }
                      bbc := { bbcAtReset with lists := [⟨.start, [(0x33, 1)], false⟩] } }))
        (fun s => ((bayOf s .B).state, (bayOf s .B).charge, s.cc.session, notices s, s.delivered))
      = some (.charging, true, .active .B 0 usual, [.chargeStarted .B 0], [.budgetRecompute]) := by decide +kernel

/-- Section 3.12 at 37.1: a serial of 0 fails the attempt, and the third is granted at once. -/
theorem test_serial_zero_fails_attempt :
    sees (.transactionEnd (.accepted [0, 0, 0, 0, 1, 4, 0, 0, 0, 0, 0, 0xFB]))
        (inFlight (.identify .B) .B (.read 0x11 12)
          { calm with bbc := { bbcAtReset with bays := ⟨bayBusAtReset, { bayBusAtReset with sequence := some ⟨2, none⟩ }⟩ } })
        (fun s => ((busOf s .B).sequence, s.bbc.inFlight.map Transaction.owner))
      = some (some ⟨3, none⟩, some (.identify .B)) := by decide +kernel

/-- Section 3.12 at 36.3. -/
theorem test_identification_timeout :
    sees .transactionTimeout
        (inFlight (.identify .B) .B (.read 0x11 12)
          { calm with bbc := { bbcAtReset with bays := ⟨bayBusAtReset, { bayBusAtReset with sequence := some ⟨1, none⟩ }⟩ } })
        (fun s => ((busOf s .B).sequence, s.bbc.inFlight.map Transaction.owner))
      = some (some ⟨2, none⟩, some (.identify .B)) := by decide +kernel

/-- Section 4.8 at 0.105: the third failed list sets the fault mark. -/
theorem test_charger_fault :
    sees .transactionTimeout
        (lineBusy (inFlight .charger .C (.write 0x33 0)
          { onDc with cc := { onDc.cc with failedLists := 2 }, bbc := { bbcAtReset with lists := [⟨.stop, [(0x33, 0)], false⟩] } }))
        (fun s => (s.cc.failedLists, s.cc.fault, s.bbc.lists, notices s))
      = some (3, true, [], [.chargerFault .timeout]) := by decide +kernel

/-- Section 3.11 at 0.9: the poll stands while the write to B is in flight. -/
theorem test_poll_timer :
    sees (.pollTimerExpiry .A)
        (inFlight .posted .B (.write 0x50 1) { calm with bbc := { bbcAtReset with
          posted := [⟨.B, 0x50, 1⟩], bays := ⟨{ bayBusAtReset with pollTimer := some 200000 }, bayBusAtReset⟩ } })
        (fun s => ((busOf s .A).pollTimer, (busOf s .A).pollDue)) = some (some 0, true) := by decide +kernel

/-- R62. -/
theorem test_deferred_expiry :
    sees .deferredExpiry (lineBusy { calm with bbc := { bbcAtReset with deferred := some ⟨.B, 0x12, 16, .done .removed [] 400000⟩ } })
        (fun s => (s.bbc.deferred, notices s)) = some (none, [.deferredExpired .B 0x12 16]) := by decide +kernel

/-! ### Budget and backlight -/

/-- Section 5.8: bay A feeds with a block of its own. -/
def feeding (charge voltage : Nat) : State :=
  withBays { packed .supplying 7 charge voltage with discharge := true } (packed .standby 8 100 16700)
    { onBatteries with bu := { buAtReset with demand := 691, publishedCap := 1000, capped := false } }

/-- Section 5.8, steps 4 and 3: 3,100 mW give 258, published, and the mark is set; 34,200 mW give 1000. -/
theorem test_budget_on_batteries :
    sees .budgetRecompute (lineBusy (feeding 9 14050)) (fun s => (s.bu.budget, s.bu.powerCap, s.delivered, notices s))
      = some (28100, 258, [.blcPublication 258 false], [.backlightCapped true 691 258 false])
      ∧ sees .budgetRecompute (feeding 62 14800) (fun s => (s.bu.case, s.bu.budget, s.bu.powerCap, s.bu.capped))
        = some (.bayA, 59200, 1000, false) := by decide +kernel

/-- Section 5.8, steps 1 and 2: the session's share on DC; nothing while bridging, with the swap flag. -/
theorem test_budget_on_dc :
    sees .budgetRecompute charging (fun s => (s.bu.case, s.bu.budget, s.bu.powerCap, s.bu.swapFlag)) = some (.dc, 39600, 1000, false)
      ∧ sees .budgetRecompute { feeding 62 14800 with ppc := { ppcAtReset with railOn := true } }
        (fun s => (s.bu.case, s.bu.budget, s.bu.powerCap, s.bu.swapFlag, s.bu.capped)) = some (.bridging, 0, 0, true, true) := by
  decide +kernel

/-- Section 5.8: 691 against a ceiling of 258, and against 1000. -/
theorem test_capped_evaluation :
    sees (.cappedEvaluation 691) (lineBusy { calm with bu := { buAtReset with powerCap := 258 } }) (fun s => (s.bu.capped, notices s))
      = some (true, [.backlightCapped true 691 258 false])
      ∧ sees (.cappedEvaluation 691) { calm with bu := { buAtReset with powerCap := 1000, capped := true } } (fun s => s.bu.capped)
        = some false := by decide +kernel

/-- Section 6.12 at 0, and its BRIDGE variant. -/
theorem test_publication :
    sees (.blcPublication 1000 true) noon (fun s => (s.blc.target, s.blc.output, s.delivered))
      = some (300, 300, [.cappedEvaluation 691])
      ∧ sees (.blcPublication 0 true) noon (fun s => (s.blc.target, s.blc.output)) = some (40, 40) := by decide +kernel

/-- R119, R122. -/
theorem test_rail_and_lid :
    sees (.blcRailChange false) noon (fun s => (s.blc.target, s.blc.output, s.delivered)) = some (0, 0, [.cappedEvaluation 0])
      ∧ sees (.blcLidEdge true) noon (fun s => (s.blc.target, s.blc.output, s.delivered)) = some (0, 0, [.cappedEvaluation 0]) := by
  decide +kernel

/-- Section 6.11. -/
theorem test_noon_step :
    sees (.lightSample .front 12000 false) shade
        (fun s => ((s.blc.filter, s.blc.curveLevel, s.blc.held), s.blc.target, s.blc.output))
      = some ((168000, 641, 641), 691, 650) := by decide +kernel

/-- Section 9.8: the step swaps a pending curve first, and its Tc is 675. -/
theorem test_curve_swap :
    let curve : Curve := ⟨[(0, 80), (50, 150), (500, 300), (5000, 600), (30000, 900), (80000, 1000)] ++ List.replicate 10 (0, 0), 6⟩
    sees (.lightSample .front 12000 false)
        (lineBusy { noon with
          blc := { noon.blc with filter := 168000, front := ⟨some 12000, false, false, some 0⟩ }
          ts := { noon.ts with t1 := ⟨defaultCurve, curve, true⟩ } })
        (fun s => ((s.blc.filter, s.blc.curveLevel, s.blc.held), s.ts.t1 == ⟨curve, curve, false⟩, notices s))
      = some ((180000, 675, 675), true, [.tableApplied 1]) := by decide +kernel

/-- R102. -/
theorem test_light_sensor_timeout :
    sees (.lightSensorTimeout .rear) (lineBusy noon) (fun s => (s.blc.rear.failed, s.blc.rear.sample, notices s))
      = some (true, some 14000, [.ambientFail .rear false]) := by decide +kernel

/-- Section 6.11: 56.0 °C gives 1000 − 400 × 60 / 200; a reading beyond the bound is taken at it. -/
theorem test_temperature :
    sees (.temperatureSample 560) calm (fun s => (s.blc.temperature, s.blc.thermalCap)) = some (some 560, 880)
      ∧ sees (.temperatureSample 2000) calm (fun s => (s.blc.temperature, s.blc.thermalCap)) = some (some 1250, 600) := by
  decide +kernel

/-- R117. -/
theorem test_temperature_silence :
    sees .temperatureSilenceTimeout noon (fun s => (s.blc.tempSilent, s.blc.thermalCap, s.blc.target)) = some (true, 600, 600) := by
  decide +kernel

/-- Section 6.11: 650 climbs by 4, and the last tick is cut to the target. -/
theorem test_ramp :
    sees .rampTick { noon with blc := { noon.blc with output := 650 } } (fun s => s.blc.output) = some 654
      ∧ sees .rampTick { noon with blc := { noon.blc with output := 690 } } (fun s => s.blc.output) = some 691 := by decide +kernel

/-! ### Motion -/

/-- Section 7.13 at sample 40. -/
theorem test_fall_begins :
    sees (.accelSample 40 (-30) 60) (lineBusy (dropping .idle { shmAtReset with qualify := 39 }))
        (fun s => (s.shm.state, s.shm.quiesceLine, s.delivered, notices s))
      = some (.falling, true, [.filterLengthChange .holdStart, .ppcShockHoldStart], [.freefall 40 tailgate]) := by
  decide +kernel

/-- Section 7.13 at sample 392: the event is recorded as class 1 (section 8.10), and both serials are marked. -/
theorem test_window_end :
    sees (.accelSample 0 0 512)
        { dropping .impact { event with outcome := some .drop, window := 79, impacts := 14, peakM2 := 538000000 } with
          cc := { ccAtReset with memory := [entry 0x3A17C0DE, entry 0x0B55E0A1] }
          dl := { dlAtReset with nextSequence := 88, clock := 52310, clockValid := true } }
        (fun s => (s.shm.state, s.dl.openReference, s.cc.memory.map PackEntry.shockSequence,
          s.dl.log.map fun r => [r.eventClass, r.severity, r.height, r.peak, r.impacts]))
      = some (.settling, some 88, [some 88, some 88], [[1, 2, 745, 23194, 14]]) := by decide +kernel

/-- R139, R140: the settle timer closes the event as UNSETTLED. -/
theorem test_settle_timeout :
    sees .settleTimeout (lineBusy (dropping .settling { event with outcome := some .drop, settleTimer := some 800000 }))
        (fun s => (s.shm.state, s.shm.quiesceLine, s.delivered, notices s))
      = some (.idle, false, [.filterLengthChange .holdDrop, .ppcShockHoldEnd], [.shockHoldEnd .unsettled (some .drop) false]) := by
  decide +kernel

/-- R144: a fall is abandoned unrecorded; section 7.13's parted connector records a truncated event of height 745. -/
theorem test_sample_silence :
    sees .sampleSilenceTimeout (dropping .falling { event with silence := some 10000 }) (fun s => (s.shm.state, s.dl.log.length))
      = some (.unavailable, 0)
      ∧ sees .sampleSilenceTimeout
          { dropping .impact { event with outcome := some .drop, window := 18, impacts := 3, peakM2 := 16890000 } with
            dl := { dlAtReset with nextSequence := 88 } }
        (fun s => (s.shm.state, s.dl.log.map fun r => (r.sequence, r.height, r.truncated, r.isOpen)))
        = some (.unavailable, [(88, 745, true, false)]) := by decide +kernel

/-- R164: from 4,294,967,295 to 0. -/
theorem test_clock_wraps :
    sees .clockAdvance { calm with dl := { dlAtReset with clock := 4294967295, clockValid := true, clockPhase := some 200000 } }
        (fun s => (s.dl.clock, s.dl.clockValid, s.dl.clockPhase)) = some (0, true, some 0) := by decide +kernel

/-! ### Deliveries and the link -/

/-- R30, R174: a bridge limit now at or below the elapsed time expires at once. -/
theorem test_table0_delivery :
    sees (.table0SwapDelivery .ppc [13])
        (withParam 13 100 { calm with ppc := { ppcAtReset with railOn := true, offReason := .none, bridgeTimer := some 20000 } })
        (fun s => (s.ppc.railOn, s.ppc.offReason)) = some (false, .bridgeExpired) := by decide +kernel

/-- R78, R87: a changed profile ends its session with PROFILE_CHANGE; section 4.7 then starts bay B again. -/
theorem test_table3_delivery :
    sees (.table3SwapDelivery .cc)
        (lineBusy { charging with ts := { charging.ts with t3 := { charging.ts.t3 with
          active := charging.ts.t3.active.set 0 { defaultProfile with chargeCurrent := 2500 } } } })
        (fun s => (s.cc.session, notices s))
      = some (.starting .B 0 { usual with chargeCurrent := 2500 }, [.chargeHeld .B .profileChange]) := by decide +kernel

/-- Section 10.8 at 450: response 1 has ended, response 2 begins. -/
theorem test_line_free :
    sees .upstreamLineFree
        { lineBusy calm with lu := { (lineBusy calm).lu with responses := [⟨2, 0x60, .notFound, false, [0]⟩, ⟨3, 0x60, .notFound, false, [0]⟩] } }
        (fun s => (replies s, s.lu.line)) = some ([(.notFound, [0])], some ⟨0x81, [2, 0x60, 13, 0, 0], 10, false⟩) := by
  decide +kernel

/-- R115, R189: silence empties the traffic and the override stack. -/
theorem test_link_silence :
    sees .linkSilenceTimeout { noon with
        blc := { noon.blc with stack := [200], target := 200, output := 200 }
        lu := { luAtReset with silenceTimer := some 800000, traffic := [⟨0, .motion 0 0 0 .idle⟩] } }
        (fun s => (s.lu.silence, s.lu.traffic, s.blc.stack, s.blc.target)) = some (true, [], [], 691) := by decide +kernel

/-- R182: the frame of IDENTIFY with tag 9 is found inside a discarded candidate and answered (R185). -/
theorem test_frame_discarded :
    sees (.frameDiscarded ([0x01, 0x30, 0x00] ++ frameBytes 0x01 [9, 0x01])) (lineBusy calm) (fun s => (s.lu.receiver, replies s))
      = some (.hunting, [(.ok, [0x51, 0, 0x38, 1, 1])]) := by decide +kernel

/-! ### Requests -/

/-- Section 10.8: tag 10 finds 8 responses waiting. -/
theorem test_overrun :
    sees (.packMemoryRead 10 [0])
        { lineBusy calm with lu := { (lineBusy calm).lu with responses := List.replicate 8 ⟨2, 0x60, .notFound, false, [0]⟩ } }
        (fun s => (s.lu.responses.length, s.lu.overrun)) = some (8, true) := by decide +kernel

theorem test_unknown_request :
    sees (.unknownRequest 9 0x15 []) (lineBusy calm) replies = some [(.unknownRequest, [])] := by decide +kernel

theorem test_short_payload :
    sees (.shortPayloadRequest [9]) (lineBusy { calm with lu := { luAtReset with silence := true } })
        (fun s => (s.lu.silence, s.lu.silenceTimer, s.lu.responses)) = some (false, some 0, []) := by decide +kernel

/-- R185: vendor 0051h, part 0138h, revision 1. -/
theorem test_identify : sees (.identify 9 []) (lineBusy calm) replies = some [(.ok, [0x51, 0, 0x38, 1, 1])] := by decide +kernel

/-- R167, R190: part 7 of an empty log; part 8 does not exist. -/
theorem test_state_read :
    sees (.stateRead 9 [7]) (lineBusy calm) replies
      = some [(.ok, [0, 0, 1, 0, 0, 0, 0, 0, 0, 0, 0, 0, 0, 0, 0, 0, 0])]
      ∧ sees (.stateRead 9 [8]) (lineBusy calm) replies = some [(.badValue, [])] := by decide +kernel

/-- R185: the reset is taken once its response has left. -/
theorem test_companion_reset :
    sees (.companionReset 9 []) (lineBusy calm) (fun s => (s.lu.resetPending, s.delivered, replies s)) = some (true, [], [(.ok, [])])
      ∧ sees .upstreamLineFree
          { calm with lu := { luAtReset with resetPending := true, line := some ⟨0x81, [9, 0x03, 0, 0], 0, true⟩ } }
        (fun s => s.delivered) = some [.managementReset] := by decide +kernel

/-- R127, R168: the override stack is emptied, and the log kept. -/
theorem test_management_reset :
    sees .managementReset { fullLog with blc := { noon.blc with stack := [200, 300] } }
        (fun s => (s.blc.stack, s.blc.offset, s.dl.log.length)) = some ([], 0, 32) := by
  simp only [sees, exec, execManagementReset, managementReset]
  rcases resetCaps_either _ with h | h <;> rw [h] <;> decide +kernel

/-- Section 9.8: level 1100 is refused; R105, R171: P23 above 16 is stored as 16. -/
theorem test_table_write :
    sees (.tableWrite 9 ([1, 5] ++ [0x80, 0x38, 0x01, 0x00, 0x4C, 0x04])) (lineBusy calm) replies = some [(.badValue, [])]
      ∧ sees (.tableWrite 9 [0, 23, 40, 0, 0, 0]) (lineBusy calm) (fun s => (replies s, s.ts.t0.staging[23]?))
        = some ([(.ok, [16, 0, 0, 0])], some 16) := by decide +kernel

/-- Section 9.8: the staging curve whose point 3 repeats point 2's lux is BAD_TABLE at index 3; a good one waits. -/
theorem test_table_apply :
    let staged := fun (x : Nat) (s : State) => ({ s with ts := { s.ts with t1 := { s.ts.t1 with
      staging := ⟨[(0, 80), (50, 150), (500, 300), (x, 600), (30000, 900), (80000, 1000)] ++ List.replicate 10 (0, 0), 6⟩ } } } : State)
    sees (.tableApply 9 [1]) (staged 500 (lineBusy calm)) (fun s => (replies s, s.ts.t1.pending)) = some ([(.badTable, [3])], false)
      ∧ sees (.tableApply 9 [1]) (staged 5000 (lineBusy calm)) (fun s => (replies s, s.ts.t1.pending)) = some ([(.ok, [])], true) := by
  decide +kernel

/-- R177: staging takes the active content, unless an apply is pending. -/
theorem test_table_discard :
    let staged := { lineBusy calm with ts := { calm.ts with t4 := { calm.ts.t4 with staging := calm.ts.t4.active.set 0 7 } } }
    sees (.tableDiscard 9 [4]) staged (fun s => (replies s, s.ts.t4.staging[0]?)) = some ([(.ok, [])], some 2)
      ∧ sees (.tableDiscard 9 [1]) { lineBusy calm with ts := { calm.ts with t1 := { calm.ts.t1 with pending := true } } } replies
        = some [(.busy, [])] := by decide +kernel

/-- R178: P23 of the active copy is 12; index 48 is outside. -/
theorem test_table_read :
    sees (.tableRead 9 [0, 23, 0]) (lineBusy calm) replies = some [(.ok, [12, 0, 0, 0, 0])]
      ∧ sees (.tableRead 9 [0, 48, 0]) (lineBusy calm) replies = some [(.badIndex, [])] := by decide +kernel

/-- Section 3.11 at 4.0 and at 5.0. -/
theorem test_pack_read :
    let s := withBays (packed .supplying 7 50 15000) bayAtReset (lineBusy calm)
    sees (.packRead 9 [1, 0x12, 16]) { s with bbc := { bbcAtReset with deferred := some ⟨.B, 0x12, 16, .done .removed [] 1⟩ } }
        (fun s => (replies s, s.bbc.deferred)) = some ([(.ok, [4])], none)
      ∧ sees (.packRead 9 [1, 0x12, 16]) s replies = some [(.noPack, [])] := by decide +kernel

/-- Section 3.11 at 0, and a write to segment C. -/
theorem test_pack_write :
    let s := withBays (packed .supplying 7 50 15000) (packed .standby 8 50 15000) (lineBusy calm)
    sees (.packWrite 9 [1, 0x50, 1, 0]) s (fun s => (replies s, s.bbc.posted, s.bbc.inFlight.map Transaction.op))
        = some ([(.posted, [])], [⟨.B, 0x50, 1⟩], some (.write 0x50 1))
      ∧ sees (.packWrite 9 [2, 0x50, 1, 0]) s replies = some [(.owned, [])] := by decide +kernel

/-- R35, R36: section 2.8 by the host, and an EMPTY bay. -/
theorem test_bay_release :
    sees (.bayRelease 9 [0]) (lineBusy onBatteries) (fun s => (replies s, (bayOf s .A).state)) = some ([(.ok, [])], .releasing)
      ∧ sees (.bayRelease 9 [1]) (lineBusy alone) replies = some [(.noPack, [])] := by decide +kernel

/-- R43: the lower of two eligible bays takes the load; R44: section 2.9's RAIL off at 12,000. -/
theorem test_rail :
    sees (.rail 9 [1]) (lineBusy (withBays (packed .standby 7 62 14800) (packed .standby 8 38 14300) calm))
        (fun s => (replies s, s.ppc.railOn, (bayOf s .B).state, (bayOf s .A).state)) = some ([(.ok, [])], true, .supplying, .standby)
      ∧ sees (.rail 9 [0]) (lineBusy (inGrace 1400000)) (fun s => (s.ppc.offReason, (bayOf s .A).state, s.ppc.forced))
        = some (.host, .released, none) := by decide +kernel

/-- R113: a level above 1000 is pushed as 1000; a fifth level finds the stack FULL. -/
theorem test_override_push :
    sees (.overridePush 9 [0x4C, 0x04]) (lineBusy noon) (fun s => (replies s, s.blc.stack)) = some ([(.ok, [1, 0xE8, 0x03])], [1000])
      ∧ sees (.overridePush 9 [0, 0]) (lineBusy { noon with blc := { noon.blc with stack := [1, 2, 3, 4] } }) replies
        = some [(.full, [])] := by decide +kernel

/-- R114. -/
theorem test_override_pop :
    sees (.overridePop 9 []) (lineBusy { noon with blc := { noon.blc with stack := [200, 300] } })
        (fun s => (replies s, s.blc.stack, s.blc.target)) = some ([(.ok, [200, 0, 1])], [300], 300)
      ∧ sees (.overridePop 9 []) (lineBusy noon) replies = some [(.empty, [])] := by decide +kernel

/-- R112: a host that asks for 700 is told 500. -/
theorem test_offset_set :
    sees (.offsetSet 9 [0xBC, 0x02]) (lineBusy noon) (fun s => (replies s, s.blc.offset, s.blc.target))
      = some ([(.ok, [0xF4, 0x01])], 500, 880) := by decide +kernel

/-- R146. -/
theorem test_arm_and_disarm :
    sees (.shockDisarm 9 []) (lineBusy (dropping .falling event)) (fun s => (replies s, s.shm.state)) = some ([(.busy, [])], .falling)
      ∧ sees (.shockArm 9 []) (lineBusy (dropping .disarmed shmAtReset)) (fun s => (replies s, s.shm.state))
        = some ([(.ok, [])], .idle) := by decide +kernel

/-- R143: the kept line is released outside an event. -/
theorem test_quiesce_release :
    sees (.quiesceRelease 9 []) (lineBusy (dropping .idle { shmAtReset with quiesceLine := true, quiesceKept := true }))
        (fun s => (replies s, s.shm.quiesceLine, s.shm.quiesceKept)) = some ([(.ok, [])], false, false) := by decide +kernel

/-- Section 8.11: position 16 of a log of sixteen. -/
theorem test_log_read :
    sees (.logRead 9 [31]) (lineBusy fullLog) (fun s => (replies s).map fun r => (r.1, r.2.take 4)) = some [(.ok, [101, 0, 0, 0])]
      ∧ sees (.logRead 9 [16]) (lineBusy { fullLog with dl := { fullLog.dl with log := fullLog.dl.log.take 16, nextSequence := 135 } })
        replies = some [(.notFound, [16, 16, 135, 0, 0, 0])] := by decide +kernel

/-- Section 8.11: what is not preserved is removed. -/
theorem test_log_clear :
    sees (.logClear 9 []) (lineBusy fullLog) (fun s => (replies s, s.dl.log.map DropRecord.sequence))
      = some ([(.ok, [16, 16])], (List.range 16).map (· + 101)) := by decide +kernel

/-- Section 8.11: the lock refuses LOG_CLEAR_ALL, and is ALREADY set. -/
theorem test_log_lock :
    sees (.logLock 9 []) (lineBusy fullLog) (fun s => (replies s, s.dl.clearLock)) = some ([(.ok, [])], true)
      ∧ sees (.logClearAll 9 []) (lineBusy { fullLog with dl := { fullLog.dl with clearLock := true } }) replies
        = some [(.locked, [])] := by decide +kernel

/-- R165. -/
theorem test_time_set :
    sees (.timeSet 9 [0x56, 0xCC, 0, 0]) (lineBusy calm) (fun s => (s.dl.clock, s.dl.clockValid, s.dl.clockPhase))
      = some (52310, true, some 0) := by decide +kernel

/-- Section 4.1.1: position 7 of seven entries. -/
theorem test_pack_memory_read :
    sees (.packMemoryRead 9 [7]) (lineBusy { calm with cc := { ccAtReset with memory := (List.range 7).map entry } }) replies
      = some [(.notFound, [7])] := by decide +kernel

/-- Section 4.1.1: a pinned pack is not forgotten, another is. -/
theorem test_pack_forget :
    let s := withBays bayAtReset (packed .standby 8 50 15000) (lineBusy { calm with cc := { ccAtReset with memory := [entry 8, entry 3] } })
    sees (.packForget 9 [8, 0, 0, 0]) s (fun s => (replies s, s.cc.memory.length)) = some ([(.pinned, [])], 2)
      ∧ sees (.packForget 9 [3, 0, 0, 0]) s (fun s => (replies s, s.cc.memory)) = some ([(.ok, [])], [entry 8]) := by decide +kernel

/-- Section 4.7 at 300: the mark clears, and bay A is chosen. -/
theorem test_pack_clear_shock :
    sees (.packClearShock 9 [7, 0, 0, 0])
        (lineBusy { onDc with cc := { onDc.cc with
          memory := [entry 7, entry 8].map fun e => { e with shocked := true, shockSequence := some 57 } } })
        (fun s => (replies s, s.cc.memory.map PackEntry.shockSequence, s.cc.session))
      = some ([(.ok, [])], [none, some 57], .starting .A 0 usual) := by decide +kernel

/-! ### Rules that join two blocks -/

/-- R8, R119: a target is blanked by the filtered LID as it stands, before the edge is taken. -/
theorem test_lid_read_by_recomputation :
    sees (.blcPublication 1000 false) (withInput .lid true true none noon) (fun s => (s.blc.target, s.blc.output)) = some (0, 0) := by
  decide +kernel

/-- R32: a FAULTED target whose PRES falls in the bridge is lost, so the load goes to DC and no switch of the EMPTY bay will close. -/
theorem test_faulted_target_removed :
    sees (.ppcPresFalling .B)
        (withBays bayAtReset (packed (.faulted .alarm) 8 38 14300) { onDc with ppc := { onDc.ppc with
          dcSwitch := false, bridgeTimer := some 1, transfer := some ⟨some .dc, .bay .B, .bridge, .bridge, false, .dcLoss, 1⟩ } })
        (fun s => (s.ppc.transfer.map Transfer.target, (bayOf s .B).state)) = some (some .dc, .empty) := by decide +kernel

/-- R36, R40: DC found as an alternative while bay A's attachment overlaps makes that transfer the release, and ends the grace. -/
theorem test_grace_ended_in_overlap :
    sees (.ppcTelemetry .B (cell 9 14300))
        { onDc with ppc := { (inGrace 5).ppc with
            dc := .present 0, dcSwitch := true, transfer := some ⟨some (.bay .A), .dc, .overlap, .overlap, true, .dcAttach, 1⟩
            bays := ⟨{ packed .supplying 7 31 15400 with discharge := true }, packed .standby 8 9 14300⟩ } }
        (fun s => (s.ppc.forced, s.ppc.transfer.map Transfer.cause, (bayOf s .A).state)) = some (none, some .release, .releasing) := by
  decide +kernel

/-- R67: a withdrawn list keeps the write in flight at its head, to be performed again. -/
theorem test_reset_keeps_charger_write :
    let l : ChargerList := ⟨.start, [(0x31, 16800)], true⟩
    sees .managementReset
        { inFlight .charger .C (.write 0x31 16800) calm with
          bbc := { bbcAtReset with lists := [l], inFlight := some ⟨.charger, .C, .write 0x31 16800, 0, 7000⟩ } }
        (fun s => s.bbc.lists) = some [l] := by
  simp only [sees, exec, execManagementReset, managementReset]
  rcases resetCaps_either _ with h | h <;> rw [h] <;> decide +kernel

/-- R25, R46, R183: a planned transfer of kind 0 from bay A, 1, and an unplanned one, 1, from none. -/
theorem test_transfer_part :
    transferBytes ⟨some (.bay .A), .dc, .overlap, .overlap, true, .dcAttach, 1⟩ = [1, 1, 0, 0, 0, 0, 2]
      ∧ transferBytes ⟨none, .bay .B, .bridge, .bridge, false, .dcLoss, 1⟩ = [0, 0, 2, 1, 1, 1, 4] := by decide +kernel

/-! ### Witnesses: for each obligation with hypotheses, states and operands that meet them, clause by clause -/

/-- With the BBC replaced. -/
def withBus (c : Bbc) (s : State) : State := { s with bbc := c }

/-- A bay's bus record with a sequence, and with a due poll. -/
def seeking : BayBus := { bayBusAtReset with sequence := some ⟨1, none⟩ }
def polling : BayBus := { bayBusAtReset with pollDue := true }

/-- An event, an expiry and neither; a limit at its boundary and 1 tick before it. -/
theorem witness_IdleStepTakesEventsThenExpiries :
    (State.reset.pending = [] ∧ State.reset.delivered = [.blcPublication 0 false])
      ∧ (let s : State := { noon with blc := { noon.blc with rampPhase := some 2000 } }
         s.pending = [] ∧ s.delivered = [] ∧ due s = some .rampTick ∧ s.blc.rampPhase = some 2000 ∧ ms 10 ≤ 2000)
      ∧ due { noon with blc := { noon.blc with rampPhase := some 1999 } } = none
      ∧ (calm.pending = [] ∧ calm.delivered = [] ∧ due calm = none) := by decide +kernel

theorem witness_GrantByRank :
    (inFlight .posted .B (.write 0x50 1) calm).bbc.inFlight.isSome = true
      ∧ (let s := withBus { bbcAtReset with bays := ⟨seeking, seeking⟩ } calm
         s.bbc.inFlight = none ∧ (busOf s .A).sequence = some ⟨1, none⟩)
      ∧ (let s := withBus { bbcAtReset with bays := ⟨polling, seeking⟩ } calm
         s.bbc.inFlight = none ∧ (busOf s .B).sequence = some ⟨1, none⟩ ∧ (busOf s .A).sequence = none)
      ∧ (let s := withBus { bbcAtReset with lists := [⟨.stop, [(0x33, 0)], false⟩], posted := [⟨.B, 0x50, 1⟩] } calm
         s.bbc.inFlight = none ∧ (busOf s .A).sequence = none ∧ (busOf s .B).sequence = none
           ∧ s.bbc.lists = [⟨.stop, [(0x33, 0)], false⟩] ∧ [(0x33, 0)].head? = some (0x33, 0))
      ∧ (let s := withBus { bbcAtReset with posted := [⟨.B, 0x50, 1⟩], bays := ⟨polling, bayBusAtReset⟩ } calm
         s.bbc.inFlight = none ∧ (busOf s .A).sequence = none ∧ (busOf s .B).sequence = none ∧ s.bbc.lists = []
           ∧ s.bbc.deferred = none ∧ s.bbc.posted = [⟨.B, 0x50, 1⟩] ∧ paramN s 37 ≠ 1)
      ∧ (let s := withBus { bbcAtReset with deferred := some ⟨.B, 0x12, 16, .waiting⟩, posted := [⟨.A, 0x51, 0⟩] } (withParam 37 1 calm)
         s.bbc.inFlight = none ∧ (busOf s .A).sequence = none ∧ (busOf s .B).sequence = none ∧ s.bbc.lists = []
           ∧ s.bbc.deferred = some ⟨.B, 0x12, 16, .waiting⟩ ∧ (∀ w ∈ s.bbc.posted, w.segment ≠ .B)
           ∧ paramN s 37 = 1 ∧ (busOf s .A).pollDue = false ∧ (busOf s .B).pollDue = false)
      ∧ (let s := withBus { bbcAtReset with posted := [⟨.B, 0x50, 1⟩], bays := ⟨bayBusAtReset, polling⟩ } (withParam 37 1 calm)
         s.bbc.inFlight = none ∧ (busOf s .A).sequence = none ∧ (busOf s .B).sequence = none ∧ s.bbc.lists = []
           ∧ paramN s 37 = 1 ∧ (busOf s .B).pollDue = true ∧ (busOf s .A).pollDue = false)
      ∧ (let s := withBus { bbcAtReset with bays := ⟨polling, polling⟩ } calm
         s.bbc.inFlight = none ∧ (busOf s .A).sequence = none ∧ (busOf s .B).sequence = none ∧ s.bbc.lists = []
           ∧ s.bbc.deferred = none ∧ s.bbc.posted = [] ∧ (busOf s .A).pollDue = true) := by decide +kernel

/-- With the Link Unit replaced. -/
def withLink (l : Lu) (s : State) : State := { s with lu := l }

theorem witness_LineTakesNextFrame :
    (lineBusy calm).lu.line.isSome = true
      ∧ (let s := withLink { luAtReset with responses := [⟨2, 0x60, .notFound, false, [0]⟩] } calm
         s.lu.line = none ∧ s.lu.responses = [⟨2, 0x60, .notFound, false, [0]⟩])
      ∧ (let n : PendingNotice := ⟨.telemetryLost .B, 4, 1⟩
         let s := withLink { luAtReset with notices := [⟨.backlightCapped true 691 0 false, 1, 3⟩, n, ⟨.dropRecorded (logged 1 false), 4, 1⟩] } calm
         s.lu.line = none ∧ s.lu.responses = [] ∧ s.lu.silence = false ∧ n ∈ s.lu.notices
           ∧ ∀ e ∈ s.lu.notices, e = n ∨ e.level < n.level ∨ (e.level = n.level ∧ n.notice.kind < e.notice.kind))
      ∧ (let s := withLink { luAtReset with silence := true, notices := [⟨.telemetryLost .B, 4, 1⟩], traffic := [⟨0, .motion 0 0 0 .idle⟩] } calm
         s.lu.line = none ∧ s.lu.responses = [] ∧ s.lu.silence = true ∧ s.lu.traffic = [⟨0, .motion 0 0 0 .idle⟩])
      ∧ (calm.lu.line = none ∧ calm.lu.responses = [] ∧ calm.lu.notices = [] ∧ calm.lu.traffic = []) := by decide +kernel

/-- Counts of 0, 254 and 255 folded; fifteen and sixteen traffic frames held; the third of three samples. -/
theorem witness_NoticesAndTrafficJoinTheirQueues :
    (let n : Notice := .telemetryLost .B
     let s := withLink { luAtReset with notices := [⟨.bayRemoved .A, 2, 1⟩, ⟨.telemetryLost .A, 4, 255⟩, ⟨.chargeStarted .A 0, 1, 1⟩] } calm
     s.ts.t4.active.getD (n.kind - 1) 0 ≠ 0 ∧ s.lu.notices = [⟨.bayRemoved .A, 2, 1⟩] ++ ⟨.telemetryLost .A, 4, 255⟩ :: [⟨.chargeStarted .A 0, 1, 1⟩]
       ∧ (Notice.telemetryLost .A).kind = n.kind ∧ (∀ x ∈ [(⟨.bayRemoved .A, 2, 1⟩ : PendingNotice)], x.notice.kind ≠ n.kind)
       ∧ (∀ e ∈ calm.lu.notices, e.notice.kind ≠ n.kind)
       ∧ (calm.ts.t4.active.set (n.kind - 1) 0).getD (n.kind - 1) 0 = 0)
      ∧ (∀ n ∈ [15, 16], let s := withLink { luAtReset with traffic := List.replicate n ⟨255, .motion 0 0 0 .idle⟩ } calm
         s.lu.silence = false ∧ s.lu.traffic.length = n ∧ (s.lu.traffic.length < 16 ↔ n = 15))
      ∧ { luAtReset with silence := true }.silence = true
      ∧ (paramN (withParam 43 0 calm) 43 = 0 ∧ paramN (withParam 43 1 calm) 43 ≠ 0)
      ∧ (paramN (withParam 44 0 calm) 44 = 0 ∧ paramN (withParam 44 1 calm) 44 ≠ 0)
      ∧ paramN (withParam 36 0 calm) 36 = 0
      ∧ (∀ d ∈ [1, 2], let s := withParam 36 3 { calm with shm := { shmAtReset with decimation := d } }
         (s.shm.decimation + 1 < paramN s 36 ↔ d = 1) ∧ paramN s 36 ≠ 0) := by decide +kernel

theorem witness_InputFilterFollowsItsTimer :
    calm.settling = none ∧ State.reset.settling.isSome = true ∧ (inputOf calm.icu .lid).timer = none
      ∧ (inputOf (withInput .lid true false (some 10000) calm).icu .lid).timer = some 10000 := by decide +kernel

theorem witness_FilterLengthChangeJudgesRunningTimers :
    (inputOf (withInput .relA true false (some 4000) calm).icu .relA).timer = some 4000
      ∧ (inputOf calm.icu .relA).timer = none := by decide +kernel

theorem witness_InsertionFollowsPresAndLatch :
    (bayOf calm .A).state = .empty ∧ filtered (withInput .latchA true true none calm) .latchA = true
      ∧ (bayOf (withBays bayAtReset (bare .seating) calm) .B).state = .seating
      ∧ (bayOf (withBays bayAtReset (bare .identifying) calm) .B).state = .identifying := by decide +kernel

/-- Each state that a removal leaves; a forced removal of the feeding bay towards DC, towards bay B and towards nothing; one of the
bay that charges. -/
theorem witness_PresenceLostEmptiesBay :
    (∀ st ∈ [BayState.seating, .identifying, .released, .faulted .idFail],
        let s := withBays (bare st) bayAtReset calm
        (bayOf s .A).discharge = false ∧ (bayOf s .A).charge = false ∧ (bayOf s .A).telemetryLost = false ∧ (bayOf s .A).state = st
          ∧ isTransferTarget s .A = false)
      ∧ ((bayOf onDc .B).discharge = false ∧ (bayOf onDc .B).charge = false ∧ (bayOf onDc .B).telemetryLost = false
        ∧ (bayOf onDc .B).state = .standby ∧ onDc.ppc.transfer = none ∧ onDc.ppc.forced = none ∧ onDc.ppc.bridgeTimer = none
        ∧ bridging onDc = false ∧ sessionActive onDc .B = false)
      ∧ (∀ s ∈ [onBatteries, alone, { alone with ppc := { alone.ppc with dc := .present 0 } }, inGrace 0],
        (bayOf s .A).telemetryLost = false ∧ (bayOf s .A).state = .supplying ∧ (bayOf s .A).discharge = true
          ∧ (bayOf s .A).charge = false ∧ s.ppc.railOn = true ∧ s.ppc.dcSwitch = false ∧ (bayOf s .B).discharge = false
          ∧ (bayOf s .B).state ≠ .charging ∧ s.ppc.transfer = none ∧ sessionActive s .A = false)
      ∧ (dcPresent onBatteries = false ∧ eligible onBatteries .B = true)
      ∧ (dcPresent alone = false ∧ eligible alone .B = false)
      ∧ dcPresent { alone with ppc := { alone.ppc with dc := .present 0 } } = true
      ∧ ((bayOf charging .B).telemetryLost = false ∧ (bayOf charging .B).state = .charging ∧ (bayOf charging .B).discharge = false
        ∧ charging.ppc.railOn = true ∧ charging.ppc.dcSwitch = true ∧ dcPresent charging = true ∧ charging.ppc.transfer = none
        ∧ charging.ppc.forced = none ∧ charging.ppc.bridgeTimer = none ∧ charging.cc.session = .active .B 0 usual) := by decide +kernel

/-- A state in which the Link Unit hands requests on. -/
theorem link_open {s : State} (h : s.settling = none) (k : s.lu.resetPending = false) (l : s.lu.responses.length < 8) : LinkOpen s :=
  ⟨h, k, l⟩

/-- The boundary: seven responses wait. -/
theorem witness_link_open :
    LinkOpen { calm with lu := { luAtReset with responses := List.replicate 7 ⟨2, 0x60, .notFound, false, [0]⟩ } } :=
  link_open (by decide +kernel) (by decide +kernel) (by decide +kernel)

theorem witness_ReleaseGrantedOrDeferred :
    (∀ st ∈ [BayState.identifying, .standby, .faulted .alarm],
        let s := withBays (bare st) bayAtReset calm
        s.ppc.hold = false ∧ s.ppc.transfer = none ∧ (bayOf s .A).state = st
          ∧ s.settling = none ∧ s.lu.resetPending = false ∧ s.lu.responses.length < 8)
      ∧ (let s : State := { onBatteries with ppc := { onBatteries.ppc with hold := true } }
         s.ppc.hold = true ∧ (bayOf s .B).refusal = false ∧ (bayOf s .B).state.locked = true
           ∧ s.settling = none ∧ s.lu.resetPending = false ∧ s.lu.responses.length < 8) := by decide +kernel

/-- Section 2.8 with the voltages a number of mV apart. -/
def apart (d : Nat) (s : State) : State := { s with ppc := { s.ppc with va := 14000, vb := 14000 + d, vdc := 14000 + d } }

/-- Section 2.8 with bay A in its grace, bay B at 9 %, and the two 200 mV apart. -/
def graceOnBatteries : State :=
  apart 200 { withBays { packed .supplying 7 22 14100 with discharge := true } (packed .standby 8 9 14300) onBatteries with
    ppc := { onBatteries.ppc with
      forced := some ⟨.A, 5⟩, bays := ⟨{ packed .supplying 7 22 14100 with discharge := true }, packed .standby 8 9 14300⟩ } }

/-- A release at exactly P11, and 1 mV beyond it, towards the other bay (at exactly P14) and towards DC; a refusal for an EMPTY bay and
for one 1 % below P14; the hold timer with the record empty and filled; and an alternative in the grace: at exactly P14, under the hold,
and in an OVERLAP from the bay. -/
theorem witness_FeedingReleaseTransfersOrIsForced :
    (∀ d ∈ [200, 201],
        let s := apart d (withBays { packed .supplying 7 22 14100 with discharge := true } (packed .standby 8 10 16050) onBatteries)
        s.ppc.hold = false ∧ s.ppc.transfer = none ∧ (bayOf s .A).state = .supplying ∧ (bayOf s .A).discharge = true
          ∧ s.ppc.railOn = true ∧ dcPresent s = false ∧ (bayOf s .B).state = .standby ∧ alarmMark s .B = false
          ∧ (bayOf s .B).telemetryLost = false ∧ (bayOf s .B).telemetry.isSome = true ∧ paramN s 14 ≤ chargeOf s .B
          ∧ s.ppc.reserveReady = true ∧ s.ppc.dcSwitch = false ∧ (bayOf s .B).discharge = false
          ∧ (((voltageOf s (.bay .A) : Int) - voltageOf s (.bay .B)).natAbs ≤ paramN s 11 ↔ d = 200))
      ∧ (∀ d ∈ [200, 201],
        let s := apart d { alone with ppc := { alone.ppc with dc := .present 0 } }
        s.ppc.hold = false ∧ s.ppc.transfer = none ∧ (bayOf s .A).state = .supplying ∧ (bayOf s .A).discharge = true
          ∧ s.ppc.railOn = true ∧ dcPresent s = true ∧ attachPending s = false ∧ s.ppc.reserveReady = true
          ∧ s.ppc.dcSwitch = false ∧ (bayOf s .B).discharge = false
          ∧ (((voltageOf s (.bay .A) : Int) - voltageOf s .dc).natAbs ≤ paramN s 11 ↔ d = 200))
      ∧ (alone.ppc.hold = false ∧ alone.ppc.transfer = none ∧ (bayOf alone .A).state = .supplying ∧ dcPresent alone = false
        ∧ (bayOf alone .B).state ≠ .standby ∧ (bayOf alone .B).state ≠ .charging)
      ∧ (let s := withBays (packed .supplying 7 22 14100) (packed .standby 8 9 16050) onBatteries
         s.ppc.hold = false ∧ s.ppc.transfer = none ∧ (bayOf s .A).state = .supplying ∧ dcPresent s = false
           ∧ chargeOf s .B < paramN s 14 ∧ s.settling = none ∧ s.lu.resetPending = false ∧ s.lu.responses.length < 8)
      ∧ ((bayOf refused .A).holdTimer = some 1000000 ∧ refused.ppc.forced = none)
      ∧ ((bayOf (inGrace 0) .A).holdTimer = some 1000000 ∧ (inGrace 0).ppc.forced.isSome = true)
      ∧ (∀ s ∈ [graceOnBatteries, { graceOnBatteries with ppc := { graceOnBatteries.ppc with hold := true } },
            { graceOnBatteries with ppc := { graceOnBatteries.ppc with
                dc := .present 0, dcSwitch := true, transfer := some ⟨some (.bay .A), .dc, .overlap, .overlap, true, .dcAttach, 1⟩ } }],
        s.ppc.forced = some ⟨.A, 5⟩ ∧ (bayOf s .A).state = .supplying ∧ (bayOf s .A).discharge = true ∧ s.ppc.railOn = true
          ∧ (bayOf s .B).state = .standby ∧ alarmMark s .B = false ∧ (bayOf s .B).telemetryLost = false ∧ attachPending s = false
          ∧ paramN s 14 ≤ (cell 10 14300).charge ∧ anyAlarm (cell 10 14300).alarms = false)
      ∧ (graceOnBatteries.ppc.hold = false ∧ graceOnBatteries.ppc.transfer = none ∧ dcPresent graceOnBatteries = false
        ∧ ((voltageOf graceOnBatteries (.bay .A) : Int) - voltageOf graceOnBatteries (.bay .B)).natAbs ≤ paramN graceOnBatteries 11) := by
  and_intros <;> decide +kernel

/-- DC PRESENT with one reading below P39 behind it. -/
def lowDc (rail : Bool) (a b : BayRecord) : State :=
  withBays a b { onDc with ppc := { onDc.ppc with dc := .present 1, railOn := rail } }

/-- Each row of R14's table with V_dc at P39 or 1 mV below it, and V_res 1 mV below P12. -/
theorem witness_ReadingsQualifyDcAndAttach :
    State.reset.settling.isSome = true
      ∧ (∀ x ∈ [(DcPresence.absent, 14999, DcPresence.absent), (.absent, 15000, .qualifying 0), (.qualifying 39999, 15000, .qualifying 39999),
            (.qualifying 39999, 14999, .absent), (.present 0, 14999, .present 1), (.present 1, 15000, .present 0)],
          let s : State := { calm with ppc := { ppcAtReset with dc := x.1 } }
          s.settling = none ∧ paramN s 39 = 15000 ∧ 10999 < paramN s 12
            ∧ x.2.2 = (match s.ppc.dc with
              | .absent => if paramN s 39 ≤ x.2.1 then .qualifying 0 else .absent
              | .qualifying e =>
                if paramN s 39 ≤ x.2.1 then (if ms 200 ≤ e then .present 0 else .qualifying e) else .absent
              | .present n => if paramN s 39 ≤ x.2.1 then .present 0 else if n = 0 then .present 1 else .absent)
            ∧ (dcPresent s = true ↔ x.2.2 = .present 0 ∨ x.2.2 = .present 1))
      ∧ (let s : State := { alone with ppc := { alone.ppc with dc := .qualifying 40000 } }
         s.settling = none ∧ s.ppc.dc = .qualifying 40000 ∧ ms 200 ≤ 40000 ∧ paramN s 39 ≤ 15601 ∧ paramN s 12 ≤ 11000
           ∧ s.ppc.reserveReady = true ∧ s.ppc.railOn = true ∧ s.ppc.transfer = none ∧ s.ppc.waiting = none ∧ s.ppc.forced = none
           ∧ s.ppc.dcSwitch = false ∧ (bayOf s .A).state = .supplying ∧ (bayOf s .A).discharge = true
           ∧ (bayOf s .B).discharge = false ∧ alarmMark s .A = false
           ∧ paramN s 11 < ((15400 : Int) - 15601).natAbs)
      -- DC lost: bay A on a tie of two, no bay above P41, and the rail OFF
      ∧ (∀ x ∈ [(38, true), (2, true), (38, false)],
          let s := lowDc x.2 (packed .standby 7 x.1 14800) (packed .standby 8 x.1 14300)
          s.settling = none ∧ s.ppc.dc = .present 1 ∧ 14999 < paramN s 39 ∧ s.ppc.reserveReady = true ∧ s.ppc.transfer = none
            ∧ s.ppc.waiting = none ∧ s.ppc.forced = none ∧ (bayOf s .A).discharge = false ∧ (bayOf s .A).state ≠ .charging
            ∧ (bayOf s .B).discharge = false ∧ (bayOf s .B).state ≠ .charging ∧ s.ppc.railOn = x.2 ∧ s.ppc.dcSwitch = true
            ∧ eligible s .A = decide (x.1 = 38) ∧ eligible s .B = decide (x.1 = 38) ∧ chargeOf s .A = chargeOf s .B) := by decide +kernel

/-- A transfer of bay A's to DC, DC's switch as its phase has it. -/
def toDc (st : BayState) (phase : Method) (cause : Cause) : State :=
  let t : Transfer := ⟨some (.bay .A), .dc, phase, phase, true, cause, 400⟩
  let fed := phase == .overlap
  { onDc with
    ppc := { onDc.ppc with
      dcSwitch := fed, transfer := some t
      bays := ⟨{ packed st 7 31 15400 with discharge := fed }, packed .standby 8 38 14300⟩ } }

/-- With one reading below P39 behind it, and bay B's record replaced. -/
def failing (b : BayRecord) (s : State) : State :=
  { s with ppc := { s.ppc with dc := .present 1, bays := ⟨s.ppc.bays.a, b⟩ } }

/-- The end of each phase; a DC target lost in an OVERLAP, of an attachment and of a release that bay B at 9 % is no alternative for; a
bay target lost in a BRIDGE, STANDBY and FAULTED; a DC target lost in a BRIDGE with no bay eligible; and a source removed in an OVERLAP. -/
theorem witness_TransfersEndOrLoseAnEnd :
    (let s := toDc .supplying .overlap .dcAttach
     s.ppc.transfer = some ⟨some (.bay .A), .dc, .overlap, .overlap, true, .dcAttach, 400⟩ ∧ s.ppc.railOn = true
       ∧ s.ppc.dcSwitch = true ∧ dcPresent s = true ∧ (bayOf s .A).state = .supplying ∧ (bayOf s .A).discharge = true
       ∧ (bayOf s .A).charge = false ∧ (bayOf s .B).discharge = false ∧ s.ppc.waiting = none ∧ s.ppc.forced = none
       ∧ (bayOf s .A).pendingRelease = false ∧ (bayOf s .B).pendingRelease = false ∧ sessionActive s .A = false)
      ∧ (let s := toDc .releasing .bridge .release
         s.ppc.transfer = some ⟨some (.bay .A), .dc, .bridge, .bridge, true, .release, 400⟩ ∧ s.ppc.railOn = true
           ∧ s.ppc.dcSwitch = false ∧ dcPresent s = true ∧ (bayOf s .A).state = .releasing ∧ (bayOf s .A).discharge = false
           ∧ (bayOf s .B).discharge = false ∧ s.ppc.waiting = none ∧ s.ppc.forced = none ∧ s.ppc.hold = false
           ∧ (bayOf s .A).pendingRelease = false ∧ (bayOf s .B).pendingRelease = false)
      ∧ (∀ x ∈ [(BayState.supplying, Cause.dcAttach), (.releasing, .release)],
         let s := failing (packed .standby 8 9 14300) (toDc x.1 .overlap x.2)
         s.settling = none ∧ s.ppc.dc = .present 1 ∧ 14999 < paramN s 39 ∧ s.ppc.reserveReady = true ∧ s.ppc.railOn = true
           ∧ s.ppc.waiting = none ∧ s.ppc.forced = none ∧ (bayOf s .A).state = x.1 ∧ (bayOf s .A).discharge = true
           ∧ s.ppc.transfer = some ⟨some (.bay .A), .dc, .overlap, .overlap, true, x.2, 400⟩ ∧ s.ppc.hold = false
           ∧ (bayOf s .B).discharge = false ∧ alarmMark s .A = false ∧ paramN s 41 < chargeOf s .A
           ∧ chargeOf s .B < paramN s 14 ∧ (bayOf s .A).pendingRelease = false ∧ (bayOf s .B).pendingRelease = false)
      ∧ (∀ st ∈ [BayState.standby, .faulted .alarm],
         let s := { toDc .standby .bridge .dcLoss with ppc := { (toDc .standby .bridge .dcLoss).ppc with
           transfer := some ⟨some .dc, .bay .B, .bridge, .bridge, false, .dcLoss, 1⟩,
           bays := ⟨packed .standby 7 31 15400, packed st 8 38 14300⟩ } }
         s.ppc.transfer = some ⟨some .dc, .bay .B, .bridge, .bridge, false, .dcLoss, 1⟩ ∧ s.ppc.waiting = none ∧ s.ppc.forced = none
           ∧ (bayOf s .B).state = st ∧ (bayOf s .B).charge = false ∧ (bayOf s .A).state ≠ .charging ∧ s.ppc.railOn = true
           ∧ anyFeeding s = false ∧ dcPresent s = true ∧ sessionActive s .B = false)
      ∧ (let s := failing (packed .standby 8 2 14300) (toDc .releasing .bridge .release)
         s.settling = none ∧ s.ppc.dc = .present 1 ∧ 14999 < paramN s 39 ∧ s.ppc.reserveReady = true ∧ s.ppc.railOn = true
           ∧ s.ppc.waiting = none ∧ s.ppc.forced = none ∧ (bayOf s .A).state = .releasing ∧ (bayOf s .B).state ≠ .charging
           ∧ s.ppc.transfer = some ⟨some (.bay .A), .dc, .bridge, .bridge, true, .release, 400⟩
           ∧ anyFeeding s = false ∧ eligible s .A = false ∧ eligible s .B = false) := by
  and_intros <;> decide +kernel

/-- The bridge timer at P13 with a bay RELEASING; the grace with and without the hold; RAIL off with a bay CHARGING. -/
theorem witness_RailOffOpensEverySwitch :
    (∀ s ∈ [{ (toDc .releasing .bridge .release) with
          ppc := { (toDc .releasing .bridge .release).ppc with bridgeTimer := some 300000 } },
        inGrace 2000000, { inGrace 2000000 with ppc := { (inGrace 2000000).ppc with hold := true } }, charging],
      ∀ r ∈ [bayOf s .A, bayOf s .B], r.charge = true → r.state = .charging)
      ∧ (inGrace 2000000).ppc.forced = some ⟨.A, 2000000⟩ ∧ (inGrace 2000000).ppc.hold = false
      ∧ { (inGrace 2000000).ppc with hold := true }.hold = true
      ∧ { (toDc .releasing .bridge .release).ppc with bridgeTimer := some 300000 }.bridgeTimer.isSome = true
      ∧ charging.settling = none ∧ charging.lu.resetPending = false ∧ charging.lu.responses.length < 8 ∧ charging.ppc.railOn = true := by
  decide +kernel

theorem witness_RailOnNeedsASource :
    (∀ s ∈ [onDc, calm, withBays (packed .standby 7 62 14800) (bare .seating) calm,
        { calm with ppc := { ppcAtReset with dc := .present 1, vdc := 19000 } }],
      s.settling = none ∧ s.lu.resetPending = false ∧ s.lu.responses.length < 8)
      ∧ onDc.ppc.railOn = true
      ∧ (calm.ppc.railOn = false ∧ dcPresent calm = false ∧ (bayOf calm .A).state ≠ .standby ∧ (bayOf calm .B).state ≠ .standby)
      ∧ (let s := withBays (packed .standby 7 62 14800) (bare .seating) calm
         s.ppc.railOn = false ∧ dcPresent s = false ∧ (bayOf s .B).state = .seating)
      ∧ (let s : State := { calm with ppc := { ppcAtReset with dc := .present 1, vdc := 19000 } }
         s.ppc.railOn = false ∧ dcPresent s = true ∧ (bayOf s .A).discharge = false ∧ (bayOf s .B).discharge = false)
      -- two eligible bays, one lower; two at P41, no higher than it
      ∧ (∀ x ∈ [(62, 38), (5, 5)], let s := withBays (packed .standby 7 x.1 14800) (packed .standby 8 x.2 14300) calm
         s.ppc.railOn = false ∧ dcPresent s = false ∧ s.ppc.dcSwitch = false ∧ (bayOf s .A).discharge = false
           ∧ (bayOf s .B).discharge = false ∧ (bayOf s .A).state = .standby ∧ (bayOf s .B).state = .standby ∧ paramN s 41 = 5
           ∧ eligible s .A = decide (x.1 = 62) ∧ eligible s .B = decide (x.1 = 62) ∧ chargeOf s .B ≤ chargeOf s .A) := by
  decide +kernel

theorem witness_ReleaseLapseRelocks :
    (∀ r ∈ [{ bare .released with lapseTimer := some 2000000 },
        { packed .released 7 22 14100 with lapseTimer := some 2000000, alarms := hot }],
      let s := withInput .presA true true none (withBays r bayAtReset calm)
      (bayOf s .A).state = .released ∧ (bayOf s .A).lapseTimer = some 2000000 ∧ filtered s .presA = true ∧ filtered s .latchA = false
        ∧ filtered (withInput .latchA true true none s) .latchA = true)
      ∧ (bare .released).identity = none ∧ (packed .released 7 22 14100).identity.isSome = true ∧ anyAlarm hot = true := by
  decide +kernel

theorem witness_ShockHoldGuardsReleases :
    ((bayOf refused .A).refusal = true ∧ filtered refused .relA = true)
      ∧ ((bayOf calm .A).pendingRelease = false ∧ (bayOf calm .B).pendingRelease = false)
      ∧ (let s := withBays (packed .supplying 7 22 14100) { packed .standby 8 71 16050 with pendingRelease := true } calm
         (bayOf s .B).pendingRelease = true ∧ (bayOf s .A).pendingRelease = false ∧ (bayOf s .B).state = .standby
           ∧ s.ppc.transfer = none) := by decide +kernel

theorem witness_IdentificationOutcomeDecidesBay :
    (bayOf calm .B).state ≠ .identifying
      ∧ (let s := withBays (packed .supplying 7 50 15000) (bare .identifying) onDc
         (bayOf s .B).state = .identifying ∧ (bayOf s .A).state ≠ .empty ∧ (bayOf s .A).identity.map Identity.serial = some 7
           ∧ (bayOf s .A).identity.map Identity.serial ≠ some 8 ∧ s.ppc.forced = none
           ∧ anyAlarm { cell 64 15000 with alarms := hot }.alarms = true)
      ∧ (let s := withBays bayAtReset (bare .identifying) calm
         (bayOf s .B).state = .identifying ∧ (bayOf s .A).state = .empty ∧ s.ppc.forced = none ∧ s.ppc.railOn = false) := by
  decide +kernel

theorem witness_TelemetryUpdatesAlarms :
    (bayOf calm .A).state = .empty
      ∧ ((bayOf onBatteries .B).state = .standby ∧ (bayOf onBatteries .B).alarms = noAlarms ∧ anyAlarm hot = true
        ∧ onBatteries.ppc.forced = none)
      ∧ (let s := withBays bayAtReset { packed .released 8 71 16050 with cleanReads := 2, alarms := hot } calm
         (bayOf s .B).state = .released ∧ s.ppc.forced = none ∧ anyAlarm noAlarms = false)
      -- a block that joins OVER_TEMP to OVER_CURRENT, and a third clean block with LATCH asserted and the rail OFF
      ∧ (let s := withInput .latchB true true none
           (withBays bayAtReset { packed (.faulted .alarm) 8 71 16050 with cleanReads := 2, alarms := ⟨false, true, false, false⟩ } calm)
         (bayOf s .B).state = .faulted .alarm ∧ s.ppc.forced = none ∧ joinAlarms (bayOf s .B).alarms hot ≠ (bayOf s .B).alarms
           ∧ alarmMark s .B = true ∧ filtered s .latchB = true ∧ s.ppc.railOn = false ∧ filtered calm .latchB = false
           ∧ anyAlarm (if (bayOf s .B).cleanReads < 2 then (bayOf s .B).alarms
               else { (bayOf s .B).alarms with overTemp := false, overCurrent := false }) = false
           ∧ anyAlarm (if (1 : Nat) < 2 then (bayOf s .B).alarms else noAlarms) = true) := by decide +kernel

theorem witness_RemovalClearsSegment :
    (∀ t, (inFlight .posted .A (.write 0x51 0) calm).bbc.inFlight = some t → t.segment ≠ segmentOf .B)
      ∧ (let s := inFlight .deferred .B (.read 0x12 16) (withBus { bbcAtReset with deferred := some ⟨.B, 0x12, 16, .inFlight⟩ } calm)
         s.bbc.inFlight = some ⟨.deferred, .B, .read 0x12 16, 0, 7000⟩ ∧ segmentOf .B = .B
           ∧ s.bbc.deferred = some ⟨.B, 0x12, 16, .inFlight⟩)
      ∧ (let s := inFlight .posted .B (.write 0x50 1) (withBus { bbcAtReset with posted := [⟨.B, 0x50, 1⟩] } calm)
         s.bbc.inFlight = some ⟨.posted, .B, .write 0x50 1, 0, 7000⟩ ∧ s.bbc.posted = [⟨.B, 0x50, 1⟩]) := by
  refine ⟨?_, by decide +kernel, by decide +kernel⟩
  intro t h
  cases h
  decide

/-- An identity block and a telemetry block whose bytes sum to 0. -/
def idBlock : List Byte := [7, 0, 0, 0, 1, 4, 0x60, 0xEA, 0x40, 0x38, 1, 49]
def telBlock : List Byte := [0x14, 0x37, 0, 0, 0xFA, 0, 100, 0, 0, 0, 0, 0, 0, 0, 0, 87]

theorem witness_TransactionResultsReachTheirRequesters :
    (let s := inFlight .deferred .B (.read 0x12 16) (withBus { bbcAtReset with deferred := some ⟨.B, 0x12, 16, .inFlight⟩ } calm)
     s.bbc.inFlight = some ⟨.deferred, .B, .read 0x12 telBlock.length, 0, 7000⟩ ∧ s.bbc.deferred = some ⟨.B, 0x12, 16, .inFlight⟩)
      ∧ (let s := inFlight .posted .B (.write 0x50 1) (withBus { bbcAtReset with posted := [⟨.B, 0x50, 1⟩, ⟨.A, 0x51, 0⟩] } calm)
         s.bbc.inFlight = some ⟨.posted, .B, .write 0x50 1, 0, 7000⟩ ∧ s.bbc.posted = ⟨.B, 0x50, 1⟩ :: [⟨.A, 0x51, 0⟩])
      ∧ (inFlight (.poll .A) .A (.read 0x12 16) calm).bbc.inFlight = some ⟨.poll .A, .A, .read 0x12 telBlock.length, 0, 7000⟩
      ∧ byteSum telBlock = 0 ∧ (readTelemetry telBlock).map Telemetry.charge = some 100
      ∧ (let s := inFlight (.identify .B) .B (.read 0x11 12) (withBus { bbcAtReset with bays := ⟨bayBusAtReset, seeking⟩ } calm)
         s.bbc.inFlight = some ⟨.identify .B, .B, .read 0x11 idBlock.length, 0, 7000⟩ ∧ (busOf s .B).sequence = some ⟨1, none⟩)
      ∧ byteSum idBlock = 0 ∧ readIdentity idBlock = some (ident 7) := by decide +kernel

theorem witness_BusTimersExpire :
    (let s := inFlight .deferred .B (.read 0x12 16) (withBus { bbcAtReset with deferred := some ⟨.B, 0x12, 16, .inFlight⟩ } calm)
     s.bbc.inFlight.map Transaction.owner = some .deferred ∧ s.bbc.deferred = some ⟨.B, 0x12, 16, .inFlight⟩)
      ∧ (∀ n ∈ [1, 3],
        let s := inFlight (.identify .B) .B (.read 0x11 12)
          (withBus { bbcAtReset with bays := ⟨bayBusAtReset, { bayBusAtReset with sequence := some ⟨n, none⟩ }⟩ } calm)
        s.bbc.inFlight.map Transaction.owner = some (.identify .B) ∧ (busOf s .B).sequence = some ⟨n, none⟩)
      ∧ (∀ n ∈ [2, 3],
        let s := inFlight (.poll .A) .A (.read 0x12 16)
          (withBus { bbcAtReset with bays := ⟨{ bayBusAtReset with failedPolls := n }, bayBusAtReset⟩ } calm)
        s.bbc.inFlight.map Transaction.owner = some (.poll .A) ∧ (busOf s .A).failedPolls = n ∧ n ≤ 3 ∧ sessionActive s .A = false)
      ∧ (busOf (withBus { bbcAtReset with bays := ⟨{ bayBusAtReset with pollTimer := some 200000 }, bayBusAtReset⟩ } calm) .A).pollTimer
        = some 200000
      ∧ (∀ st ∈ [DeferredState.waiting, .inFlight, .done .timeout [] 400000],
        (withBus { bbcAtReset with deferred := some ⟨.C, 0x21, 4, st⟩ } calm).bbc.deferred = some ⟨.C, 0x21, 4, st⟩) := by
  decide +kernel

/-- The lengths 1 and 32, the segments 0, 2 and 3, and a slot in each of its states, one with another length. -/
theorem witness_PackReadUsesDeferredSlot :
    (calm.settling = none ∧ calm.lu.resetPending = false ∧ calm.lu.responses.length < 8)
      ∧ 1 ≤ (1 : Byte).toNat ∧ (32 : Byte).toNat ≤ 32 ∧ 32 < (33 : Byte).toNat ∧ 2 < (3 : Byte).toNat
      ∧ (∀ st ∈ [DeferredState.waiting, .inFlight, .done .timeout [] 400000],
        (withBus { bbcAtReset with deferred := some ⟨.C, 0x21, 32, st⟩ } calm).bbc.deferred
          = some ⟨.C, (0x21 : Byte).toNat, (32 : Byte).toNat, st⟩)
      ∧ (32 : Nat) ≠ (1 : Byte).toNat ∧ calm.bbc.deferred = none ∧ bayOfSegment .A = some .A ∧ (bayOf calm .A).state = .empty
      ∧ bayOfSegment .C = none ∧ bayOfSegment .B = some .B ∧ (bayOf onDc .B).state = .standby := by decide +kernel

theorem witness_PackWriteJoinsPostedQueue :
    (onDc.settling = none ∧ onDc.lu.resetPending = false ∧ onDc.lu.responses.length < 8)
      ∧ 2 < (3 : Byte).toNat ∧ (bayOf calm .B).state = .empty ∧ (bayOf onDc .B).state = .standby
      ∧ (∀ n ∈ [3, 4], let s := withBus { bbcAtReset with posted := List.replicate n ⟨.A, 0x50, 1⟩ } onDc
        (s.bbc.posted.length < 4 ∨ 4 ≤ s.bbc.posted.length) ∧ s.bbc.posted.length = n) := by decide +kernel

/-- A memory of seven and of eight entries, bay A holding serial 10's pack. -/
def remembering (n : Nat) : State :=
  withBays (packed .standby 10 50 15000) bayAtReset { calm with cc := { ccAtReset with memory := (List.range n).map fun i => entry (10 + i) } }

theorem witness_PackMemoryKeepsAndAnswers :
    ((remembering 8).cc.memory = [entry 10] ++ entry 11 :: (List.range 6).map (fun i => entry (12 + i))
        ∧ (entry 11).serial = (ident 11).serial
        ∧ ∀ x ∈ [entry 10] ++ (List.range 6).map (fun i => entry (12 + i)), x.serial ≠ (ident 11).serial)
      ∧ ((∀ x ∈ (remembering 7).cc.memory, x.serial ≠ (ident 9).serial) ∧ (remembering 7).cc.memory.length < 8)
      ∧ (let s : State := { remembering 8 with cc := { ccAtReset with memory := [entry 11, entry 10] ++ (List.range 6).map fun i => entry (12 + i) } }
         s.cc.memory = [entry 11, entry 10] ++ (List.range 5).map (fun i => entry (12 + i)) ++ entry 17 :: []
           ∧ 8 ≤ s.cc.memory.length ∧ pinned s 17 = false ∧ (∀ x ∈ s.cc.memory, x.serial ≠ (ident 9).serial))
      ∧ ((remembering 7).settling = none ∧ (remembering 7).lu.resetPending = false ∧ (remembering 7).lu.responses.length < 8)
      ∧ (remembering 7).cc.memory[(6 : Byte).toNat]? = some (entry 16) ∧ (remembering 7).cc.memory.length ≤ (7 : Byte).toNat
      ∧ (∀ e ∈ (remembering 7).cc.memory, e.serial ≠ le4 9 0 0 0)
      ∧ (∃ e ∈ (remembering 7).cc.memory, e.serial = le4 10 0 0 0) ∧ (bayOf (remembering 7) .A).state ≠ .empty
      ∧ (bayOf (remembering 7) .A).identity.map Identity.serial = some (le4 10 0 0 0)
      ∧ (bayOf (remembering 7) .A).identity.map Identity.serial ≠ some (le4 11 0 0 0) ∧ (bayOf (remembering 7) .B).state = .empty
      ∧ (∃ e ∈ (remembering 7).cc.memory, e.serial = le4 11 0 0 0)
      ∧ ((remembering 7).cc.memory.map PackEntry.serial).Nodup
      ∧ (∀ e ∈ (remembering 7).cc.memory, e.shocked = false → e.shockSequence = none) := by decide +kernel

/-- Blocks 0.1 °C outside the window at either end, and at each boundary of R85's test. -/
theorem witness_ChargeTelemetryUpdatesMemoryAndSession :
    (bayOf calm .A).identity = none
      ∧ (let s : State := { onDc with cc := { onDc.cc with fault := true } }
         (bayOf s .B).identity = some (ident 8) ∧ s.cc.session = .none ∧ s.cc.fault = true)
      ∧ ((bayOf charging .B).identity = some (ident 8) ∧ charging.cc.session = .active .B 0 usual ∧ (bayOf charging .B).state = .charging
        ∧ usual.tempLow < usual.tempHigh ∧ (-1 : Int) < usual.tempLow ∧ usual.tempHigh < 451 ∧ usual.tempLow ≤ 0 ∧ 450 ≤ usual.tempHigh
        ∧ (150 : Int) ≤ usual.terminationCurrent ∧ (usual.chargeVoltage : Int) - 50 ≤ 16750) := by decide +kernel

/-- Section 4.7 with an attempt for bay B that its shocked pack ends, and an eligible bay B at 38 % under bay A at 62 %. -/
def shocked : State :=
  { onDc with cc := { onDc.cc with
      memory := [entry 7, entry 8].map fun e => { e with shocked := true }, session := .starting .B 0 usual } }

theorem witness_ArbitrationStartsAndAbandonsAttempts :
    (onDc.cc.session = .none ∧ { onDc.cc with fault := true }.fault = true ∧ calm.cc.session = .none
        ∧ eligibleToCharge calm .A = false ∧ eligibleToCharge calm .B = false)
      ∧ (onDc.cc.fault = false ∧ eligibleToCharge onDc .B = true ∧ eligibleToCharge onDc .A = true
        ∧ chargeOf onDc .B < chargeOf onDc .A ∧ (bayOf onDc .B).profile = some 0 ∧ onDc.ts.t3.active[0]? = some defaultProfile
        ∧ dcPresent onDc = true)
      ∧ (let s : State := { onDc with cc := { onDc.cc with session := .starting .B 0 usual } }
         s.cc.session = .starting .B 0 usual ∧ chargeable s .B usual.tempLow usual.tempHigh = true)
      ∧ (let start : ChargerList := ⟨.start, [(0x31, 16800), (0x32, 3000), (0x33, 1)], false⟩
         let s := inFlight .charger .C (.write 0x31 16800) (withBus { bbcAtReset with lists := [start] } shocked)
         shocked.cc.session = .starting .B 0 usual ∧ chargeable shocked .B usual.tempLow usual.tempHigh = false
           ∧ eligibleToCharge shocked .A = false ∧ eligibleToCharge shocked .B = false ∧ dcPresent shocked = true
           ∧ shocked.bbc.inFlight = none ∧ (withBus { bbcAtReset with lists := [start] } shocked).bbc.lists = [start]
           ∧ s.bbc.inFlight = some ⟨.charger, .C, .write 0x31 16800, 0, 7000⟩ ∧ s.bbc.lists = [start]
           ∧ chargeable s .B usual.tempLow usual.tempHigh = false)
      ∧ (charging.cc.session = .active .B 0 usual ∧ (bayOf charging .B).state = .charging ∧ (bayOf charging .B).identity = some (ident 8)
        ∧ (ident 8).serial ∈ [8, 9] ∧ ∃ e ∈ charging.cc.memory, e.serial = (ident 8).serial) := by decide +kernel

/-- A start list with one write left, and a count of 2 failed lists. -/
def lastWrite : State :=
  inFlight .charger .C (.write 0x33 1)
    (withBus { bbcAtReset with lists := [⟨.start, [(0x33, 1)], false⟩] }
      { onDc with cc := { onDc.cc with session := .starting .B 0 usual, failedLists := 2 } })

theorem witness_StartListReportDecidesAttempt :
    lastWrite.bbc.inFlight = some ⟨.charger, .C, .write 0x33 1, 0, 7000⟩ ∧ lastWrite.bbc.lists = [⟨.start, [(0x33, 1)], false⟩]
      ∧ lastWrite.cc.session = .starting .B 0 usual
      ∧ chargeable lastWrite .B usual.tempLow usual.tempHigh = true ∧ dcPresent lastWrite = true ∧ lastWrite.cc.failedLists < 3 := by
  decide +kernel

/-- One state per case of R92; the ceiling at the demand and 1 above it. -/
theorem witness_BudgetRecomputedAndDemandCapped :
    calm.ppc.railOn = false
      ∧ (let s : State := { calm with ppc := { ppcAtReset with railOn := true } }
         s.ppc.railOn = true ∧ anyFeeding s = false)
      ∧ (charging.ppc.railOn = true ∧ dcFeedsAlone charging = true)
      ∧ (let s := feeding 10 14050
         s.ppc.railOn = true ∧ s.ppc.dcSwitch = false ∧ (bayOf s .A).discharge = true ∧ (bayOf s .B).discharge = false
           ∧ (bayOf s .A).telemetry = some (cell 10 14050))
      ∧ (let s : State := { calm with bu := { buAtReset with powerCap := 691 } }
         ¬ max (paramN s 20) (if s.bu.swapFlag then min s.bu.powerCap (paramN s 21) else s.bu.powerCap) < 691
           ∧ max (paramN s 20) (if s.bu.swapFlag then min s.bu.powerCap (paramN s 21) else s.bu.powerCap) < 692) := by decide +kernel

/-- Stacks of 0, 3 and 4 levels; levels and offsets at the ends of their clamps. -/
theorem witness_OffsetAndOverridesMoveTarget :
    (noon.settling = none ∧ noon.lu.resetPending = false ∧ noon.lu.responses.length < 8)
      ∧ signed16 (le2 0xE8 0x03) = 1000 ∧ signed16 (le2 0x0C 0xFE) = -500 ∧ signed16 (le2 0x0B 0xFE) = -501
      ∧ noon.blc.stack = []
      ∧ (∀ n ∈ [3, 4], { noon.blc with stack := 200 :: List.replicate (n - 1) 300 }.stack.length = n) := by decide +kernel

theorem witness_LightAndTemperatureAreSampled :
    State.reset.settling.isSome = true ∧ noon.settling = none ∧ noon.blc.front.failed = false ∧ noon.ts.t1.pending = false
      ∧ (let s : State := { noon with blc := { noon.blc with front := ⟨some 9000, false, true, some 200000⟩, filter := 168001 } }
         s.blc.front.failed = true ∧ s.ts.t1.pending = false
           -- a rear sample of 14,000 with the front failed: E is 10,500, delta −1, and the step −1
           ∧ (10500 : Nat) = max (if s.blc.front.failed then 0 else s.blc.front.sample.getD 0) (14000 * paramN s 23 / 16)
           ∧ (-1 : Int) = 16 * (10500 : Nat) - s.blc.filter ∧ (-1 : Int).tdiv (2 ^ paramN s 25) = 0
           ∧ (168000 : Int) = s.blc.filter + (-1 : Int).sign)
      ∧ noon.blc.front.silence = some 0 ∧ noon.blc.rear.silence = some 0
      ∧ { noon.blc.rear with failed := true }.failed = true
      -- a reading at each end of the derate span and beyond its bounds
      ∧ (-400 : Int) = max (-400) (min 1250 (-401)) ∧ (1250 : Int) = max (-400) (min 1250 1251)
      ∧ param noon 28 = 500 ∧ param noon 29 = 700 ∧ noon.blc.tempSilence = some 0
      -- the hysteresis: 20 apart, 19 apart, and the last point's level
      ∧ (∀ x ∈ [(661, true), (660, false)], decide (paramN noon 22 ≤ ((x.1 : Int) - noon.blc.held).natAbs) = x.2)
      ∧ defaultCurve.used.getLast?.map Prod.snd = some 1000 := by decide +kernel

theorem witness_FilterAndCurveFollowLight :
    (0 < 16 * 1 ∧ 16 * 1 < 17 ∧ 16 = 16 * 1)
      ∧ (defaultCurve.used.map Prod.fst).Pairwise (· < ·) ∧ (defaultCurve.used.map Prod.snd).Pairwise (· ≤ ·)
      ∧ defaultCurve.used = (0, 60) :: defaultCurve.used.drop 1
      ∧ defaultCurve.used = defaultCurve.used.take 7 ++ [(90000, 1000)]
      ∧ (defaultCurve.used = defaultCurve.used.take 4 ++ (5000, 550) :: (20000, 800) :: defaultCurve.used.drop 6
        ∧ 5000 ≤ 5000 ∧ 19999 < 20000) := by decide +kernel

theorem witness_RampTickStepsTowardsTarget : noon.blc.rampPhase = some 0 := by decide +kernel

/-- Samples at P0² and at P3² and 1 below them: (154, 0, 0) has m2 = P0², (3072, 0, 0) has P3². -/
theorem witness_AccelSamplesWatchAndMeasure :
    calm.settling = none ∧ ((154 : Int) * 154 + 0 * 0 + 0 * 0).toNat = paramN calm 0 ^ 2
      ∧ ((153 : Int) * 153 + 17 * 17 + 4 * 4).toNat < paramN calm 0 ^ 2
      ∧ ((3072 : Int) * 3072 + 0 * 0 + 0 * 0).toNat = paramN calm 3 ^ 2 ∧ paramN calm 0 ^ 2 ≤ paramN calm 3 ^ 2
      ∧ 1 < paramN calm 4
      ∧ (dropping .disarmed shmAtReset).shm.state = .disarmed
      ∧ (∀ q ∈ [38, 39], let s := dropping .idle { shmAtReset with qualify := q }
        s.shm.state = .idle ∧ (s.shm.qualify + 1 < paramN s 1 ↔ q = 38))
      ∧ (let s := dropping .falling { event with grace := 7 }
         s.shm.state = .falling ∧ s.shm.grace + 1 ≤ paramN s 2)
      ∧ (let s := dropping .impact { event with outcome := some .drop, window := 78 }
         s.shm.state = .impact ∧ s.shm.window + 1 < paramN s 4) := by decide +kernel

theorem witness_WindowEndRecordsEvent :
    let s : State := { dropping .impact { event with outcome := some .drop, window := 79, impacts := 14 } with
      ts := { calm.ts with t2 := { calm.ts.t2 with active := List.replicate 12 blankClass } }
      dl := { fullLog.dl with log := fullLog.dl.log.drop 1, nextSequence := 4294967294 } }
    s.settling = none ∧ s.shm.state = .impact ∧ paramN s 4 ≤ s.shm.window + 1 ∧ s.shm.snapshot = some tailgate
      ∧ s.shm.outcome = some .drop ∧ (∀ e ∈ s.ts.t2.active, e.valid = false) ∧ s.dl.nextSequence < 4294967295
      ∧ s.dl.log.length < 32 := by decide +kernel

/-- Logs of 31 and of 32 records with 15 and with 16 preserved, and an open record that the reference names. -/
theorem witness_DropLogKeepsLimitsAndCompletes :
    ((fullLog.dl.log.drop 1).countP DropRecord.preserved = 15 ∧ (fullLog.dl.log.drop 1).length < 32)
      ∧ (fullLog.dl.log.countP DropRecord.preserved = 16 ∧ fullLog.dl.log.length = 32
        ∧ fullLog.dl.log = fullLog.dl.log.take 16 ++ logged 117 false :: fullLog.dl.log.drop 17
        ∧ (∀ y ∈ fullLog.dl.log.take 16, y.preserved = true)
        ∧ fullLog.dl.log = [] ++ logged 101 true :: fullLog.dl.log.drop 1)
      ∧ (let log := logged 100 false :: fullLog.dl.log.take 31
         32 ≤ log.length ∧ 16 ≤ log.countP DropRecord.preserved ∧ log = [logged 100 false] ++ logged 101 true :: log.drop 2
           ∧ ∀ y ∈ [logged 100 false], y.preserved = false)
      ∧ (let s : State := { dropping .settling { event with outcome := some .drop, settleTimer := some 800000 } with
           dl := { fullLog.dl with openReference := some 132 } }
         s.shm.state = .settling ∧ s.dl.openReference = some 132 ∧ s.ts.t2.pending = false
           ∧ ∃ r ∈ s.dl.log, r.sequence = 132) := by decide +kernel

/-- Rest samples at P5² and at P6²; the rest run 1 short of P7. -/
theorem witness_EventsCloseOrSensorIsLost :
    (let s := dropping .settling { event with outcome := some .drop, rest := 399, settleTimer := some 0 }
     s.shm.state = .settling ∧ s.dl.openReference = none ∧ s.ts.t2.pending = false ∧ s.settling = none
       ∧ paramN s 5 < paramN s 6 ∧ paramN s 5 ^ 2 ≤ ((410 : Int) * 410).toNat ∧ ((614 : Int) * 614).toNat ≤ paramN s 6 ^ 2
       ∧ paramN s 7 ≤ s.shm.rest + 1)
      ∧ (∀ st ∈ [ShmState.disarmed, .unavailable, .idle, .falling],
        let s := dropping st { event with quiesceLine := st.isEvent }
        s.shm.state = st ∧ s.shm.silence = some 0 ∧ s.ts.t2.pending = false) := by decide +kernel

/-- Section 8.10: entry 1 takes the event after entry 0 has not; no entry takes an event under a blank table. -/
theorem witness_EventIsMeasuredAndClassified :
    let h : HandOver := ⟨.drop, 312, 745, 23194, 14, false, tailgate⟩
    3221225472 ≤ 3 * 2 ^ 30 ∧ 1023 ≤ 1023
      ∧ (calm.ts.t2.active = defaultClasses.take 1 ++ defaultClasses.getD 1 blankClass :: defaultClasses.drop 2
        ∧ (∀ x ∈ defaultClasses.take 1, x.accepts h = false) ∧ (defaultClasses.getD 1 blankClass).accepts h = true)
      ∧ (∀ e ∈ List.replicate 12 blankClass, e.accepts h = false) := by decide +kernel

/-- The samples present up to 1 tick below 50 ms, in each state of the monitor. -/
theorem witness_ArmDisarmAndQuiesceRequests :
    (∀ st ∈ [ShmState.disarmed, .idle, .falling, .impact, .settling, .unavailable],
      let s := dropping st { event with silence := some 9999, quiesceKept := true }
      s.settling = none ∧ s.lu.resetPending = false ∧ s.lu.responses.length < 8 ∧ s.ts.t2.pending = false ∧ s.shm.state = st
        ∧ s.shm.quiesceKept = true)
      ∧ (let s := dropping .disarmed { shmAtReset with silence := some 9999 }
         { s with shm := { s.shm with silence := some 9999 } }.shm.silence = some 9999 ∧ 9999 < ms 50 ∧ s.shm.quiesceKept = false) := by
  decide +kernel

theorem witness_LogAndClockRequestsAnswer :
    (fullLog.settling = none ∧ fullLog.lu.resetPending = false ∧ fullLog.lu.responses.length < 8)
      ∧ (fullLog.dl.log = [] ++ logged 101 true :: fullLog.dl.log.drop 1 ∧ (fullLog.dl.log.drop 1).length = (31 : Byte).toNat)
      ∧ fullLog.dl.log.length ≤ (32 : Byte).toNat ∧ fullLog.dl.clearLock = false
      ∧ { fullLog.dl with clearLock := true }.clearLock = true
      ∧ { dlAtReset with clockPhase := some 200000 }.clockPhase = some 200000 := by decide +kernel

/-! ### Tables -/

/-- The tables after power-on reset meet their invariant. -/
theorem calm_tables : TablesSound calm := by
  refine ⟨?_, ?_, ⟨by decide, by decide, by decide, by decide +kernel, by decide +kernel, by decide +kernel⟩, by decide, nofun, by decide, by decide,
    by decide +kernel, nofun, by decide, by decide, by decide +kernel⟩
  · rintro l (rfl | rfl) <;> decide +kernel
  · rintro l (rfl | rfl) <;> decide +kernel

/-- The bounds 0 and 4 of the table number and each table's last index; P32 at 499 and 500; P23 at 16 and 17; an entry of each table. -/
theorem witness_TableWriteStagesEntry :
    (calm.settling = none ∧ calm.lu.resetPending = false ∧ calm.lu.responses.length < 8) ∧ TablesSound calm
      ∧ 4 < (5 : Byte).toNat
      ∧ (∀ x ∈ [(0, 47, 4), (1, 15, 6), (1, 16, 6), (2, 11, 17), (3, 5, 22), (4, 31, 1)],
        x.1 ≤ 4 ∧ x.2.1 < entryCount x.1 ∧ entryCount x.1 ≤ 48 ∧ entryLength x.1 = x.2.2 ∧ pendingMark calm.ts x.1 = false)
      ∧ pendingMark { calm.ts with t1 := { calm.ts.t1 with pending := true } } 1 = true
      ∧ signed32 (le4 0xF3 0x01 0 0) = 499 ∧ paramInRange 32 499 = false ∧ paramInRange 32 500 = true
      ∧ signed32 (le4 16 0 0 0) ≤ 16 ∧ 16 < signed32 (le4 17 0 0 0) ∧ calm.ts.t0.staging.length = 48
      ∧ EntryInRange 1 5 [0xFF, 0xFF, 0x01, 0x00, 0xE8, 0x03] ∧ ¬EntryInRange 1 5 [0x80, 0x38, 0x01, 0x00, 0xE9, 0x03]
      ∧ EntryInRange 1 16 [16, 0, 0, 0, 0, 0] ∧ ¬EntryInRange 1 16 [17, 0, 0, 0, 0, 0] ∧ ¬EntryInRange 1 16 [0, 0, 0, 0, 0, 0]
      ∧ EntryInRange 2 0 [1, 1, 1, 1, 1, 1, 1, 1, 1, 2, 2, 2, 2, 2, 2, 3, 15] ∧ ¬EntryInRange 2 0 [2, 0, 0, 0, 0, 0, 0, 0, 0, 0, 0, 0, 0, 0, 0, 0, 0]
      ∧ ¬EntryInRange 2 0 [0, 0, 0, 0, 0, 0, 0, 0, 0, 0, 0, 0, 0, 0, 0, 0, 16]
      -- chemistry 15, 8000 mV, 100 mA, 20 mA, −40.0 °C to 125.0 °C, 500 mA; and chemistry 16
      ∧ EntryInRange 3 0 [1, 15, 0, 0, 0, 0, 0, 0, 0, 0, 0x40, 0x1F, 100, 0, 20, 0, 0x70, 0xFE, 0xE2, 0x04, 0xF4, 0x01]
      ∧ ¬EntryInRange 3 0 [1, 16, 0, 0, 0, 0, 0, 0, 0, 0, 0x40, 0x1F, 100, 0, 20, 0, 0x70, 0xFE, 0xE2, 0x04, 0xF4, 0x01]
      ∧ EntryInRange 4 28 [7] ∧ ¬EntryInRange 4 28 [8] ∧ EntryInRange 4 29 [0] ∧ ¬EntryInRange 4 29 [1]
      ∧ (∀ t ∈ [1, 2, 3, 4], (entryBytes calm.ts t 0 false).length = entryLength t) := by
  simp only [EntryInRange]
  refine ⟨by decide +kernel, calm_tables, ?_⟩
  and_intros <;> decide +kernel

/-- Staging copies that fail at a middle entry, at the first and at the last, and ones that pass. -/
theorem witness_TableApplySwapsOrWaits :
    (calm.settling = none ∧ calm.lu.resetPending = false ∧ calm.lu.responses.length < 8) ∧ 4 < (5 : Byte).toNat
      ∧ pendingMark { calm.ts with t1 := { calm.ts.t1 with pending := true } } 1 = true
      ∧ calm.ts.t0.pending = false ∧ calm.ts.t1.pending = false ∧ calm.ts.t2.pending = false ∧ calm.ts.t3.pending = false
      ∧ calm.ts.t4.pending = false
      ∧ (let l := defaultParams.set 32 499
         32 < l.length ∧ paramInRange 32 (l.getD 32 0) = false ∧ ∀ j < 32, paramInRange j (l.getD j 0) = true)
      ∧ (∀ i < calm.ts.t0.staging.length, paramInRange i (calm.ts.t0.staging.getD i 0) = true)
      ∧ ({ defaultCurve with count := 0 }.count = 0 ∧ 16 < { defaultCurve with count := 17 }.count)
      ∧ (let c : Curve := ⟨[(0, 80), (50, 150), (500, 300), (500, 600), (30000, 900)] ++ List.replicate 11 (0, 0), 5⟩
         c.used = [(0, 80), (50, 150)] ++ (500, 300) :: (500, 600) :: [(30000, 900)] ∧ 1 ≤ c.count ∧ c.count ≤ 16
           ∧ (∀ x ∈ [((0, 80) : Nat × Nat), (50, 150)] ++ [(500, 300), (500, 600)], x.1 ≤ 131071 ∧ x.2 ≤ 1000)
           ∧ (([((0, 80) : Nat × Nat), (50, 150)] ++ [(500, 300)]).map Prod.fst).Pairwise (· < ·)
           ∧ (([((0, 80) : Nat × Nat), (50, 150)] ++ [(500, 300)]).map Prod.snd).Pairwise (· ≤ ·) ∧ 500 ≤ 500)
      ∧ (let e : ClassEntry := { blankClass with valid := true, preserve := true }
         defaultClasses.take 11 ++ [e] = defaultClasses.take 11 ++ e :: [] ∧ (∀ x ∈ defaultClasses.take 11, classSound x = true)
           ∧ e.valid = true ∧ e.preserve = true ∧ e.log = false)
      ∧ ((∀ e ∈ calm.ts.t2.staging, classSound e = true) ∧ calm.shm.state.isEvent = false ∧ (ShmState.settling).isEvent = true)
      ∧ (let p : Profile := { defaultProfile with terminationCurrent := 3000 }
         p.valid = true ∧ p.chargeCurrent ≤ p.terminationCurrent ∧ ∀ x ∈ ([] : List Profile), profileSound x = true)
      ∧ (∀ p ∈ calm.ts.t3.staging, profileSound p = true)
      ∧ (let l := defaultLevels.set 31 1
         31 < l.length ∧ levelInRange 31 (l.getD 31 0) = false ∧ ∀ j < 31, levelInRange j (l.getD j 0) = true)
      ∧ (∀ i < calm.ts.t4.staging.length, levelInRange i (calm.ts.t4.staging.getD i 0) = true) := by decide +kernel

/-- The default curve passes, so an apply of table 1 waits. -/
theorem witness_curve_waits : CurveSound calm.ts.t1.staging := calm_tables.2.2.1

theorem witness_TableDiscardAndReadAnswer :
    (calm.settling = none ∧ calm.lu.resetPending = false ∧ calm.lu.responses.length < 8)
      ∧ 4 < (5 : Byte).toNat ∧ (4 : Byte).toNat ≤ 4 ∧ 1 < (2 : Byte).toNat ∧ (1 : Byte).toNat ≤ 1
      ∧ pendingMark { calm.ts with t2 := { calm.ts.t2 with pending := true } } 2 = true
      ∧ (∀ t ∈ [0, 1, 2, 3, 4], pendingMark calm.ts t = false)
      ∧ entryCount 0 ≤ (48 : Byte).toNat ∧ (47 : Byte).toNat < entryCount 0 ∧ (16 : Byte).toNat < entryCount 1
      ∧ entryCount 1 ≤ (17 : Byte).toNat := by decide +kernel

/-- Timers 1 tick below their new limits, and at them. -/
theorem witness_SwapsReachTheirBlocks :
    (∀ e ∈ [299999, 300000], let s : State := { calm with ppc := { ppcAtReset with railOn := true, bridgeTimer := some e } }
      s.ppc.bridgeTimer = some e ∧ (e < ms (paramN s 13) ↔ e = 299999))
      ∧ (199999 < ms (paramN calm 34) ∧ 399999 < ms (paramN calm 33) ∧ 42 ∉ [13, 47])
      ∧ (noon.blc.temperature = some 560 ∧ noon.blc.front.silence = some 0 ∧ 0 < ms (paramN noon 38) ∧ noon.blc.tempSilent = false)
      ∧ (∀ e ∈ [799999, 800000], let s := dropping .settling { event with settleTimer := some e }
        s.shm.settleTimer = some e ∧ (e < ms (paramN s 8) ↔ e = 799999))
      ∧ (let s : State := { onDc with cc := { onDc.cc with fault := true } }
         s.cc.session = .none ∧ s.cc.fault = true) := by decide +kernel

/-! ### The link -/

theorem witness_EveryRequestAnsweredOnce :
    Instr.identify 9 [] = decodeRequest (9 :: 0x01 :: []) ∧ State.reset.settling.isSome = true
      ∧ (calm.settling = none ∧ { calm.lu with resetPending := true }.resetPending = true ∧ calm.lu.resetPending = false)
      ∧ (∀ n ∈ [7, 8], (List.replicate n (⟨2, 0x60, .notFound, false, [0]⟩ : Response)).length = n) := by decide +kernel

theorem witness_WrongLengthOrCodeRefused :
    (calm.settling = none ∧ calm.lu.resetPending = false ∧ calm.lu.responses.length < 8)
      ∧ ((0x20, 3) : Byte × Nat) ∈ [((0x01, 0) : Byte × Nat), (0x20, 3)] ∧ ([0, 0x12] : List Byte).length ≠ 3
      ∧ ([0] : List Byte).length < 2 ∧ (0x00 : Byte) ≠ 0x10 ∧ (0xFF : Byte) ≠ 0x10
      ∧ decodeRequest [9, 0x00, 1] = .unknownRequest 9 0x00 [1] ∧ decodeRequest [9, 0xFF] = .unknownRequest 9 0xFF [] := by
  decide +kernel

theorem witness_LinkAnswersAndSearchesDiscardedBytes :
    7 < (8 : Byte).toNat ∧ (7 : Byte).toNat ≤ 7
      ∧ ({ calm.blc with stack := [1000, 0, 500, 1] }.stack.length ≤ 4 ∧ ∀ l ∈ [1000, 0, 500, 1], l ≤ 1000)
      ∧ calm.settling = none ∧ (0xA5 : Byte) ∉ ([0x01, 0x30] : List Byte)
      ∧ (List.replicate 60 (0xA5 : Byte)).length ≤ 60 ∧ 60 < (61 : Byte).toNat ∧ (0xA5 : Byte) ∉ (0x01 :: 61 :: [] : List Byte)
      -- a request found among the bytes that answers a next state with no such command left
      ∧ decodeRequest [9, 0x01] ∉ calm.delivered
      ∧ sees (decodeRequest [9, 0x01]) calm (fun t => t.delivered) = some [] := by decide +kernel

theorem witness_LineFreeAndLinkSilence :
    (lineBusy calm).lu.line = some ⟨0x83, [], 9, false⟩
      ∧ { luAtReset with silenceTimer := some 800000 }.silenceTimer = some 800000
      ∧ noon.blc.stack = [] ∧ { noon.blc with stack := [200] }.stack ≠ [] := by decide +kernel

theorem witness_ResetsLeaveListedState : calm.settling = none ∧ State.reset.settling.isSome = true := by decide +kernel

theorem witness_RequestsRoundTrip :
    wellFormed (.tableWrite 9 [0, 23, 12, 0, 0, 0]) = true
      ∧ encodeRequest (.tableWrite 9 [0, 23, 12, 0, 0, 0]) = some [9, 0x10, 0, 23, 12, 0, 0, 0]
      ∧ (9 :: 0x7F :: List.replicate 58 (0 : Byte)).length = 60 := by decide +kernel

/-! ### Invariants: a state with something in it that meets each, and steps -/

theorem witness_StepsKeepLogSound : LogSound fullLog ∧ ∃ t, step { fullLog with pending := [.logClear 9 []] } = .next t :=
  ⟨⟨by decide +kernel, by decide +kernel, by decide +kernel, by decide +kernel⟩, _, rfl⟩

theorem witness_StepsKeepQueuesBounded :
    let s := withBus { bbcAtReset with posted := List.replicate 4 ⟨.A, 0x50, 1⟩ }
      (withLink { luAtReset with responses := List.replicate 8 ⟨2, 0x60, .notFound, false, [0]⟩, notices := [⟨.telemetryLost .B, 4, 255⟩] }
        { noon with blc := { noon.blc with stack := [1000, 0, 500, 1] }, pending := [.overridePop 9 []] })
    QueuesSound s ∧ NoticesSound s ∧ PostedSound s ∧ StackSound s ∧ ∃ t, step s = .next t :=
  ⟨⟨by decide +kernel, by decide +kernel⟩, ⟨by decide +kernel, by decide +kernel⟩, by unfold PostedSound; decide +kernel,
    ⟨by decide +kernel, by decide +kernel⟩, _, rfl⟩

theorem witness_StepsKeepQuiesceSound :
    let s := dropping .impact { event with outcome := some .drop }
    QuiesceSound s ∧ ∃ t, step { s with pending := [.accelSample 0 0 512] } = .next t :=
  ⟨⟨fun _ => by decide +kernel, fun h => absurd h (by decide +kernel)⟩, _, rfl⟩

theorem witness_StepsKeepBlankedDark :
    let s : State := { noon with blc := { noon.blc with lidClosed := true, target := 0, output := 0 } }
    BlankedDark s ∧ (s.blc.railOn = false ∨ s.blc.lidClosed = true) ∧ ∃ t, step { s with pending := [.rampTick] } = .next t :=
  ⟨fun _ => by decide +kernel, by decide +kernel, _, rfl⟩

theorem witness_StepsKeepMemorySound : MemorySound charging ∧ ∃ t, step { charging with pending := [.ppcPresFalling .B] } = .next t := by
  refine ⟨⟨by decide +kernel, by decide +kernel, ?_⟩, _, rfl⟩
  intro b
  cases b
  · exact ⟨by decide +kernel, fun id h => ⟨entry 7, by decide +kernel, by cases h; rfl⟩⟩
  · exact ⟨by decide +kernel, fun id h => ⟨entry 8, by decide +kernel, by cases h; rfl⟩⟩

theorem witness_StepsKeepTablesSound : TablesSound calm ∧ ∃ t, step { calm with pending := [.tableApply 9 [0]] } = .next t :=
  ⟨calm_tables, _, rfl⟩

/-- An OVERLAP with both its switches closed. -/
theorem witness_StepsKeepPathSound :
    PathSound (toDc .supplying .overlap .dcAttach)
      ∧ ∃ t, step { toDc .supplying .overlap .dcAttach with pending := [.overlapComplete] } = .next t := by
  refine ⟨⟨?_, by decide +kernel, nofun, ?_⟩, _, rfl⟩
  · intro b
    cases b <;> decide +kernel
  · intro t h
    cases h
    refine ⟨by decide +kernel, nofun, fun _ => ⟨.A, by decide +kernel, ?_⟩⟩
    intro x
    cases x with
    | dc => decide +kernel
    | bay b => cases b <;> decide +kernel

end Sys2Proof.Tests
end

section
/-! PROOFS. Ambient light and the backlight (chapter 6): the filter moves towards 16 E and stops there; the brightness curve. -/

namespace Sys2Proof.Machine

/-! ### The filter's step (R106) -/

@[simp] theorem filterDelta_zero (rise fall : Nat) : filterDelta 0 rise fall = 0 := by simp [filterDelta]

theorem filterDelta_of_pos {d : Int} (hd : 0 < d) (rise fall : Nat) :
    filterDelta d rise fall = max 1 (d.tdiv (2 ^ rise)) := by
  have hstep : 0 ≤ d.tdiv (2 ^ rise) := Int.tdiv_nonneg hd.le (by positivity)
  simp only [filterDelta, hd, if_true]
  split <;> omega

theorem filterDelta_of_neg {d : Int} (hd : d < 0) (rise fall : Nat) :
    filterDelta d rise fall = min (-1) (d.tdiv (2 ^ fall)) := by
  have hstep : 0 ≤ (-d).tdiv (2 ^ fall) := Int.tdiv_nonneg (by omega) (by positivity)
  rw [Int.neg_tdiv] at hstep
  simp only [filterDelta, hd, hd.not_gt, if_true, if_false]
  split <;> omega

/-- A rise is by at least 1 and never more than the delta, the whole delta when the rise shift is 0. -/
theorem filterDelta_rise {d : Int} (hd : 0 < d) (rise fall : Nat) :
    1 ≤ filterDelta d rise fall ∧ filterDelta d rise fall ≤ d ∧ (rise = 0 → filterDelta d rise fall = d) := by
  rw [filterDelta_of_pos hd]
  have hle : d.tdiv (2 ^ rise) ≤ d := Int.tdiv_le_self _ hd.le
  refine ⟨by omega, by omega, ?_⟩
  rintro rfl
  rw [pow_zero, Int.tdiv_one]
  omega

/-- A fall is by at least 1 and never more than the delta's size, the whole delta when the fall shift is 0. -/
theorem filterDelta_fall {d : Int} (hd : d < 0) (rise fall : Nat) :
    filterDelta d rise fall ≤ -1 ∧ d ≤ filterDelta d rise fall ∧ (fall = 0 → filterDelta d rise fall = d) := by
  rw [filterDelta_of_neg hd]
  have hle : (-d).tdiv (2 ^ fall) ≤ -d := Int.tdiv_le_self _ (by omega)
  rw [Int.neg_tdiv] at hle
  refine ⟨by omega, by omega, ?_⟩
  rintro rfl
  rw [pow_zero, Int.tdiv_one]
  omega

/-! ### F after a step (R106) -/

theorem filterNext_rise {f e : Nat} (h : f < 16 * e) (rise fall : Nat) :
    f < filterNext f e rise fall ∧ filterNext f e rise fall ≤ 16 * e
      ∧ (rise = 0 → filterNext f e rise fall = 16 * e) := by
  obtain ⟨hmoves, hstops, hwhole⟩ := filterDelta_rise (d := 16 * (e : Int) - f) (by omega) rise fall
  unfold filterNext
  exact ⟨by omega, by omega, fun hr => by rw [hwhole hr]; omega⟩

theorem filterNext_fall {f e : Nat} (h : 16 * e < f) (rise fall : Nat) :
    filterNext f e rise fall < f ∧ 16 * e ≤ filterNext f e rise fall
      ∧ (fall = 0 → filterNext f e rise fall = 16 * e) := by
  obtain ⟨hmoves, hstops, hwhole⟩ := filterDelta_fall (d := 16 * (e : Int) - f) (by omega) rise fall
  unfold filterNext
  exact ⟨by omega, by omega, fun hf => by rw [hwhole hf]; omega⟩

@[simp] theorem filterNext_settled (e rise fall : Nat) : filterNext (16 * e) e rise fall = 16 * e := by
  rw [filterNext, Nat.cast_mul, Nat.cast_ofNat, sub_self, filterDelta_zero]
  omega

/-! ### The brightness curve (R109) -/

/-- The walk along the points goes past every point whose lux is at or below L. -/
theorem curveFrom_past {l : Nat} {p : Nat × Nat} {rest : List (Nat × Nat)} (hp : p.1 ≤ l) :
    ∀ (a : Nat × Nat) (before : List (Nat × Nat)), (∀ x ∈ before, x.1 ≤ l) →
      curveFrom l a (before ++ p :: rest) = curveFrom l p rest
  | _, [], _ => if_pos hp
  | _, b :: bs, hle => by
    obtain ⟨hb, hbs⟩ := List.forall_mem_cons.1 hle
    calc curveFrom l _ (b :: bs ++ p :: rest)
        = curveFrom l b (bs ++ p :: rest) := if_pos hb
      _ = curveFrom l p rest := curveFrom_past hp b bs hbs

/-- At a point's own lux the walk that stands there gives that point's level. -/
theorem curveFrom_at_point {p : Nat × Nat} :
    ∀ {rest : List (Nat × Nat)}, (∀ q ∈ rest, p.1 < q.1) → curveFrom p.1 p rest = p.2
  | [], _ => rfl
  | q :: _, hlt => by
    have hq : ¬ q.1 ≤ p.1 := not_le.2 (hlt q List.mem_cons_self)
    simp [curveFrom, hq]

theorem curveLevelAt_of_le_first {c : Curve} {l : Nat} {p : Nat × Nat} {rest : List (Nat × Nat)}
    (hused : c.used = p :: rest) (hl : l ≤ p.1) : curveLevelAt c l = p.2 := by
  simp only [curveLevelAt, hused, if_pos hl]

/-- Above some point in use, the level is the walk's from any point at or below L: those before it are passed. -/
theorem curveLevelAt_eq_curveFrom {c : Curve} {l : Nat} {before rest : List (Nat × Nat)} {p : Nat × Nat}
    (hlux : (c.used.map Prod.fst).Pairwise (· < ·)) (hused : c.used = before ++ p :: rest) (hp : p.1 ≤ l) :
    curveLevelAt c l = curveFrom l p rest := by
  rw [List.pairwise_map, hused, List.pairwise_append, List.pairwise_cons] at hlux
  obtain ⟨-, ⟨hafter, -⟩, hacross⟩ := hlux
  have hbefore : ∀ x ∈ before, x.1 < p.1 := fun x hx => hacross x hx p List.mem_cons_self
  cases before with
  | nil =>
    rcases hp.eq_or_lt with rfl | hlt
    · rw [curveLevelAt_of_le_first hused le_rfl, curveFrom_at_point hafter]
    · simp only [curveLevelAt, hused, List.nil_append, if_neg hlt.not_ge]
  | cons a bs =>
    obtain ⟨ha, hbs⟩ := List.forall_mem_cons.1 hbefore
    have hal : ¬ l ≤ a.1 := by omega
    simp only [curveLevelAt, hused, List.cons_append, if_neg hal]
    exact curveFrom_past hp a bs fun x hx => (hbs x hx).le.trans hp

theorem curveLevelAt_of_last_le {c : Curve} {l : Nat} {before : List (Nat × Nat)} {p : Nat × Nat}
    (hlux : (c.used.map Prod.fst).Pairwise (· < ·)) (hused : c.used = before ++ [p]) (hp : p.1 ≤ l) :
    curveLevelAt c l = p.2 :=
  curveLevelAt_eq_curveFrom hlux hused hp

theorem curveLevelAt_between {c : Curve} {l : Nat} {before after : List (Nat × Nat)} {p q : Nat × Nat}
    (hlux : (c.used.map Prod.fst).Pairwise (· < ·)) (hused : c.used = before ++ p :: q :: after)
    (hp : p.1 ≤ l) (hq : l < q.1) :
    curveLevelAt c l = p.2 + (q.2 - p.2) * (l - p.1) / (q.1 - p.1) := by
  rw [curveLevelAt_eq_curveFrom hlux hused hp, curveFrom, if_neg hq.not_ge]

/-- Neighbouring points in use keep the order of their levels. -/
theorem Curve.level_le_next {c : Curve} {before after : List (Nat × Nat)} {p q : Nat × Nat}
    (hlevel : (c.used.map Prod.snd).Pairwise (· ≤ ·)) (hused : c.used = before ++ p :: q :: after) : p.2 ≤ q.2 := by
  rw [List.pairwise_map, hused, List.pairwise_append, List.pairwise_cons] at hlevel
  obtain ⟨-, ⟨hnext, -⟩, -⟩ := hlevel
  exact hnext q List.mem_cons_self

/-- A truncated interpolation that covers part of the way does not pass the end. -/
theorem interpolation_le_end {lo hi way whole : Nat} (hlevel : lo ≤ hi) (hway : way ≤ whole) :
    lo + (hi - lo) * way / whole ≤ hi := by
  have hrise : (hi - lo) * way / whole ≤ hi - lo :=
    Nat.div_le_of_le_mul ((Nat.mul_le_mul_left _ hway).trans_eq (Nat.mul_comm _ _))
  omega

/-- Settles O34: the filter by the sign of its delta, the curve by the last point at or below L. -/
theorem filterAndCurveFollowLight : Obligations.FilterAndCurveFollowLight := by
  refine ⟨fun f e rise fall => ⟨fun h => ?_, fun h => ?_, ?_, fun h => ?_, fun h => ?_⟩,
    fun c l hlux hlevel => ⟨fun _ _ => curveLevelAt_of_le_first, fun _ _ => curveLevelAt_of_last_le hlux, ?_⟩⟩
  · obtain ⟨hmoves, hstops, -⟩ := filterNext_rise h rise fall
    exact ⟨hmoves, hstops⟩
  · obtain ⟨hmoves, hstops, -⟩ := filterNext_fall h rise fall
    exact ⟨hmoves, hstops⟩
  · rintro rfl
    exact filterNext_settled e rise fall
  · obtain ⟨-, -, hwhole⟩ := filterNext_rise h rise fall
    exact hwhole
  · obtain ⟨-, -, hwhole⟩ := filterNext_fall h rise fall
    exact hwhole
  · intro before after p q hused hp hq
    rw [curveLevelAt_between hlux hused hp hq]
    have hend : l - p.1 ≤ q.1 - p.1 := by omega
    exact ⟨rfl, Nat.le_add_right _ _, interpolation_le_end (Curve.level_le_next hlevel hused) hend⟩

end Sys2Proof.Machine
end

section
/-! PROOFS. Drop classification (chapter 7): the peak's root, the fall's height, an entry's acceptance of an event and the search of table 2. -/

namespace Sys2Proof.Machine

/-! ### The peak and the height (R136) -/

/-- The search for the root keeps it between the root found so far and that root with every untried bit set. -/
theorem rootFrom_isRoot {m k r : Nat} (hlow : r * r ≤ m) (hhigh : m < (r + 2 ^ k) * (r + 2 ^ k)) :
    rootFrom m k r * rootFrom m k r ≤ m ∧ m < (rootFrom m k r + 1) * (rootFrom m k r + 1) := by
  induction k generalizing r with
  | zero => exact ⟨hlow, hhigh⟩
  | succ k ih =>
    rw [rootFrom]
    by_cases hbit : (r + 2 ^ k) * (r + 2 ^ k) ≤ m
    · rw [if_pos hbit]
      have hrest : r + 2 ^ k + 2 ^ k = r + 2 ^ (k + 1) := by rw [pow_succ]; omega
      exact ih hbit (by rwa [hrest])
    · rw [if_neg hbit]
      exact ih hlow (Nat.lt_of_not_le hbit)

/-- Sixteen bits hold the root of every value below 2^32. -/
theorem peakOf_isRoot {m2 : Nat} (hm : m2 < 2 ^ 32) :
    peakOf m2 * peakOf m2 ≤ m2 ∧ m2 < (peakOf m2 + 1) * (peakOf m2 + 1) :=
  rootFrom_isRoot (Nat.zero_le m2) hm

/-- Three axes of at most 2^15 each give a peak of at most 56,755: the square of 56,756 passes 3 × 2^30. -/
theorem peakOf_le {m2 : Nat} (hm : m2 ≤ 3 * 2 ^ 30) : peakOf m2 ≤ 56755 := by
  obtain ⟨hroot, -⟩ := peakOf_isRoot (m2 := m2) (by omega)
  by_contra hover
  have hsquare : 56756 * 56756 ≤ peakOf m2 * peakOf m2 := Nat.mul_self_le_mul_self (by omega)
  omega

theorem heightOf_eq (n : Nat) : heightOf n = n ^ 2 * 4903 / 640000 := by rw [heightOf, sq]

theorem heightOf_mono {n k : Nat} (h : n ≤ k) : heightOf n ≤ heightOf k :=
  Nat.div_le_div_right (Nat.mul_le_mul_right _ (Nat.mul_self_le_mul_self h))

theorem heightOf_le {n : Nat} (hn : n ≤ 1023) : heightOf n ≤ 8017 :=
  (heightOf_mono hn).trans (by decide)

/-! ### What an entry accepts (sections 1.5.3 and 1.5.4, R153) -/

theorem window_natCast_iff (low high v : Nat) :
    window low high v = true ↔ high ≤ low ∨ low ≤ v ∧ v ≤ high := by
  simp only [window, Bool.or_eq_true, Bool.and_eq_true, decide_eq_true_iff, Nat.cast_le]

theorem Ternary.holds_iff (c : Ternary) (fact : Bool) :
    c.holds fact = true ↔ c = .any ∨ c = .yes ∧ fact = true ∨ c = .no ∧ ¬fact = true := by
  cases c with
  | any | yes | no => simp [Ternary.holds]

theorem ClassEntry.accepts_iff (e : ClassEntry) (h : HandOver) :
    e.accepts h = true ↔ e.valid = true ∧ window e.heightLow e.heightHigh h.height = true
      ∧ window e.peakLow e.peakHigh h.peak = true ∧ e.fall.holds (decide (0 < h.fallCount)) = true
      ∧ e.lidClosed.holds h.snapshot.lidClosed = true ∧ e.docked.holds h.snapshot.docked = true
      ∧ e.dcPresent.holds h.snapshot.dcPresent = true ∧ e.bayAOccupied.holds h.snapshot.bayAOccupied = true
      ∧ e.bayBOccupied.holds h.snapshot.bayBOccupied = true := by
  simp only [ClassEntry.accepts, Bool.and_eq_true, and_assoc]

/-! ### The search of table 2 (R153) -/

/-- Entries that do not accept the event only move the index on. -/
theorem classifyFrom_append_of_rejects {h : HandOver} {before : List ClassEntry} (rest : List ClassEntry)
    (hbefore : ∀ x ∈ before, x.accepts h = false) (i : Nat) :
    classifyFrom h i (before ++ rest) = classifyFrom h (i + before.length) rest := by
  induction before generalizing i with
  | nil => rfl
  | cons x xs ih =>
    obtain ⟨hx, hxs⟩ := List.forall_mem_cons.1 hbefore
    rw [List.cons_append, classifyFrom, if_neg (by simp [hx]), ih hxs, List.length_cons, Nat.add_right_comm, Nat.add_assoc]

theorem classify_of_first_accepts {h : HandOver} {s : State} {before after : List ClassEntry} {e : ClassEntry}
    (htable : s.ts.t2.active = before ++ e :: after) (hbefore : ∀ x ∈ before, x.accepts h = false)
    (he : e.accepts h = true) :
    classify s h = ⟨before.length, e.severity, e.log, e.preserve, e.markPacks, e.keepQuiesce⟩ := by
  rw [classify, htable, classifyFrom_append_of_rejects _ hbefore, classifyFrom, if_pos he, Nat.zero_add]

theorem classify_of_none_accepts {h : HandOver} {s : State} (hnone : ∀ e ∈ s.ts.t2.active, e.accepts h = false) :
    classify s h = ⟨255, 0, true, false, false, false⟩ := by
  rw [classify, ← List.append_nil s.ts.t2.active, classifyFrom_append_of_rejects [] hnone, classifyFrom]

/-- Settles O40: the root is searched bit by bit, and table 2 is searched past the entries that do not accept. -/
theorem eventIsMeasuredAndClassified : Obligations.EventIsMeasuredAndClassified := by
  refine ⟨⟨fun m2 hm => ?_, fun n hn => ⟨heightOf_eq n, heightOf_le hn⟩⟩,
    fun h s => ⟨fun before after e => classify_of_first_accepts, classify_of_none_accepts⟩, fun e h => ?_⟩
  · obtain ⟨hroot, hnext⟩ := peakOf_isRoot (m2 := m2) (by omega)
    exact ⟨hroot, hnext, peakOf_le hm⟩
  · simp only [ClassEntry.accepts_iff, window_natCast_iff, Ternary.holds_iff, decide_eq_true_iff]

end Sys2Proof.Machine
end

section
/-! PROOFS. One step of the companion: the effect of each command before the bus's grant and the line's choice, and how a property that every
effect keeps is kept by every step. -/

namespace Sys2Proof.Machine

/-! ### The effect of a command -/

/-- What a command does before the bus's grant and the line's choice that end its step. POWER_ON_RESET has no such end. -/
def effect : Instr → State → State
  | .powerOnReset, s => powerOn s
  | .supplySettleEnd, s => settleEnds s
  | .rawLevelChange i level, s => rawLevel i level s
  | .stabilityTimerExpiry i, s => stabilityExpired i s
  | .filterLengthChange cause, s => changeLengths cause (take (.filterLengthChange cause) s)
  | .ppcPresRising b, s => presRose b (take (.ppcPresRising b) s)
  | .ppcPresFalling b, s => presFell b (take (.ppcPresFalling b) s)
  | .ppcLatchRising b, s => latchRose b (take (.ppcLatchRising b) s)
  | .ppcLatchFalling b, s => latchFell b (take (.ppcLatchFalling b) s)
  | .ppcRelRising b, s => relRose b (take (.ppcRelRising b) s)
  | .ppcRelFalling b, s => endRefusal b (take (.ppcRelFalling b) s)
  | .bbcPresFalling b, s => segmentRemoved b (take (.bbcPresFalling b) s)
  | .blcLidEdge closed, s => recomputeHeld (updBlc (fun c => { c with lidClosed := closed }) (take (.blcLidEdge closed) s))
  | .sourceMonitorReading vdc va vb vres, s => afterSettle (monitorReading vdc va vb vres) s
  | .overlapComplete, s => overlapEnds s
  | .bridgeTargetClose, s => bridgeCloses s
  | .bridgeTimerExpiry, s => bridgeExpired s
  | .releaseHoldTimerExpiry b, s => holdExpired b s
  | .graceExpiry, s => graceExpired s
  | .releaseLapseExpiry b, s => lapseExpired b s
  | .ppcShockHoldStart, s => holdStarted (take .ppcShockHoldStart s)
  | .ppcShockHoldEnd, s => holdEnded (take .ppcShockHoldEnd s)
  | .ppcIdentificationOutcome b o, s => identificationEnded b o (take (.ppcIdentificationOutcome b o) s)
  | .ppcTelemetry b t, s => pathTelemetry b t (take (.ppcTelemetry b t) s)
  | .ccTelemetry b t, s => chargeTelemetry b t (take (.ccTelemetry b t) s)
  | .transactionEnd reply, s => transactionReply reply s
  | .transactionTimeout, s => transactionTimedOut s
  | .pollTimerExpiry b, s => pollExpired b s
  | .deferredExpiry, s => deferredExpired s
  | .budgetRecompute, s => recomputeBudget (take .budgetRecompute s)
  | .cappedEvaluation demand, s => takeDemand demand (take (.cappedEvaluation demand) s)
  | .blcPublication p swap, s =>
    recomputeTarget (updBlc (fun c => { c with publication := some (p, swap) }) (take (.blcPublication p swap) s))
  | .blcRailChange on, s => recomputeTarget (updBlc (fun c => { c with railOn := on }) (take (.blcRailChange on) s))
  | .lightSample x lux saturated, s => afterSettle (takeLight x lux saturated) s
  | .lightSensorTimeout x, s => lightSilent x s
  | .temperatureSample reading, s => afterSettle (takeTemperature reading) s
  | .temperatureSilenceTimeout, s => temperatureSilent s
  | .rampTick, s => tickRamp s
  | .accelSample x y z, s => afterSettle (acceptSample x y z) s
  | .settleTimeout, s => settleExpired s
  | .sampleSilenceTimeout, s => samplesSilent s
  | .clockAdvance, s => advanceClock s
  | .table0SwapDelivery block changed, s => takeParams block changed (take (.table0SwapDelivery block changed) s)
  | .table3SwapDelivery block, s => takeProfiles block (take (.table3SwapDelivery block) s)
  | .upstreamLineFree, s => lineFree s
  | .linkSilenceTimeout, s => silenceBegins s
  | .frameDiscarded candidate, s => afterSettle (discardCandidate candidate) (take (.frameDiscarded candidate) s)
  | .managementReset, s => managementReset (take .managementReset s)
  | .shortPayloadRequest payload, s => afterSettle acceptFrame (take (.shortPayloadRequest payload) s)
  | .unknownRequest tag code args, s =>
    handleRequest tag code (answer .unknownRequest []) (take (.unknownRequest tag code args) s)
  | .identify tag args, s => handleRequest tag 0x01 (identifyAnswer args) (take (.identify tag args) s)
  | .stateRead tag args, s => handleRequest tag 0x02 (stateReadAnswer args) (take (.stateRead tag args) s)
  | .companionReset tag args, s => handleRequest tag 0x03 (companionResetAnswer args) (take (.companionReset tag args) s)
  | .tableWrite tag args, s => handleRequest tag 0x10 (tableWriteAnswer args) (take (.tableWrite tag args) s)
  | .tableApply tag args, s => handleRequest tag 0x11 (tableApplyAnswer args) (take (.tableApply tag args) s)
  | .tableDiscard tag args, s => handleRequest tag 0x12 (tableDiscardAnswer args) (take (.tableDiscard tag args) s)
  | .tableRead tag args, s => handleRequest tag 0x13 (tableReadAnswer args) (take (.tableRead tag args) s)
  | .packRead tag args, s => handleRequest tag 0x20 (packReadAnswer args) (take (.packRead tag args) s)
  | .packWrite tag args, s => handleRequest tag 0x21 (packWriteAnswer args) (take (.packWrite tag args) s)
  | .bayRelease tag args, s => handleRequest tag 0x22 (bayReleaseAnswer args) (take (.bayRelease tag args) s)
  | .rail tag args, s => handleRequest tag 0x23 (railAnswer args) (take (.rail tag args) s)
  | .overridePush tag args, s => handleRequest tag 0x30 (overridePushAnswer args) (take (.overridePush tag args) s)
  | .overridePop tag args, s => handleRequest tag 0x31 (overridePopAnswer args) (take (.overridePop tag args) s)
  | .offsetSet tag args, s => handleRequest tag 0x32 (offsetSetAnswer args) (take (.offsetSet tag args) s)
  | .shockArm tag args, s => handleRequest tag 0x40 (shockArmAnswer args) (take (.shockArm tag args) s)
  | .shockDisarm tag args, s => handleRequest tag 0x41 (shockDisarmAnswer args) (take (.shockDisarm tag args) s)
  | .quiesceRelease tag args, s => handleRequest tag 0x42 (quiesceReleaseAnswer args) (take (.quiesceRelease tag args) s)
  | .logRead tag args, s => handleRequest tag 0x50 (logReadAnswer args) (take (.logRead tag args) s)
  | .logClear tag args, s => handleRequest tag 0x51 (logClearAnswer args) (take (.logClear tag args) s)
  | .logClearAll tag args, s => handleRequest tag 0x52 (logClearAllAnswer args) (take (.logClearAll tag args) s)
  | .logLock tag args, s => handleRequest tag 0x53 (logLockAnswer args) (take (.logLock tag args) s)
  | .timeSet tag args, s => handleRequest tag 0x54 (timeSetAnswer args) (take (.timeSet tag args) s)
  | .packMemoryRead tag args, s => handleRequest tag 0x60 (packMemoryReadAnswer args) (take (.packMemoryRead tag args) s)
  | .packForget tag args, s => handleRequest tag 0x61 (packForgetAnswer args) (take (.packForget tag args) s)
  | .packClearShock tag args, s => handleRequest tag 0x62 (packClearShockAnswer args) (take (.packClearShock tag args) s)

/-- Every command but POWER_ON_RESET is its effect and then the bus's grant and the line's choice. -/
theorem exec_effect {i : Instr} (h : i ≠ .powerOnReset) (s : State) : exec i s = .next (finish (effect i s)) := by
  cases i
  case powerOnReset => exact absurd rfl h
  all_goals rfl

theorem exec_powerOnReset (s : State) : exec .powerOnReset s = .next (powerOn s) := rfl

/-- Settles O1: the queue's front is the first case of the step. -/
theorem stepRunsFrontCommand : Obligations.StepRunsFrontCommand := fun _ _ _ => rfl

/-- Settles O2: every command has an effect, so none ends in a fault or a refusal. -/
theorem everyCommandCompletes : Obligations.EveryCommandCompletes := by
  intro i s
  by_cases h : i = .powerOnReset
  · exact ⟨powerOn s, h ▸ exec_powerOnReset s⟩
  · exact ⟨finish (effect i s), exec_effect h s⟩

/-! ### The state a step may leave -/

/-- A step is a tick, or a command on a state that differs in its queue of commands at most. -/
theorem step_cases {s t : State} (h : step s = .next t) :
    t = tick s ∨ ∃ i q, exec i { s with pending := q } = .next t := by
  unfold step at h
  split at h
  · exact .inr ⟨_, _, h⟩
  · unfold idleStep at h
    split at h
    · exact .inr ⟨_, s.pending, h⟩
    · split at h
      · exact .inr ⟨_, s.pending, h⟩
      · cases h
        exact .inl rfl

/-- A command other than a reset leaves its effect, finished. -/
theorem exec_cases {i : Instr} {s t : State} (h : exec i s = .next t) :
    (i = .powerOnReset ∧ t = powerOn s) ∨ (i ≠ .powerOnReset ∧ t = finish (effect i s)) := by
  by_cases hi : i = .powerOnReset
  · subst hi
    cases h
    exact .inl ⟨rfl, rfl⟩
  · rw [exec_effect hi] at h
    cases h
    exact .inr ⟨hi, rfl⟩

/-- What the link does with a request (R183): nothing in the settle interval; with a reset pending, or 8 responses waiting, a valid frame
that is discarded; otherwise the owner's answer, whose response joins the queue. -/
theorem handleRequest_cases (tag code : Byte) (owner : State → Answer) (s : State) :
    handleRequest tag code owner s = s ∨ handleRequest tag code owner s = acceptFrame s
      ∨ handleRequest tag code owner s = { acceptFrame s with lu := { (acceptFrame s).lu with overrun := true } }
      ∨ (LinkOpen s ∧ handleRequest tag code owner s =
          respond tag code (owner (acceptFrame s)).status (owner (acceptFrame s)).results (owner (acceptFrame s)).state) := by
  rcases h : s.settling with _ | e
  · rcases hr : s.lu.resetPending with _ | _
    · by_cases hf : 8 ≤ s.lu.responses.length
      · exact .inr (.inr (.inl (handleRequest_full h hr hf tag code owner)))
      · have ho : LinkOpen s := ⟨h, hr, not_le.1 hf⟩
        exact .inr (.inr (.inr ⟨ho, handleRequest_open ho tag code owner⟩))
    · exact .inr (.inl (handleRequest_pending h hr tag code owner))
  · exact .inl (handleRequest_settling (by simp [h]) tag code owner)

/-! ### What the owners' answers leave of the link -/

/-- The parts of the Link Unit that no owner of a request changes. -/
def LinkSame (s u : State) : Prop :=
  u.lu.receiver = s.lu.receiver ∧ u.lu.responses = s.lu.responses ∧ u.lu.overrun = s.lu.overrun ∧ u.lu.line = s.lu.line
    ∧ u.lu.silenceTimer = s.lu.silenceTimer ∧ u.lu.silence = s.lu.silence

theorem linkSame_refl (s : State) : LinkSame s s := ⟨rfl, rfl, rfl, rfl, rfl, rfl⟩

theorem companionResetAnswer_link (args : List Byte) (s : State) : LinkSame s (companionResetAnswer args s).state := by
  unfold companionResetAnswer
  split <;> exact linkSame_refl s

theorem stateReadAnswer_link (args : List Byte) (s : State) : LinkSame s (stateReadAnswer args s).state := by
  unfold stateReadAnswer
  repeat' split
  all_goals exact linkSame_refl s

/-! The tables. -/

theorem tableWriteAnswer_link (args : List Byte) (s : State) : LinkSame s (tableWriteAnswer args s).state := by
  unfold tableWriteAnswer writeEntry
  repeat' split
  all_goals exact linkSame_refl s

theorem tableApplyAnswer_link (args : List Byte) (s : State) : LinkSame s (tableApplyAnswer args s).state := by
  unfold tableApplyAnswer applyTable
  repeat' split
  all_goals simp [LinkSame, answer, badLength]

theorem tableDiscardAnswer_link (args : List Byte) (s : State) : LinkSame s (tableDiscardAnswer args s).state := by
  unfold tableDiscardAnswer discardTable
  repeat' split
  all_goals exact linkSame_refl s

theorem tableReadAnswer_link (args : List Byte) (s : State) : LinkSame s (tableReadAnswer args s).state := by
  unfold tableReadAnswer readTable
  repeat' split
  all_goals exact linkSame_refl s

/-! The bay bus and the power path. -/

theorem packReadAnswer_link (args : List Byte) (s : State) : LinkSame s (packReadAnswer args s).state := by
  unfold packReadAnswer readRequest
  repeat' split
  all_goals exact linkSame_refl s

theorem packWriteAnswer_link (args : List Byte) (s : State) : LinkSame s (packWriteAnswer args s).state := by
  unfold packWriteAnswer writeRequest
  repeat' split
  all_goals exact linkSame_refl s

theorem bayReleaseAnswer_link (args : List Byte) (s : State) : LinkSame s (bayReleaseAnswer args s).state := by
  unfold bayReleaseAnswer
  repeat' split
  all_goals simp [LinkSame, answer, badLength]

theorem railAnswer_link (args : List Byte) (s : State) : LinkSame s (railAnswer args s).state := by
  unfold railAnswer railOffRequest railOn
  repeat' split
  all_goals simp [LinkSame, answer, badLength]

/-! The backlight and the shock monitor. -/

theorem overridePushAnswer_link (args : List Byte) (s : State) : LinkSame s (overridePushAnswer args s).state := by
  unfold overridePushAnswer pushLevel
  repeat' split
  all_goals simp [LinkSame, answer, badLength]

theorem overridePopAnswer_link (args : List Byte) (s : State) : LinkSame s (overridePopAnswer args s).state := by
  unfold overridePopAnswer popLevel
  repeat' split
  all_goals simp [LinkSame, answer, badLength]

theorem offsetSetAnswer_link (args : List Byte) (s : State) : LinkSame s (offsetSetAnswer args s).state := by
  unfold offsetSetAnswer setOffset
  split <;> simp [LinkSame, answer, badLength]

@[simp] theorem armMonitor_link (s : State) : LinkSame s (armMonitor s) := by
  simp only [armMonitor]
  split <;> simp [LinkSame]

theorem shockArmAnswer_link (args : List Byte) (s : State) : LinkSame s (shockArmAnswer args s).state := by
  unfold shockArmAnswer
  repeat' split
  · exact armMonitor_link s
  all_goals exact linkSame_refl s

theorem shockDisarmAnswer_link (args : List Byte) (s : State) : LinkSame s (shockDisarmAnswer args s).state := by
  unfold shockDisarmAnswer disarmMonitor
  repeat' split
  all_goals simp [LinkSame, answer, badLength]

theorem quiesceReleaseAnswer_link (args : List Byte) (s : State) : LinkSame s (quiesceReleaseAnswer args s).state := by
  unfold quiesceReleaseAnswer releaseQuiesce
  repeat' split
  all_goals exact linkSame_refl s

/-! The drop log and the pack memory. -/

theorem logReadAnswer_link (args : List Byte) (s : State) : LinkSame s (logReadAnswer args s).state := by
  unfold logReadAnswer
  repeat' split
  all_goals exact linkSame_refl s

theorem logClearAnswer_link (args : List Byte) (s : State) : LinkSame s (logClearAnswer args s).state := by
  unfold logClearAnswer
  split <;> exact linkSame_refl s

theorem logClearAllAnswer_link (args : List Byte) (s : State) : LinkSame s (logClearAllAnswer args s).state := by
  unfold logClearAllAnswer
  repeat' split
  all_goals exact linkSame_refl s

theorem logLockAnswer_link (args : List Byte) (s : State) : LinkSame s (logLockAnswer args s).state := by
  unfold logLockAnswer
  repeat' split
  all_goals exact linkSame_refl s

theorem timeSetAnswer_link (args : List Byte) (s : State) : LinkSame s (timeSetAnswer args s).state := by
  unfold timeSetAnswer
  split <;> exact linkSame_refl s

theorem packMemoryReadAnswer_link (args : List Byte) (s : State) : LinkSame s (packMemoryReadAnswer args s).state := by
  unfold packMemoryReadAnswer
  repeat' split
  all_goals exact linkSame_refl s

theorem packForgetAnswer_link (args : List Byte) (s : State) : LinkSame s (packForgetAnswer args s).state := by
  unfold packForgetAnswer forgetPack
  repeat' split
  all_goals exact linkSame_refl s

theorem packClearShockAnswer_link (args : List Byte) (s : State) : LinkSame s (packClearShockAnswer args s).state := by
  unfold packClearShockAnswer clearShock
  repeat' split
  all_goals simp [LinkSame, answer, badLength]

/-- The answer of each code's owner. -/
theorem ownerOf_link (code : Nat) (args : List Byte) (s : State) : LinkSame s (ownerOf code args s).state := by
  unfold ownerOf
  split
  · unfold identifyAnswer
    split <;> exact linkSame_refl s
  · exact stateReadAnswer_link args s
  · exact companionResetAnswer_link args s
  · exact tableWriteAnswer_link args s
  · exact tableApplyAnswer_link args s
  · exact tableDiscardAnswer_link args s
  · exact tableReadAnswer_link args s
  · exact packReadAnswer_link args s
  · exact packWriteAnswer_link args s
  · exact bayReleaseAnswer_link args s
  · exact railAnswer_link args s
  · exact overridePushAnswer_link args s
  · exact overridePopAnswer_link args s
  · exact offsetSetAnswer_link args s
  · exact shockArmAnswer_link args s
  · exact shockDisarmAnswer_link args s
  · exact quiesceReleaseAnswer_link args s
  · exact logReadAnswer_link args s
  · exact logClearAnswer_link args s
  · exact logClearAllAnswer_link args s
  · exact logLockAnswer_link args s
  · exact timeSetAnswer_link args s
  · exact packMemoryReadAnswer_link args s
  · exact packForgetAnswer_link args s
  · exact packClearShockAnswer_link args s
  · exact linkSame_refl s

/-! ### What the owners' answers leave of the blocks -/

/-! The Link Unit's own answers and the reads. -/

@[simp] theorem identifyAnswer_state (args : List Byte) (s : State) : (identifyAnswer args s).state = s := by
  unfold identifyAnswer
  repeat' split
  all_goals rfl

@[simp] theorem stateReadAnswer_state (args : List Byte) (s : State) : (stateReadAnswer args s).state = s := by
  unfold stateReadAnswer
  repeat' split
  all_goals rfl

@[simp] theorem tableReadAnswer_state (args : List Byte) (s : State) : (tableReadAnswer args s).state = s := by
  unfold tableReadAnswer readTable
  repeat' split
  all_goals rfl

@[simp] theorem logReadAnswer_state (args : List Byte) (s : State) : (logReadAnswer args s).state = s := by
  unfold logReadAnswer
  repeat' split
  all_goals rfl

@[simp] theorem packMemoryReadAnswer_state (args : List Byte) (s : State) : (packMemoryReadAnswer args s).state = s := by
  unfold packMemoryReadAnswer
  repeat' split
  all_goals rfl

@[simp] theorem companionResetAnswer_frame (args : List Byte) (s : State) :
    (companionResetAnswer args s).state.settling = s.settling ∧ (companionResetAnswer args s).state.icu = s.icu
      ∧ (companionResetAnswer args s).state.ppc = s.ppc ∧ (companionResetAnswer args s).state.bbc = s.bbc
      ∧ (companionResetAnswer args s).state.cc = s.cc ∧ (companionResetAnswer args s).state.bu = s.bu
      ∧ (companionResetAnswer args s).state.blc = s.blc ∧ (companionResetAnswer args s).state.shm = s.shm
      ∧ (companionResetAnswer args s).state.dl = s.dl ∧ (companionResetAnswer args s).state.ts = s.ts
      ∧ (companionResetAnswer args s).state.delivered = s.delivered ∧ (companionResetAnswer args s).state.freeIndex = s.freeIndex
      ∧ (companionResetAnswer args s).state.pending = s.pending := by
  unfold companionResetAnswer
  repeat' split
  all_goals simp [answer, badLength]

/-! The tables. -/

@[simp] theorem tableWriteAnswer_frame (args : List Byte) (s : State) :
    (tableWriteAnswer args s).state.settling = s.settling ∧ (tableWriteAnswer args s).state.icu = s.icu
      ∧ (tableWriteAnswer args s).state.ppc = s.ppc ∧ (tableWriteAnswer args s).state.bbc = s.bbc
      ∧ (tableWriteAnswer args s).state.cc = s.cc ∧ (tableWriteAnswer args s).state.bu = s.bu
      ∧ (tableWriteAnswer args s).state.blc = s.blc ∧ (tableWriteAnswer args s).state.shm = s.shm
      ∧ (tableWriteAnswer args s).state.dl = s.dl ∧ (tableWriteAnswer args s).state.lu = s.lu
      ∧ (tableWriteAnswer args s).state.delivered = s.delivered ∧ (tableWriteAnswer args s).state.freeIndex = s.freeIndex
      ∧ (tableWriteAnswer args s).state.pending = s.pending := by
  unfold tableWriteAnswer writeEntry
  repeat' split
  all_goals simp [answer, badLength]

@[simp] theorem tableApplyAnswer_frame (args : List Byte) (s : State) :
    (tableApplyAnswer args s).state.settling = s.settling ∧ (tableApplyAnswer args s).state.icu = s.icu
      ∧ (tableApplyAnswer args s).state.ppc = s.ppc ∧ (tableApplyAnswer args s).state.bbc = s.bbc
      ∧ (tableApplyAnswer args s).state.cc = s.cc ∧ (tableApplyAnswer args s).state.bu = s.bu
      ∧ (tableApplyAnswer args s).state.blc = s.blc ∧ (tableApplyAnswer args s).state.shm = s.shm
      ∧ (tableApplyAnswer args s).state.dl = s.dl ∧ (tableApplyAnswer args s).state.freeIndex = s.freeIndex
      ∧ (tableApplyAnswer args s).state.pending = s.pending := by
  unfold tableApplyAnswer applyTable
  repeat' split
  all_goals simp [answer, badLength]

@[simp] theorem tableDiscardAnswer_frame (args : List Byte) (s : State) :
    (tableDiscardAnswer args s).state.settling = s.settling ∧ (tableDiscardAnswer args s).state.icu = s.icu
      ∧ (tableDiscardAnswer args s).state.ppc = s.ppc ∧ (tableDiscardAnswer args s).state.bbc = s.bbc
      ∧ (tableDiscardAnswer args s).state.cc = s.cc ∧ (tableDiscardAnswer args s).state.bu = s.bu
      ∧ (tableDiscardAnswer args s).state.blc = s.blc ∧ (tableDiscardAnswer args s).state.shm = s.shm
      ∧ (tableDiscardAnswer args s).state.dl = s.dl ∧ (tableDiscardAnswer args s).state.lu = s.lu
      ∧ (tableDiscardAnswer args s).state.delivered = s.delivered ∧ (tableDiscardAnswer args s).state.freeIndex = s.freeIndex
      ∧ (tableDiscardAnswer args s).state.pending = s.pending := by
  unfold tableDiscardAnswer discardTable
  repeat' split
  all_goals simp [answer, badLength]

/-! The bay bus and the power path. -/

@[simp] theorem packReadAnswer_frame (args : List Byte) (s : State) :
    (packReadAnswer args s).state.settling = s.settling ∧ (packReadAnswer args s).state.icu = s.icu
      ∧ (packReadAnswer args s).state.ppc = s.ppc ∧ (packReadAnswer args s).state.cc = s.cc ∧ (packReadAnswer args s).state.bu = s.bu
      ∧ (packReadAnswer args s).state.blc = s.blc ∧ (packReadAnswer args s).state.shm = s.shm ∧ (packReadAnswer args s).state.dl = s.dl
      ∧ (packReadAnswer args s).state.ts = s.ts ∧ (packReadAnswer args s).state.lu = s.lu
      ∧ (packReadAnswer args s).state.delivered = s.delivered ∧ (packReadAnswer args s).state.freeIndex = s.freeIndex
      ∧ (packReadAnswer args s).state.pending = s.pending := by
  unfold packReadAnswer readRequest
  repeat' split
  all_goals simp [answer, badLength, setDeferred]

@[simp] theorem packWriteAnswer_frame (args : List Byte) (s : State) :
    (packWriteAnswer args s).state.settling = s.settling ∧ (packWriteAnswer args s).state.icu = s.icu
      ∧ (packWriteAnswer args s).state.ppc = s.ppc ∧ (packWriteAnswer args s).state.cc = s.cc ∧ (packWriteAnswer args s).state.bu = s.bu
      ∧ (packWriteAnswer args s).state.blc = s.blc ∧ (packWriteAnswer args s).state.shm = s.shm
      ∧ (packWriteAnswer args s).state.dl = s.dl ∧ (packWriteAnswer args s).state.ts = s.ts ∧ (packWriteAnswer args s).state.lu = s.lu
      ∧ (packWriteAnswer args s).state.delivered = s.delivered ∧ (packWriteAnswer args s).state.freeIndex = s.freeIndex
      ∧ (packWriteAnswer args s).state.pending = s.pending := by
  unfold packWriteAnswer writeRequest
  repeat' split
  all_goals simp [answer, badLength]

@[simp] theorem bayReleaseAnswer_frame (args : List Byte) (s : State) :
    (bayReleaseAnswer args s).state.settling = s.settling ∧ (bayReleaseAnswer args s).state.icu = s.icu
      ∧ (bayReleaseAnswer args s).state.bu = s.bu ∧ (bayReleaseAnswer args s).state.blc = s.blc
      ∧ (bayReleaseAnswer args s).state.shm = s.shm ∧ (bayReleaseAnswer args s).state.dl = s.dl
      ∧ (bayReleaseAnswer args s).state.ts = s.ts ∧ (bayReleaseAnswer args s).state.pending = s.pending := by
  unfold bayReleaseAnswer
  repeat' split
  all_goals simp [answer, badLength]

@[simp] theorem railAnswer_frame (args : List Byte) (s : State) :
    (railAnswer args s).state.settling = s.settling ∧ (railAnswer args s).state.icu = s.icu ∧ (railAnswer args s).state.bu = s.bu
      ∧ (railAnswer args s).state.blc = s.blc ∧ (railAnswer args s).state.shm = s.shm ∧ (railAnswer args s).state.dl = s.dl
      ∧ (railAnswer args s).state.ts = s.ts ∧ (railAnswer args s).state.pending = s.pending := by
  unfold railAnswer railOffRequest railOn
  repeat' split
  all_goals simp [answer, badLength]

/-! The backlight and the shock monitor. -/

@[simp] theorem overridePushAnswer_frame (args : List Byte) (s : State) :
    (overridePushAnswer args s).state.settling = s.settling ∧ (overridePushAnswer args s).state.icu = s.icu
      ∧ (overridePushAnswer args s).state.ppc = s.ppc ∧ (overridePushAnswer args s).state.bbc = s.bbc
      ∧ (overridePushAnswer args s).state.cc = s.cc ∧ (overridePushAnswer args s).state.bu = s.bu
      ∧ (overridePushAnswer args s).state.shm = s.shm ∧ (overridePushAnswer args s).state.dl = s.dl
      ∧ (overridePushAnswer args s).state.ts = s.ts ∧ (overridePushAnswer args s).state.lu = s.lu
      ∧ (overridePushAnswer args s).state.freeIndex = s.freeIndex ∧ (overridePushAnswer args s).state.pending = s.pending := by
  unfold overridePushAnswer pushLevel
  repeat' split
  all_goals simp [answer, badLength]

@[simp] theorem overridePopAnswer_frame (args : List Byte) (s : State) :
    (overridePopAnswer args s).state.settling = s.settling ∧ (overridePopAnswer args s).state.icu = s.icu
      ∧ (overridePopAnswer args s).state.ppc = s.ppc ∧ (overridePopAnswer args s).state.bbc = s.bbc
      ∧ (overridePopAnswer args s).state.cc = s.cc ∧ (overridePopAnswer args s).state.bu = s.bu
      ∧ (overridePopAnswer args s).state.shm = s.shm ∧ (overridePopAnswer args s).state.dl = s.dl
      ∧ (overridePopAnswer args s).state.ts = s.ts ∧ (overridePopAnswer args s).state.lu = s.lu
      ∧ (overridePopAnswer args s).state.freeIndex = s.freeIndex ∧ (overridePopAnswer args s).state.pending = s.pending := by
  unfold overridePopAnswer popLevel
  repeat' split
  all_goals simp [answer, badLength]

@[simp] theorem offsetSetAnswer_frame (args : List Byte) (s : State) :
    (offsetSetAnswer args s).state.settling = s.settling ∧ (offsetSetAnswer args s).state.icu = s.icu
      ∧ (offsetSetAnswer args s).state.ppc = s.ppc ∧ (offsetSetAnswer args s).state.bbc = s.bbc
      ∧ (offsetSetAnswer args s).state.cc = s.cc ∧ (offsetSetAnswer args s).state.bu = s.bu ∧ (offsetSetAnswer args s).state.shm = s.shm
      ∧ (offsetSetAnswer args s).state.dl = s.dl ∧ (offsetSetAnswer args s).state.ts = s.ts ∧ (offsetSetAnswer args s).state.lu = s.lu
      ∧ (offsetSetAnswer args s).state.freeIndex = s.freeIndex ∧ (offsetSetAnswer args s).state.pending = s.pending := by
  unfold offsetSetAnswer setOffset
  repeat' split
  all_goals simp [answer, badLength]

@[simp] theorem armMonitor_frame (s : State) :
    (armMonitor s).settling = s.settling ∧ (armMonitor s).icu = s.icu
      ∧ (armMonitor s).ppc = s.ppc ∧ (armMonitor s).bbc = s.bbc ∧ (armMonitor s).cc = s.cc
      ∧ (armMonitor s).bu = s.bu ∧ (armMonitor s).blc = s.blc ∧ (armMonitor s).dl = s.dl
      ∧ (armMonitor s).freeIndex = s.freeIndex ∧ (armMonitor s).pending = s.pending := by
  simp only [armMonitor]
  split <;> simp

@[simp] theorem shockArmAnswer_frame (args : List Byte) (s : State) :
    (shockArmAnswer args s).state.settling = s.settling ∧ (shockArmAnswer args s).state.icu = s.icu
      ∧ (shockArmAnswer args s).state.ppc = s.ppc ∧ (shockArmAnswer args s).state.bbc = s.bbc ∧ (shockArmAnswer args s).state.cc = s.cc
      ∧ (shockArmAnswer args s).state.bu = s.bu ∧ (shockArmAnswer args s).state.blc = s.blc ∧ (shockArmAnswer args s).state.dl = s.dl
      ∧ (shockArmAnswer args s).state.freeIndex = s.freeIndex ∧ (shockArmAnswer args s).state.pending = s.pending := by
  unfold shockArmAnswer
  repeat' split
  all_goals simp [answer, badLength]

@[simp] theorem shockDisarmAnswer_frame (args : List Byte) (s : State) :
    (shockDisarmAnswer args s).state.settling = s.settling ∧ (shockDisarmAnswer args s).state.icu = s.icu
      ∧ (shockDisarmAnswer args s).state.ppc = s.ppc ∧ (shockDisarmAnswer args s).state.bbc = s.bbc
      ∧ (shockDisarmAnswer args s).state.cc = s.cc ∧ (shockDisarmAnswer args s).state.bu = s.bu
      ∧ (shockDisarmAnswer args s).state.blc = s.blc ∧ (shockDisarmAnswer args s).state.dl = s.dl
      ∧ (shockDisarmAnswer args s).state.freeIndex = s.freeIndex ∧ (shockDisarmAnswer args s).state.pending = s.pending := by
  unfold shockDisarmAnswer disarmMonitor
  repeat' split
  all_goals simp [answer, badLength]

@[simp] theorem quiesceReleaseAnswer_frame (args : List Byte) (s : State) :
    (quiesceReleaseAnswer args s).state.settling = s.settling ∧ (quiesceReleaseAnswer args s).state.icu = s.icu
      ∧ (quiesceReleaseAnswer args s).state.ppc = s.ppc ∧ (quiesceReleaseAnswer args s).state.bbc = s.bbc
      ∧ (quiesceReleaseAnswer args s).state.cc = s.cc ∧ (quiesceReleaseAnswer args s).state.bu = s.bu
      ∧ (quiesceReleaseAnswer args s).state.blc = s.blc ∧ (quiesceReleaseAnswer args s).state.dl = s.dl
      ∧ (quiesceReleaseAnswer args s).state.ts = s.ts ∧ (quiesceReleaseAnswer args s).state.lu = s.lu
      ∧ (quiesceReleaseAnswer args s).state.delivered = s.delivered ∧ (quiesceReleaseAnswer args s).state.freeIndex = s.freeIndex
      ∧ (quiesceReleaseAnswer args s).state.pending = s.pending := by
  unfold quiesceReleaseAnswer releaseQuiesce
  repeat' split
  all_goals simp [answer, badLength]

/-! The drop log and the pack memory. -/

@[simp] theorem logClearAnswer_frame (args : List Byte) (s : State) :
    (logClearAnswer args s).state.settling = s.settling ∧ (logClearAnswer args s).state.icu = s.icu
      ∧ (logClearAnswer args s).state.ppc = s.ppc ∧ (logClearAnswer args s).state.bbc = s.bbc ∧ (logClearAnswer args s).state.cc = s.cc
      ∧ (logClearAnswer args s).state.bu = s.bu ∧ (logClearAnswer args s).state.blc = s.blc ∧ (logClearAnswer args s).state.shm = s.shm
      ∧ (logClearAnswer args s).state.ts = s.ts ∧ (logClearAnswer args s).state.lu = s.lu
      ∧ (logClearAnswer args s).state.delivered = s.delivered ∧ (logClearAnswer args s).state.freeIndex = s.freeIndex
      ∧ (logClearAnswer args s).state.pending = s.pending := by
  unfold logClearAnswer clearLog
  repeat' split
  all_goals simp [answer, badLength]

@[simp] theorem logClearAllAnswer_frame (args : List Byte) (s : State) :
    (logClearAllAnswer args s).state.settling = s.settling ∧ (logClearAllAnswer args s).state.icu = s.icu
      ∧ (logClearAllAnswer args s).state.ppc = s.ppc ∧ (logClearAllAnswer args s).state.bbc = s.bbc
      ∧ (logClearAllAnswer args s).state.cc = s.cc ∧ (logClearAllAnswer args s).state.bu = s.bu
      ∧ (logClearAllAnswer args s).state.blc = s.blc ∧ (logClearAllAnswer args s).state.shm = s.shm
      ∧ (logClearAllAnswer args s).state.ts = s.ts ∧ (logClearAllAnswer args s).state.lu = s.lu
      ∧ (logClearAllAnswer args s).state.delivered = s.delivered ∧ (logClearAllAnswer args s).state.freeIndex = s.freeIndex
      ∧ (logClearAllAnswer args s).state.pending = s.pending := by
  unfold logClearAllAnswer
  repeat' split
  all_goals simp [answer, badLength]

@[simp] theorem logLockAnswer_frame (args : List Byte) (s : State) :
    (logLockAnswer args s).state.settling = s.settling ∧ (logLockAnswer args s).state.icu = s.icu
      ∧ (logLockAnswer args s).state.ppc = s.ppc ∧ (logLockAnswer args s).state.bbc = s.bbc ∧ (logLockAnswer args s).state.cc = s.cc
      ∧ (logLockAnswer args s).state.bu = s.bu ∧ (logLockAnswer args s).state.blc = s.blc ∧ (logLockAnswer args s).state.shm = s.shm
      ∧ (logLockAnswer args s).state.ts = s.ts ∧ (logLockAnswer args s).state.lu = s.lu
      ∧ (logLockAnswer args s).state.delivered = s.delivered ∧ (logLockAnswer args s).state.freeIndex = s.freeIndex
      ∧ (logLockAnswer args s).state.pending = s.pending := by
  unfold logLockAnswer
  repeat' split
  all_goals simp [answer, badLength]

@[simp] theorem timeSetAnswer_frame (args : List Byte) (s : State) :
    (timeSetAnswer args s).state.settling = s.settling ∧ (timeSetAnswer args s).state.icu = s.icu
      ∧ (timeSetAnswer args s).state.ppc = s.ppc ∧ (timeSetAnswer args s).state.bbc = s.bbc ∧ (timeSetAnswer args s).state.cc = s.cc
      ∧ (timeSetAnswer args s).state.bu = s.bu ∧ (timeSetAnswer args s).state.blc = s.blc ∧ (timeSetAnswer args s).state.shm = s.shm
      ∧ (timeSetAnswer args s).state.ts = s.ts ∧ (timeSetAnswer args s).state.lu = s.lu
      ∧ (timeSetAnswer args s).state.delivered = s.delivered ∧ (timeSetAnswer args s).state.freeIndex = s.freeIndex
      ∧ (timeSetAnswer args s).state.pending = s.pending := by
  unfold timeSetAnswer
  repeat' split
  all_goals simp [answer, badLength]

@[simp] theorem packForgetAnswer_frame (args : List Byte) (s : State) :
    (packForgetAnswer args s).state.settling = s.settling ∧ (packForgetAnswer args s).state.icu = s.icu
      ∧ (packForgetAnswer args s).state.ppc = s.ppc ∧ (packForgetAnswer args s).state.bbc = s.bbc
      ∧ (packForgetAnswer args s).state.bu = s.bu ∧ (packForgetAnswer args s).state.blc = s.blc
      ∧ (packForgetAnswer args s).state.shm = s.shm ∧ (packForgetAnswer args s).state.dl = s.dl
      ∧ (packForgetAnswer args s).state.ts = s.ts ∧ (packForgetAnswer args s).state.lu = s.lu
      ∧ (packForgetAnswer args s).state.delivered = s.delivered ∧ (packForgetAnswer args s).state.freeIndex = s.freeIndex
      ∧ (packForgetAnswer args s).state.pending = s.pending := by
  unfold packForgetAnswer forgetPack
  repeat' split
  all_goals simp [answer, badLength]

@[simp] theorem packClearShockAnswer_frame (args : List Byte) (s : State) :
    (packClearShockAnswer args s).state.settling = s.settling ∧ (packClearShockAnswer args s).state.icu = s.icu
      ∧ (packClearShockAnswer args s).state.ppc = s.ppc ∧ (packClearShockAnswer args s).state.bu = s.bu
      ∧ (packClearShockAnswer args s).state.blc = s.blc ∧ (packClearShockAnswer args s).state.shm = s.shm
      ∧ (packClearShockAnswer args s).state.dl = s.dl ∧ (packClearShockAnswer args s).state.ts = s.ts
      ∧ (packClearShockAnswer args s).state.lu = s.lu ∧ (packClearShockAnswer args s).state.delivered = s.delivered
      ∧ (packClearShockAnswer args s).state.freeIndex = s.freeIndex ∧ (packClearShockAnswer args s).state.pending = s.pending := by
  unfold packClearShockAnswer clearShock
  repeat' split
  all_goals simp [answer, badLength]

/-! ### What the commands between blocks leave unchanged -/

/-! The inputs, the link and the two silences. -/

@[simp] theorem rawLevel_frame (i : Input) (level : Bool) (s : State) :
    (rawLevel i level s).settling = s.settling ∧ (rawLevel i level s).ppc = s.ppc ∧ (rawLevel i level s).bbc = s.bbc
      ∧ (rawLevel i level s).cc = s.cc ∧ (rawLevel i level s).bu = s.bu ∧ (rawLevel i level s).blc = s.blc
      ∧ (rawLevel i level s).shm = s.shm ∧ (rawLevel i level s).dl = s.dl ∧ (rawLevel i level s).ts = s.ts
      ∧ (rawLevel i level s).lu = s.lu ∧ (rawLevel i level s).delivered = s.delivered ∧ (rawLevel i level s).freeIndex = s.freeIndex
      ∧ (rawLevel i level s).pending = s.pending := by
  simp only [rawLevel]
  repeat' split
  all_goals simp

@[simp] theorem stabilityExpired_frame (i : Input) (s : State) :
    (stabilityExpired i s).settling = s.settling ∧ (stabilityExpired i s).ppc = s.ppc ∧ (stabilityExpired i s).bbc = s.bbc
      ∧ (stabilityExpired i s).cc = s.cc ∧ (stabilityExpired i s).bu = s.bu ∧ (stabilityExpired i s).blc = s.blc
      ∧ (stabilityExpired i s).shm = s.shm ∧ (stabilityExpired i s).dl = s.dl ∧ (stabilityExpired i s).ts = s.ts
      ∧ (stabilityExpired i s).lu = s.lu ∧ (stabilityExpired i s).freeIndex = s.freeIndex ∧ (stabilityExpired i s).pending = s.pending := by
  simp only [stabilityExpired]
  repeat' split
  all_goals simp

@[simp] theorem lineFree_frame (s : State) :
    (lineFree s).settling = s.settling ∧ (lineFree s).icu = s.icu ∧ (lineFree s).ppc = s.ppc ∧ (lineFree s).bbc = s.bbc
      ∧ (lineFree s).cc = s.cc ∧ (lineFree s).bu = s.bu ∧ (lineFree s).blc = s.blc ∧ (lineFree s).shm = s.shm ∧ (lineFree s).dl = s.dl
      ∧ (lineFree s).ts = s.ts ∧ (lineFree s).freeIndex = s.freeIndex ∧ (lineFree s).pending = s.pending := by
  simp only [lineFree]
  repeat' split
  all_goals simp

@[simp] theorem silenceBegins_frame (s : State) :
    (silenceBegins s).settling = s.settling ∧ (silenceBegins s).icu = s.icu ∧ (silenceBegins s).ppc = s.ppc
      ∧ (silenceBegins s).bbc = s.bbc ∧ (silenceBegins s).cc = s.cc ∧ (silenceBegins s).bu = s.bu ∧ (silenceBegins s).shm = s.shm
      ∧ (silenceBegins s).dl = s.dl ∧ (silenceBegins s).ts = s.ts ∧ (silenceBegins s).freeIndex = s.freeIndex
      ∧ (silenceBegins s).pending = s.pending := by
  simp only [silenceBegins]
  repeat' split
  all_goals simp

@[simp] theorem linkTakesParams_frame (s : State) :
    (linkTakesParams s).settling = s.settling ∧ (linkTakesParams s).icu = s.icu ∧ (linkTakesParams s).ppc = s.ppc
      ∧ (linkTakesParams s).bbc = s.bbc ∧ (linkTakesParams s).cc = s.cc ∧ (linkTakesParams s).bu = s.bu
      ∧ (linkTakesParams s).blc = s.blc ∧ (linkTakesParams s).shm = s.shm ∧ (linkTakesParams s).dl = s.dl
      ∧ (linkTakesParams s).ts = s.ts ∧ (linkTakesParams s).delivered = s.delivered ∧ (linkTakesParams s).freeIndex = s.freeIndex
      ∧ (linkTakesParams s).pending = s.pending := by
  simp only [linkTakesParams]
  simp

/-! The bay bus, the power path, the charge controller and the budget. -/

@[simp] theorem meetBridgeLimit_frame (s : State) :
    (meetBridgeLimit s).settling = s.settling ∧ (meetBridgeLimit s).icu = s.icu ∧ (meetBridgeLimit s).bu = s.bu
      ∧ (meetBridgeLimit s).blc = s.blc ∧ (meetBridgeLimit s).shm = s.shm ∧ (meetBridgeLimit s).dl = s.dl
      ∧ (meetBridgeLimit s).ts = s.ts ∧ (meetBridgeLimit s).pending = s.pending := by
  simp only [meetBridgeLimit]
  repeat' split
  all_goals simp

@[simp] theorem busTakesParams_frame (s : State) :
    (busTakesParams s).settling = s.settling ∧ (busTakesParams s).icu = s.icu ∧ (busTakesParams s).ppc = s.ppc
      ∧ (busTakesParams s).cc = s.cc ∧ (busTakesParams s).bu = s.bu ∧ (busTakesParams s).blc = s.blc ∧ (busTakesParams s).shm = s.shm
      ∧ (busTakesParams s).dl = s.dl ∧ (busTakesParams s).ts = s.ts ∧ (busTakesParams s).delivered = s.delivered
      ∧ (busTakesParams s).freeIndex = s.freeIndex ∧ (busTakesParams s).pending = s.pending := by
  simp only [busTakesParams]
  simp

@[simp] theorem chargerTakesParams_frame (changed : List Nat) (s : State) :
    (chargerTakesParams changed s).settling = s.settling ∧ (chargerTakesParams changed s).icu = s.icu
      ∧ (chargerTakesParams changed s).ppc = s.ppc ∧ (chargerTakesParams changed s).bu = s.bu
      ∧ (chargerTakesParams changed s).blc = s.blc ∧ (chargerTakesParams changed s).shm = s.shm
      ∧ (chargerTakesParams changed s).dl = s.dl ∧ (chargerTakesParams changed s).ts = s.ts ∧ (chargerTakesParams changed s).lu = s.lu
      ∧ (chargerTakesParams changed s).delivered = s.delivered ∧ (chargerTakesParams changed s).freeIndex = s.freeIndex
      ∧ (chargerTakesParams changed s).pending = s.pending := by
  simp only [chargerTakesParams]
  repeat' split
  all_goals simp

@[simp] theorem takeProfiles_frame (block : Block) (s : State) :
    (takeProfiles block s).settling = s.settling ∧ (takeProfiles block s).icu = s.icu ∧ (takeProfiles block s).blc = s.blc
      ∧ (takeProfiles block s).shm = s.shm ∧ (takeProfiles block s).dl = s.dl ∧ (takeProfiles block s).ts = s.ts
      ∧ (takeProfiles block s).pending = s.pending := by
  simp only [takeProfiles]
  repeat' split
  all_goals simp

/-! The backlight. -/

@[simp] theorem takeLight_frame (x : LightSensor) (lux : Nat) (saturated : Bool) (s : State) :
    (takeLight x lux saturated s).settling = s.settling ∧ (takeLight x lux saturated s).icu = s.icu
      ∧ (takeLight x lux saturated s).ppc = s.ppc ∧ (takeLight x lux saturated s).bbc = s.bbc ∧ (takeLight x lux saturated s).cc = s.cc
      ∧ (takeLight x lux saturated s).bu = s.bu ∧ (takeLight x lux saturated s).shm = s.shm ∧ (takeLight x lux saturated s).dl = s.dl
      ∧ (takeLight x lux saturated s).freeIndex = s.freeIndex ∧ (takeLight x lux saturated s).pending = s.pending := by
  simp only [takeLight]
  repeat' split
  all_goals simp

@[simp] theorem lightSilent_frame (x : LightSensor) (s : State) :
    (lightSilent x s).settling = s.settling ∧ (lightSilent x s).icu = s.icu ∧ (lightSilent x s).ppc = s.ppc
      ∧ (lightSilent x s).bbc = s.bbc ∧ (lightSilent x s).cc = s.cc ∧ (lightSilent x s).bu = s.bu ∧ (lightSilent x s).shm = s.shm
      ∧ (lightSilent x s).dl = s.dl ∧ (lightSilent x s).ts = s.ts ∧ (lightSilent x s).freeIndex = s.freeIndex
      ∧ (lightSilent x s).pending = s.pending := by
  simp only [lightSilent]
  repeat' split
  all_goals simp

@[simp] theorem takeTemperature_frame (reading : Int) (s : State) :
    (takeTemperature reading s).settling = s.settling ∧ (takeTemperature reading s).icu = s.icu
      ∧ (takeTemperature reading s).ppc = s.ppc ∧ (takeTemperature reading s).bbc = s.bbc ∧ (takeTemperature reading s).cc = s.cc
      ∧ (takeTemperature reading s).bu = s.bu ∧ (takeTemperature reading s).shm = s.shm ∧ (takeTemperature reading s).dl = s.dl
      ∧ (takeTemperature reading s).ts = s.ts ∧ (takeTemperature reading s).lu = s.lu
      ∧ (takeTemperature reading s).freeIndex = s.freeIndex ∧ (takeTemperature reading s).pending = s.pending := by
  simp only [takeTemperature]
  simp

@[simp] theorem temperatureSilent_frame (s : State) :
    (temperatureSilent s).settling = s.settling ∧ (temperatureSilent s).icu = s.icu ∧ (temperatureSilent s).ppc = s.ppc
      ∧ (temperatureSilent s).bbc = s.bbc ∧ (temperatureSilent s).cc = s.cc ∧ (temperatureSilent s).bu = s.bu
      ∧ (temperatureSilent s).shm = s.shm ∧ (temperatureSilent s).dl = s.dl ∧ (temperatureSilent s).ts = s.ts
      ∧ (temperatureSilent s).lu = s.lu ∧ (temperatureSilent s).freeIndex = s.freeIndex ∧ (temperatureSilent s).pending = s.pending := by
  simp only [temperatureSilent]
  repeat' split
  all_goals simp

@[simp] theorem tickRamp_frame (s : State) :
    (tickRamp s).settling = s.settling ∧ (tickRamp s).icu = s.icu ∧ (tickRamp s).ppc = s.ppc ∧ (tickRamp s).bbc = s.bbc
      ∧ (tickRamp s).cc = s.cc ∧ (tickRamp s).bu = s.bu ∧ (tickRamp s).shm = s.shm ∧ (tickRamp s).dl = s.dl ∧ (tickRamp s).ts = s.ts
      ∧ (tickRamp s).lu = s.lu ∧ (tickRamp s).delivered = s.delivered ∧ (tickRamp s).freeIndex = s.freeIndex
      ∧ (tickRamp s).pending = s.pending := by
  simp only [tickRamp]
  repeat' split
  all_goals simp

@[simp] theorem backlightTakesParams_frame (s : State) :
    (backlightTakesParams s).settling = s.settling ∧ (backlightTakesParams s).icu = s.icu ∧ (backlightTakesParams s).ppc = s.ppc
      ∧ (backlightTakesParams s).bbc = s.bbc ∧ (backlightTakesParams s).cc = s.cc ∧ (backlightTakesParams s).bu = s.bu
      ∧ (backlightTakesParams s).shm = s.shm ∧ (backlightTakesParams s).dl = s.dl ∧ (backlightTakesParams s).ts = s.ts
      ∧ (backlightTakesParams s).freeIndex = s.freeIndex ∧ (backlightTakesParams s).pending = s.pending := by
  simp only [backlightTakesParams]
  simp

/-! The shock monitor and the clock. -/

@[simp] theorem acceptSample_frame (x y z : Int) (s : State) :
    (acceptSample x y z s).settling = s.settling ∧ (acceptSample x y z s).icu = s.icu
      ∧ (acceptSample x y z s).bu = s.bu ∧ (acceptSample x y z s).blc = s.blc := by
  simp only [acceptSample]
  simp

@[simp] theorem samplesSilent_frame (s : State) :
    (samplesSilent s).settling = s.settling ∧ (samplesSilent s).icu = s.icu
      ∧ (samplesSilent s).bu = s.bu ∧ (samplesSilent s).blc = s.blc := by
  simp only [samplesSilent]
  repeat' split
  all_goals simp

@[simp] theorem meetSettleLimit_frame (s : State) :
    (meetSettleLimit s).settling = s.settling ∧ (meetSettleLimit s).icu = s.icu ∧ (meetSettleLimit s).ppc = s.ppc
      ∧ (meetSettleLimit s).bbc = s.bbc ∧ (meetSettleLimit s).cc = s.cc ∧ (meetSettleLimit s).bu = s.bu
      ∧ (meetSettleLimit s).blc = s.blc ∧ (meetSettleLimit s).freeIndex = s.freeIndex ∧ (meetSettleLimit s).pending = s.pending := by
  simp only [meetSettleLimit]
  repeat' split
  all_goals simp

@[simp] theorem advanceClock_frame (s : State) :
    (advanceClock s).settling = s.settling ∧ (advanceClock s).icu = s.icu ∧ (advanceClock s).ppc = s.ppc
      ∧ (advanceClock s).bbc = s.bbc ∧ (advanceClock s).cc = s.cc ∧ (advanceClock s).bu = s.bu ∧ (advanceClock s).blc = s.blc
      ∧ (advanceClock s).shm = s.shm ∧ (advanceClock s).ts = s.ts ∧ (advanceClock s).lu = s.lu
      ∧ (advanceClock s).delivered = s.delivered ∧ (advanceClock s).freeIndex = s.freeIndex
      ∧ (advanceClock s).pending = s.pending := by
  simp only [advanceClock]
  split <;> simp [updDl]

/-! The resets. -/

@[simp] theorem settleEnds_frame (s : State) :
    (settleEnds s).ppc = s.ppc ∧ (settleEnds s).bbc = s.bbc ∧ (settleEnds s).cc = s.cc ∧ (settleEnds s).bu = s.bu
      ∧ (settleEnds s).ts = s.ts ∧ (settleEnds s).delivered = s.delivered ∧ (settleEnds s).freeIndex = s.freeIndex
      ∧ (settleEnds s).pending = s.pending := by
  simp only [settleEnds, startTimers]
  repeat' split
  all_goals simp

@[simp] theorem resetBacklightFirst_frame (s : State) :
    (resetBacklightFirst s).settling = s.settling ∧ (resetBacklightFirst s).icu = s.icu ∧ (resetBacklightFirst s).ppc = s.ppc
      ∧ (resetBacklightFirst s).bbc = s.bbc ∧ (resetBacklightFirst s).cc = s.cc ∧ (resetBacklightFirst s).shm = s.shm
      ∧ (resetBacklightFirst s).dl = s.dl ∧ (resetBacklightFirst s).ts = s.ts ∧ (resetBacklightFirst s).freeIndex = s.freeIndex
      ∧ (resetBacklightFirst s).pending = s.pending := by
  simp [resetBacklightFirst]

@[simp] theorem resetCaps_frame (s : State) :
    (resetCaps s).settling = s.settling ∧ (resetCaps s).icu = s.icu ∧ (resetCaps s).ppc = s.ppc ∧ (resetCaps s).bbc = s.bbc
      ∧ (resetCaps s).cc = s.cc ∧ (resetCaps s).shm = s.shm ∧ (resetCaps s).dl = s.dl ∧ (resetCaps s).ts = s.ts
      ∧ (resetCaps s).pending = s.pending := by
  unfold resetCaps
  extract_lets o
  split <;> simp [o]

@[simp] theorem managementReset_frame (s : State) :
    (managementReset s).settling = s.settling ∧ (managementReset s).icu = s.icu ∧ (managementReset s).ppc = s.ppc
      ∧ (managementReset s).cc = s.cc ∧ (managementReset s).shm = s.shm ∧ (managementReset s).dl = s.dl
      ∧ (managementReset s).pending = s.pending := by
  simp [managementReset, resetLink]

/-- A reading, a sample or a frame has no effect in the settle interval; outside it each part is the effect's. -/
@[simp] theorem afterSettle_fields (f : State → State) (s : State) :
    (afterSettle f s).icu = (if s.settling.isSome then s.icu else (f s).icu)
      ∧ (afterSettle f s).ppc = (if s.settling.isSome then s.ppc else (f s).ppc)
      ∧ (afterSettle f s).bbc = (if s.settling.isSome then s.bbc else (f s).bbc)
      ∧ (afterSettle f s).cc = (if s.settling.isSome then s.cc else (f s).cc)
      ∧ (afterSettle f s).bu = (if s.settling.isSome then s.bu else (f s).bu)
      ∧ (afterSettle f s).blc = (if s.settling.isSome then s.blc else (f s).blc)
      ∧ (afterSettle f s).shm = (if s.settling.isSome then s.shm else (f s).shm)
      ∧ (afterSettle f s).dl = (if s.settling.isSome then s.dl else (f s).dl)
      ∧ (afterSettle f s).ts = (if s.settling.isSome then s.ts else (f s).ts)
      ∧ (afterSettle f s).lu = (if s.settling.isSome then s.lu else (f s).lu)
      ∧ (afterSettle f s).delivered = (if s.settling.isSome then s.delivered else (f s).delivered)
      ∧ (afterSettle f s).freeIndex = (if s.settling.isSome then s.freeIndex else (f s).freeIndex) := by
  unfold afterSettle
  split <;> simp

/-! ### Properties that every step keeps -/

/-- A property that the Link Unit's own work on a request keeps, and each owner's answer. -/
structure LinkKeeps (P : State → Prop) : Prop where
  take : ∀ e s, P s → P (take e s)
  accept : ∀ s, P s → P (acceptFrame s)
  overrun : ∀ s, P s → P { s with lu := { s.lu with overrun := true } }
  respond : ∀ tag code st results s, s.lu.responses.length < 8 → P s → P (respond tag code st results s)
  receiver : ∀ r s, P s → P (setReceiver r s)
  finish : ∀ s, P s → P (finish s)
  owner : ∀ code args s, P s → P (ownerOf code args s).state

theorem LinkKeeps.request {P : State → Prop} (hP : LinkKeeps P) (tag code : Byte) (n : Nat) (args : List Byte) {s : State}
    (h : P s) : P (handleRequest tag code (ownerOf n args) s) := by
  rcases handleRequest_cases tag code (ownerOf n args) s with e | e | e | ⟨ho, e⟩ <;> rw [e]
  · exact h
  · exact hP.accept s h
  · exact hP.overrun _ (hP.accept s h)
  · obtain ⟨-, -, hroom⟩ := ho
    obtain ⟨-, hsame, -⟩ := ownerOf_link n args (acceptFrame s)
    exact hP.respond _ _ _ _ _ (by rw [hsame]; exact hroom) (hP.owner n args _ (hP.accept s h))

/-- The requests found among a discarded candidate's bytes, each finished before the next. -/
theorem LinkKeeps.discard {P : State → Prop} (hP : LinkKeeps P) (candidate : List Byte) {s : State} (h : P s) :
    P (discardCandidate candidate s) := by
  have payloads : ∀ (ps : List (List Byte)) (u : State), P u → P (ps.foldl (fun u p => Machine.finish (takePayload p u)) u) := by
    intro ps
    induction ps with
    | nil => exact fun _ hu => hu
    | cons p rest ih =>
      refine fun u hu => ih _ (hP.finish _ ?_)
      unfold takePayload
      split
      · exact hP.request _ _ _ _ hu
      · exact hP.accept u hu
  exact hP.receiver _ _ (payloads _ _ h)

theorem afterSettle_keeps {P : State → Prop} {f : State → State} {s : State} (hf : P s → P (f s)) (h : P s) :
    P (afterSettle f s) := by
  unfold afterSettle
  split
  · exact h
  · exact hf h

/-- The commands that the Link Unit takes from its receiver: requests, short payloads and discarded candidates. -/
def Instr.fromReceiver : Instr → Bool
  | .frameDiscarded _ => true
  | i => (encodeRequest i).isSome

/-- A request's effect is the link's handling of it with the owner of its code, and for an unknown code with that of code 0. -/
theorem effect_request {i : Instr} {tag code : Byte} {args : List Byte} (h : encodeRequest i = some (tag :: code :: args))
    (hshort : ∀ p, i ≠ .shortPayloadRequest p) (s : State) :
    effect i s = handleRequest tag code (ownerOf (match i with | .unknownRequest _ _ _ => 0 | _ => code.toNat) args) (take i s) := by
  cases i
  case shortPayloadRequest p => exact absurd rfl (hshort p)
  all_goals simp only [encodeRequest, Option.some.injEq, List.cons.injEq, reduceCtorEq] at h
  all_goals
    obtain ⟨rfl, rfl, rfl⟩ := h
    rfl

/-- A request other than a short payload has a tag, a code and arguments. -/
theorem encodeRequest_shape {i : Instr} (h : (encodeRequest i).isSome) (hshort : ∀ p, i ≠ .shortPayloadRequest p) :
    ∃ tag code args, encodeRequest i = some (tag :: code :: args) := by
  cases i
  case shortPayloadRequest p => exact absurd rfl (hshort p)
  all_goals first
    | exact ⟨_, _, _, rfl⟩
    | simp [encodeRequest] at h

theorem LinkKeeps.received {P : State → Prop} (hP : LinkKeeps P) {i : Instr} (hi : Instr.fromReceiver i = true) {s : State}
    (h : P s) : P (effect i s) := by
  by_cases hshort : ∃ p, i = .shortPayloadRequest p
  · obtain ⟨p, rfl⟩ := hshort
    exact afterSettle_keeps (hP.accept _) (hP.take _ s h)
  · by_cases hdiscard : ∃ c, i = .frameDiscarded c
    · obtain ⟨c, rfl⟩ := hdiscard
      exact afterSettle_keeps (hP.discard c) (hP.take _ s h)
    · have hrequest : (encodeRequest i).isSome := by
        unfold Instr.fromReceiver at hi
        split at hi
        · exact absurd ⟨_, rfl⟩ hdiscard
        · exact hi
      obtain ⟨tag, code, args, he⟩ := encodeRequest_shape hrequest (not_exists.1 hshort)
      rw [effect_request he (not_exists.1 hshort)]
      exact hP.request tag code _ args (hP.take i s h)

/-- A property that the link keeps, and that ticks and the effects of the other commands keep, is kept by every step. -/
theorem LinkKeeps.step {P : State → Prop} (hP : LinkKeeps P) (hqueue : ∀ q s, P s → P { s with pending := q })
    (htick : ∀ s, P s → P (tick s)) (heffect : ∀ i s, Instr.fromReceiver i = false → P s → P (effect i s)) {s t : State}
    (h : P s) (hst : Machine.step s = .next t) : P t := by
  have effects : ∀ i u, P u → P (effect i u) := by
    intro i u hu
    cases hi : Instr.fromReceiver i
    · exact heffect i u hi hu
    · exact hP.received hi hu
  rcases step_cases hst with rfl | ⟨i, q, hx⟩
  · exact htick s h
  · rcases exec_cases hx with ⟨rfl, rfl⟩ | ⟨-, rfl⟩
    · exact effects .powerOnReset _ (hqueue q s h)
    · exact hP.finish _ (effects i _ (hqueue q s h))

end Sys2Proof.Machine
end

section
/-! PROOFS. Properties of the blocks behind the link, and the drop log's limits (chapter 8). -/

namespace Sys2Proof.Machine

/-! ### Properties of the blocks behind the link -/

/-- A property that rests on the blocks behind the link alone, so not on the queues, the bus, the inputs or the budget. -/
def Inner (P : State → Prop) : Prop :=
  ∀ s t : State, t.ppc = s.ppc → t.cc = s.cc → t.blc = s.blc → t.shm = s.shm → t.dl = s.dl → t.ts = s.ts → P s → P t

/-- The link's own work keeps such a property. -/
theorem Inner.link {P : State → Prop} (hP : Inner P) (owner : ∀ code args s, P s → P (ownerOf code args s).state) :
    LinkKeeps P where
  take e s := hP s _ rfl rfl rfl rfl rfl rfl
  accept s := hP s _ rfl rfl rfl rfl rfl rfl
  overrun s := hP s _ rfl rfl rfl rfl rfl rfl
  respond _ _ _ _ s _ := hP s _ rfl rfl rfl rfl rfl rfl
  receiver _ s := hP s _ rfl rfl rfl rfl rfl rfl
  finish s := hP s _ (by simp) (by simp) (by simp) (by simp) (by simp) (by simp)
  owner := owner

/-- Such a property is kept by every step where ticks, the owners' answers and the other commands' effects keep it. -/
theorem Inner.step {P : State → Prop} (hP : Inner P) (owner : ∀ code args s, P s → P (ownerOf code args s).state)
    (htick : ∀ s, P s → P (tick s)) (heffect : ∀ i s, Instr.fromReceiver i = false → P s → P (effect i s)) {s t : State}
    (h : P s) (hst : Machine.step s = .next t) : P t :=
  (hP.link owner).step (fun _ u => hP u _ rfl rfl rfl rfl rfl rfl) htick heffect h hst

/-! ### The log's limits (R155) -/

theorem length_giveUpOldest (log : List DropRecord) : (giveUpOldest log).length = log.length := by
  induction log with
  | nil => rfl
  | cons r rest ih =>
    unfold giveUpOldest
    split <;> simp [ih]

theorem sequence_giveUpOldest (log : List DropRecord) :
    (giveUpOldest log).map DropRecord.sequence = log.map DropRecord.sequence := by
  induction log with
  | nil => rfl
  | cons r rest ih =>
    unfold giveUpOldest
    split <;> simp [ih]

/-- Giving up the oldest preserved record lowers the count of preserved records by one. -/
theorem preservedCount_giveUpOldest (log : List DropRecord) : preservedCount (giveUpOldest log) = preservedCount log - 1 := by
  induction log with
  | nil => rfl
  | cons r rest ih =>
    unfold giveUpOldest
    split
    · simp [preservedCount, *]
    · simpa [preservedCount, *] using ih

/-- The log without a record is a part of the log, in its order. -/
theorem evictOldest_sublist (log : List DropRecord) : (evictOldest log).Sublist log := by
  induction log with
  | nil => exact List.Sublist.slnil
  | cons r rest ih =>
    unfold evictOldest
    split
    · exact ih.cons_cons r
    · exact List.sublist_cons_self r rest

/-- Where some record is not preserved, one leaves. -/
theorem length_evictOldest {log : List DropRecord} (h : preservedCount log < log.length) :
    (evictOldest log).length = log.length - 1 := by
  induction log with
  | nil => rfl
  | cons r rest ih =>
    unfold evictOldest
    split
    · rename_i hr
      have hrest : preservedCount rest < rest.length := by simpa [preservedCount, hr] using h
      simp only [List.length_cons, ih hrest]
      omega
    · simp

/-- A log within its limits and in order: at most 32 records and 16 preserved, sequences rising strictly and below a number. -/
def LogOrdered (log : List DropRecord) (next : Nat) : Prop :=
  log.length ≤ 32 ∧ preservedCount log ≤ 16 ∧ (log.map DropRecord.sequence).Pairwise (· < ·) ∧ ∀ r ∈ log, r.sequence < next

theorem logSound_iff (s : State) : LogSound s ↔ LogOrdered s.dl.log s.dl.nextSequence := by
  simp only [LogSound, LogOrdered, preservedCount, List.countP_eq_length_filter]

/-- A part of an ordered log is ordered. -/
theorem LogOrdered.sublist {part log : List DropRecord} {next : Nat} (h : LogOrdered log next) (hp : part.Sublist log) :
    LogOrdered part next := by
  obtain ⟨hlen, hkept, hseq, hnext⟩ := h
  exact ⟨hp.length_le.trans hlen, (hp.countP_le).trans hkept, hseq.sublist (hp.map _), fun r hr => hnext r (hp.subset hr)⟩

/-- A log that changes neither sequences nor preserved flags stays ordered. -/
theorem LogOrdered.map {log : List DropRecord} {next : Nat} (h : LogOrdered log next) {f : DropRecord → DropRecord}
    (hseq : ∀ r, (f r).sequence = r.sequence) (hkept : ∀ r, (f r).preserved = r.preserved) : LogOrdered (log.map f) next := by
  obtain ⟨hlen, hcount, hpair, hnext⟩ := h
  refine ⟨by simpa using hlen, ?_, ?_, ?_⟩
  · simpa [preservedCount, List.countP_map, Function.comp_def, hkept] using hcount
  · simpa [Function.comp_def, hseq] using hpair
  · simpa [hseq] using hnext

/-- The room made for a record: at most 31 records, and at most 15 preserved where the record is preserved. -/
theorem LogOrdered.storeRecord {log : List DropRecord} {next : Nat} (h : LogOrdered log next) (r : DropRecord)
    (hr : r.sequence = next) : LogOrdered (storeRecord r log) (next + 1) := by
  have hkept : ∃ kept : List DropRecord, kept = (if r.preserved && decide (16 ≤ preservedCount log) then giveUpOldest log else log)
      ∧ LogOrdered kept next ∧ (r.preserved = true → preservedCount kept ≤ 15) := by
    obtain ⟨hlen, hcount, hpair, hnext⟩ := h
    refine ⟨_, rfl, ?_⟩
    split
    · refine ⟨⟨by rwa [length_giveUpOldest], ?_, by rwa [sequence_giveUpOldest], ?_⟩, fun _ => ?_⟩
      · rw [preservedCount_giveUpOldest]
        omega
      · rw [← List.forall_mem_map (f := DropRecord.sequence) (P := (· < next)), sequence_giveUpOldest, List.forall_mem_map]
        exact hnext
      · rw [preservedCount_giveUpOldest]
        omega
    · rename_i hfew
      refine ⟨⟨hlen, hcount, hpair, hnext⟩, fun hp => ?_⟩
      simp only [hp, Bool.true_and, decide_eq_true_eq] at hfew
      omega
  obtain ⟨kept, hdef, hord, hfifteen⟩ := hkept
  have hroom : ∃ room : List DropRecord, room = (if 32 ≤ kept.length then evictOldest kept else kept)
      ∧ room.Sublist kept ∧ room.length ≤ 31 := by
    obtain ⟨hlen, hcount, -⟩ := hord
    refine ⟨_, rfl, ?_⟩
    split
    · refine ⟨evictOldest_sublist kept, ?_⟩
      rw [length_evictOldest (by omega)]
      omega
    · exact ⟨List.Sublist.refl _, by omega⟩
  obtain ⟨room, hrdef, hsub, hlen⟩ := hroom
  have hstore : Machine.storeRecord r log = room ++ [r] := by rw [hrdef, hdef]; rfl
  obtain ⟨-, hcount, hpair, hnext⟩ := hord.sublist hsub
  have hfew : r.preserved = true → preservedCount room ≤ 15 := fun hp => hsub.countP_le.trans (hfifteen hp)
  rw [hstore]
  refine ⟨by simp; omega, ?_, ?_, ?_⟩
  · simp only [preservedCount, List.countP_append, List.countP_singleton] at hcount hfew ⊢
    split <;> [exact Nat.succ_le_succ (hfew ‹_›); exact hcount]
  · simp only [List.map_append, List.map_cons, List.map_nil, List.pairwise_append, List.pairwise_singleton, true_and]
    refine ⟨hpair, fun a ha b hb => ?_⟩
    obtain ⟨x, hx, rfl⟩ := List.mem_map.1 ha
    rw [List.mem_singleton.1 hb, hr]
    exact hnext x hx
  · intro x hx
    rcases List.mem_append.1 hx with hx | hx
    · exact Nat.lt_succ_of_lt (hnext x hx)
    · rw [List.mem_singleton.1 hx, hr]
      exact Nat.lt_succ_self next

/-! ### The operations on the log -/

theorem logSound_of_dl {s t : State} (h : t.dl = s.dl) (hs : LogSound s) : LogSound t := by
  rw [logSound_iff] at hs ⊢
  rwa [h]

theorem logSound_inner : Inner LogSound := fun _ _ _ _ _ _ hdl _ => logSound_of_dl hdl

theorem takeEvent_logSound (h : HandOver) {s : State} (hs : LogSound s) : LogSound (takeEvent h s).1 := by
  have hstore : LogSound (storeEvent h (classify s h) s) := by
    unfold storeEvent
    split
    · rw [logSound_iff] at hs ⊢
      simpa [keepRecord] using hs.storeRecord (newRecord s h (classify s h)) rfl
    · exact hs
  exact logSound_of_dl (by simp [takeEvent]) hstore

theorem closeRecord_logSound (e : Ending) {s : State} (hs : LogSound s) : LogSound (closeRecord e s) := by
  unfold closeRecord
  split
  · exact hs
  · rw [logSound_iff] at hs ⊢
    refine hs.map ?_ ?_ <;> intro r <;> split <;> rfl

/-! ### The shock monitor's moments -/

/-- A property that the operations of which the shock monitor's moments are made keep. -/
structure ShmKeeps (P : State → Prop) : Prop where
  shm : ∀ f s, P s → P (updShm f s)
  deliver : ∀ e s, P s → P (deliver e s)
  raise : ∀ n s, P s → P (raise n s)
  hand : ∀ t s, P s → P (handTraffic t s)
  event : ∀ h s, P s → P (takeEvent h s).1
  close : ∀ e s, P s → P (closeRecord e s)
  classes : ∀ s, P s → P (swapClasses s)

section
variable {P : State → Prop} (hP : ShmKeeps P)
include hP

theorem ShmKeeps.handOver (o : DropOutcome) (n : Nat) (v : Bool) {s : State} (h : P s) : P (handOver o n v s) := by
  simp only [Machine.handOver]
  exact hP.shm _ _ (hP.event _ s h)

theorem ShmKeeps.enterQuiet (st : ShmState) {s : State} (h : P s) : P (enterQuiet st s) := hP.classes _ (hP.shm _ s h)

theorem ShmKeeps.leaveEvent (e : Ending) (st : ShmState) {s : State} (h : P s) : P (leaveEvent e st s) := by
  simp only [Machine.leaveEvent, dropHold]
  exact hP.shm _ _ (hP.raise _ _ (hP.deliver _ _ (hP.deliver _ _ (hP.enterQuiet st (hP.shm _ s h)))))

theorem ShmKeeps.windowEnd {s : State} (h : P s) : P (windowEnd s) := by
  simp only [Machine.windowEnd, enterSettling]
  exact hP.shm _ _ (hP.handOver _ _ _ h)

theorem ShmKeeps.closeEvent (e : Ending) (st : ShmState) {s : State} (h : P s) : P (closeEvent e st s) :=
  hP.leaveEvent e st (hP.close e s h)

theorem ShmKeeps.beginEvent (st : ShmState) (n m2 : Nat) {s : State} (h : P s) : P (beginEvent st n m2 s) := by
  have hold : P (deliverHoldStart s) := by
    unfold deliverHoldStart
    split
    · exact h
    · exact hP.deliver _ _ (hP.deliver _ s h)
  have begun := hP.shm (beginRecord st n m2 (takeSnapshot s)) _ hold
  simp only [Machine.beginEvent, raiseIf]
  split
  · exact hP.raise _ _ begun
  · exact begun

theorem ShmKeeps.testWindow {s : State} (h : P s) : P (testWindow s) := by
  unfold Machine.testWindow
  split
  · exact hP.windowEnd h
  · exact h

theorem ShmKeeps.caughtFall {s : State} (h : P s) : P (caughtFall s) := by
  simp only [Machine.caughtFall, enterSettling]
  exact hP.shm _ _ (hP.handOver _ _ _ (hP.shm _ s h))

theorem ShmKeeps.sampleIdle (m2 : Nat) {s : State} (h : P s) : P (sampleIdle m2 s) := by
  simp only [Machine.sampleIdle]
  split
  · exact hP.testWindow (hP.beginEvent _ _ _ h)
  · exact hP.shm _ s h
  · split
    · exact hP.beginEvent _ _ _ h
    · exact hP.shm _ s h

theorem ShmKeeps.sampleFalling (m2 : Nat) {s : State} (h : P s) : P (sampleFalling m2 s) := by
  simp only [Machine.sampleFalling]
  split
  · exact hP.shm _ _ (hP.shm _ s h)
  · have counted := hP.shm (fun m => { m with fallCount := min (m.fallCount + 1) 1023, grace := m.grace + 1 }) _
      (hP.shm (fun m => { m with peakM2 := max m.peakM2 m2 }) s h)
    split
    · exact hP.caughtFall counted
    · exact counted
  · exact hP.testWindow (hP.shm _ _ (hP.shm _ s h))

theorem ShmKeeps.sampleSettling (m2 : Nat) {s : State} (h : P s) : P (sampleSettling m2 s) := by
  unfold Machine.sampleSettling
  extract_lets r q
  split
  · exact hP.closeEvent _ _ (hP.shm _ s h)
  · split
    · exact hP.beginEvent _ _ _ (hP.close _ _ (hP.shm _ s h))
    · exact hP.shm _ s h

theorem ShmKeeps.takeSample (m2 : Nat) {s : State} (h : P s) : P (takeSample m2 s) := by
  unfold Machine.takeSample
  split
  · exact h
  · exact hP.sampleIdle m2 h
  · exact hP.sampleFalling m2 h
  · exact hP.testWindow (hP.shm _ s h)
  · exact hP.sampleSettling m2 h
  · exact hP.sampleIdle m2 (hP.enterQuiet _ h)

theorem ShmKeeps.acceptSample (x y z : Int) {s : State} (h : P s) : P (acceptSample x y z s) := by
  have taken := hP.takeSample (squaredMagnitude x y z) (hP.shm (fun m => { m with silence := some 0 }) s h)
  simp only [Machine.acceptSample, forwardMotion]
  split
  · exact hP.shm _ _ taken
  · split
    · exact hP.hand _ _ (hP.shm _ _ taken)
    · exact hP.shm _ _ taken

theorem ShmKeeps.settleExpired {s : State} (h : P s) : P (settleExpired s) := by
  unfold Machine.settleExpired
  split
  · exact hP.closeEvent _ _ h
  · exact h

theorem ShmKeeps.samplesSilent {s : State} (h : P s) : P (samplesSilent s) := by
  unfold Machine.samplesSilent
  split
  · rename_i e _
    have stood := hP.shm (fun m => { m with silence := some (max e sampleSilenceLimit) }) s h
    unfold sensorLost
    split
    · exact stood
    · exact hP.enterQuiet _ stood
    · exact hP.leaveEvent _ _ stood
    · exact hP.closeEvent _ _ (hP.handOver _ _ _ stood)
    · exact hP.closeEvent _ _ stood
    · exact stood
  · exact h

theorem ShmKeeps.meetSettleLimit {s : State} (h : P s) : P (meetSettleLimit s) := by
  unfold Machine.meetSettleLimit
  repeat' split
  · exact hP.settleExpired h
  all_goals exact h

end

/-! ### The log under every step -/

theorem logSound_shm : ShmKeeps LogSound where
  shm _ _ := logSound_of_dl rfl
  deliver _ _ := logSound_of_dl rfl
  raise _ _ := logSound_of_dl (by simp)
  hand _ _ := logSound_of_dl (by simp)
  event h _ := takeEvent_logSound h
  close e _ := closeRecord_logSound e
  classes _ := logSound_of_dl (by simp)

/-- A change of the DL that leaves a part of the log, and the next number. -/
theorem logSound_updDl {f : Dl → Dl} {s : State} (hlog : (f s.dl).log.Sublist s.dl.log)
    (hnext : (f s.dl).nextSequence = s.dl.nextSequence) (hs : LogSound s) : LogSound (updDl f s) := by
  rw [logSound_iff] at hs ⊢
  have hpart := hs.sublist hlog
  rwa [← hnext] at hpart

/-- LOG_CLEAR keeps the preserved records, LOG_CLEAR_ALL none, and no other answer changes the log. -/
theorem owner_logSound (code : Nat) (args : List Byte) (s : State) (h : LogSound s) : LogSound (ownerOf code args s).state := by
  have whole := List.Sublist.refl s.dl.log
  unfold ownerOf
  split
  case h_19 =>
    unfold logClearAnswer
    split
    · exact logSound_updDl List.filter_sublist rfl h
    · exact h
  case h_20 =>
    unfold logClearAllAnswer
    repeat' split
    · exact h
    · exact logSound_updDl (List.nil_sublist _) rfl h
    · exact h
  case h_21 =>
    unfold logLockAnswer
    repeat' split
    · exact h
    · exact logSound_updDl whole rfl h
    · exact h
  case h_22 =>
    unfold timeSetAnswer
    split
    · exact logSound_updDl whole rfl h
    · exact h
  case h_26 => exact h
  all_goals exact logSound_of_dl (by simp) h

theorem logSound_reset : LogSound State.reset := ⟨by decide, by decide, by decide, by decide⟩

theorem effect_logSound (i : Instr) (s : State) (hi : Instr.fromReceiver i = false) (h : LogSound s) : LogSound (effect i s) := by
  cases i
  case powerOnReset => exact logSound_of_dl (s := State.reset) rfl logSound_reset
  case accelSample x y z => exact afterSettle_keeps (logSound_shm.acceptSample x y z) h
  case settleTimeout => exact logSound_shm.settleExpired h
  case sampleSilenceTimeout => exact logSound_shm.samplesSilent h
  case clockAdvance =>
    show LogSound (advanceClock s)
    unfold advanceClock
    split
    · exact logSound_updDl (f := fun d => { d with clock := (d.clock + 1) % 4294967296, clockPhase := some 0 })
        (List.Sublist.refl _) rfl h
    · exact h
  case supplySettleEnd =>
    show LogSound (settleEnds s)
    unfold settleEnds
    split
    · exact logSound_updDl (f := fun d => { d with clockPhase := some 0 }) (List.Sublist.refl _) rfl h
    · exact h
  case table0SwapDelivery block changed =>
    cases block
    case shm => exact logSound_shm.meetSettleLimit h
    all_goals exact logSound_of_dl (by simp [effect, takeParams]) h
  all_goals first
    | exact absurd hi Bool.false_ne_true.symm
    | exact logSound_of_dl (by simp [effect]) h

/-- Settles O53. -/
theorem stepsKeepLogSound : Obligations.StepsKeepLogSound := by
  intro s t h hst
  exact logSound_inner.step owner_logSound (fun _ hu => hu) effect_logSound h hst

end Sys2Proof.Machine
end

section
/-! PROOFS. The backlight's invariants (chapter 6): a blanked screen stays dark, and the override stack within its bounds. -/

namespace Sys2Proof.Machine

/-! ### A blanked screen is dark (R119, R122) -/

theorem blankedDark_inner : Inner BlankedDark := fun s t _ _ hblc _ _ _ h => by
  unfold BlankedDark at *
  rwa [hblc]

theorem blankedDark_of_blc {s t : State} (h : t.blc = s.blc) (hs : BlankedDark s) : BlankedDark t := by
  unfold BlankedDark at *
  rwa [h]

/-- What BlankedDark speaks of: the copies of the rail and the lid, the target and the output. -/
theorem blankedDark_of_fields {s t : State} (hrail : t.blc.railOn = s.blc.railOn) (hlid : t.blc.lidClosed = s.blc.lidClosed)
    (htarget : t.blc.target = s.blc.target) (houtput : t.blc.output = s.blc.output) (hs : BlankedDark s) : BlankedDark t := by
  unfold BlankedDark at *
  rwa [hrail, hlid, htarget, houtput]

/-- A recomputation leaves a blanked screen dark, whatever it was. -/
theorem recomputeHeld_blankedDark (s : State) : BlankedDark (recomputeHeld s) := by
  intro h
  have hblank : blanked s = true := by simpa [recomputeHeld, blanked] using h
  simp [recomputeHeld, targetOf, outputAfter, hblank]

theorem recomputeTarget_blankedDark (s : State) : BlankedDark (recomputeTarget s) := recomputeHeld_blankedDark _

theorem setSensor_blanking (c : Blc) (x : LightSensor) (r : SensorRecord) :
    (setSensor c x r).railOn = c.railOn ∧ (setSensor c x r).lidClosed = c.lidClosed ∧ (setSensor c x r).target = c.target
      ∧ (setSensor c x r).output = c.output ∧ (setSensor c x r).stack = c.stack := by
  cases x <;> exact ⟨rfl, rfl, rfl, rfl, rfl⟩

/-- A sensor's record is replaced. -/
theorem updSensor_blankedDark {s : State} (x : LightSensor) (r : Blc → SensorRecord) (hs : BlankedDark s) :
    BlankedDark (updBlc (fun c => setSensor c x (r c)) s) := by
  obtain ⟨hrail, hlid, htarget, houtput, -⟩ := setSensor_blanking s.blc x (r s.blc)
  exact blankedDark_of_fields hrail hlid htarget houtput hs

theorem failSensor_blankedDark {s : State} (x : LightSensor) (hs : BlankedDark s) : BlankedDark (failSensor x s) :=
  blankedDark_of_blc (by simp [failSensor]) (updSensor_blankedDark x (fun c => { sensorOf c x with failed := true }) hs)

theorem filterStep_blankedDark (x : LightSensor) (s : State) : BlankedDark (filterStep x s) :=
  blankedDark_of_blc (by simp [filterStep]) (recomputeTarget_blankedDark (filterLight (swapCurve s)))

theorem takeLight_blankedDark (x : LightSensor) (lux : Nat) (v : Bool) {s : State} (hs : BlankedDark s) :
    BlankedDark (takeLight x lux v s) := by
  simp only [takeLight]
  split
  · exact filterStep_blankedDark x _
  · exact updSensor_blankedDark x _ hs

theorem lightSilent_blankedDark (x : LightSensor) {s : State} (hs : BlankedDark s) : BlankedDark (lightSilent x s) := by
  unfold lightSilent
  repeat' split
  · exact hs
  · exact failSensor_blankedDark x (updSensor_blankedDark x _ hs)
  · exact hs

theorem temperatureSilent_blankedDark {s : State} (hs : BlankedDark s) : BlankedDark (temperatureSilent s) := by
  unfold temperatureSilent
  split
  · exact recomputeTarget_blankedDark _
  · exact hs

/-- A ramp tick from 0 towards 0 stays at 0. -/
theorem tickRamp_blankedDark {s : State} (hs : BlankedDark s) : BlankedDark (tickRamp s) := by
  unfold tickRamp
  split
  · intro hblank
    obtain ⟨htarget, houtput⟩ := hs hblank
    simp [rampNext, htarget, houtput]
  · exact hs

theorem emptyStack_blankedDark {s : State} (hs : BlankedDark s) : BlankedDark (emptyStack s) := by
  unfold emptyStack
  split
  · exact hs
  · exact recomputeTarget_blankedDark _

/-- In either order the backlight's part ends with a recomputation. -/
theorem managementReset_blankedDark (s : State) : BlankedDark (managementReset s) := by
  unfold managementReset resetCaps
  extract_lets o
  split
  · exact blankedDark_of_blc (s := resetBacklight o.2) (by simp [resetBacklightFirst]) (recomputeTarget_blankedDark _)
  · exact recomputeTarget_blankedDark _

/-- The requests that reach the backlight end with a recomputation or change nothing. -/
theorem owner_blankedDark (code : Nat) (args : List Byte) (s : State) (h : BlankedDark s) :
    BlankedDark (ownerOf code args s).state := by
  unfold ownerOf
  split
  case h_12 =>
    unfold overridePushAnswer pushLevel
    repeat' split
    · exact h
    · exact recomputeTarget_blankedDark _
    · exact h
  case h_13 =>
    unfold overridePopAnswer popLevel
    repeat' split
    · exact h
    · exact recomputeTarget_blankedDark _
    · exact h
  case h_14 =>
    unfold offsetSetAnswer
    split
    · exact recomputeTarget_blankedDark _
    · exact h
  case h_26 => exact h
  all_goals exact blankedDark_of_blc (by simp) h

theorem blankedDark_reset : BlankedDark State.reset := fun _ => ⟨rfl, rfl⟩

theorem effect_blankedDark (i : Instr) (s : State) (hi : Instr.fromReceiver i = false) (h : BlankedDark s) :
    BlankedDark (effect i s) := by
  cases i
  case powerOnReset => exact blankedDark_of_blc (s := State.reset) rfl blankedDark_reset
  case supplySettleEnd =>
    show BlankedDark (settleEnds s)
    unfold settleEnds
    split <;> exact h
  case blcLidEdge closed => exact recomputeHeld_blankedDark _
  case blcPublication p swap => exact recomputeTarget_blankedDark _
  case blcRailChange on => exact recomputeTarget_blankedDark _
  case lightSample x lux v => exact afterSettle_keeps (takeLight_blankedDark x lux v) h
  case lightSensorTimeout x => exact lightSilent_blankedDark x h
  case temperatureSample t => exact afterSettle_keeps (fun _ => recomputeTarget_blankedDark _) h
  case temperatureSilenceTimeout => exact temperatureSilent_blankedDark h
  case rampTick => exact tickRamp_blankedDark h
  case linkSilenceTimeout =>
    show BlankedDark (silenceBegins s)
    unfold silenceBegins
    split
    · exact emptyStack_blankedDark h
    · exact h
  case managementReset => exact managementReset_blankedDark _
  case table0SwapDelivery block changed =>
    cases block
    case blc => exact recomputeTarget_blankedDark _
    all_goals exact blankedDark_of_blc (by simp [effect, takeParams]) h
  all_goals first
    | exact absurd hi Bool.false_ne_true.symm
    | exact blankedDark_of_blc (by simp [effect]) h

/-- Settles O56. -/
theorem stepsKeepBlankedDark : Obligations.StepsKeepBlankedDark := by
  intro s t h hst
  exact blankedDark_inner.step owner_blankedDark (fun _ hu => hu) effect_blankedDark h hst

/-! ### The override stack (R113, R114, R115) -/

theorem stackSound_inner : Inner StackSound := fun s t _ _ hblc _ _ _ h => by
  unfold StackSound at *
  rwa [hblc]

theorem stackSound_of_stack {s t : State} (h : t.blc.stack = s.blc.stack) (hs : StackSound s) : StackSound t := by
  unfold StackSound at *
  rwa [h]

@[simp] theorem recomputeTarget_stack (s : State) : (recomputeTarget s).blc.stack = s.blc.stack := rfl

@[simp] theorem setSensor_stack (c : Blc) (x : LightSensor) (r : SensorRecord) : (setSensor c x r).stack = c.stack := by
  obtain ⟨-, -, -, -, h⟩ := setSensor_blanking c x r
  exact h

@[simp] theorem failSensor_stack (x : LightSensor) (s : State) : (failSensor x s).blc.stack = s.blc.stack := by
  simp [failSensor]

@[simp] theorem filterStep_stack (x : LightSensor) (s : State) : (filterStep x s).blc.stack = s.blc.stack := by
  simp [filterStep, filterLight]

theorem takeLight_stack (x : LightSensor) (lux : Nat) (v : Bool) (s : State) :
    (takeLight x lux v s).blc.stack = s.blc.stack := by
  have hstored : (storeLight x lux v s).blc.stack = s.blc.stack := by simp [storeLight]
  simp only [takeLight]
  split
  · rw [filterStep_stack, hstored]
  · exact hstored

theorem lightSilent_stack (x : LightSensor) (s : State) : (lightSilent x s).blc.stack = s.blc.stack := by
  unfold lightSilent
  repeat' split
  all_goals simp

theorem failIfSilent_stack (x : LightSensor) (s : State) : (failIfSilent x s).blc.stack = s.blc.stack := by
  unfold failIfSilent
  repeat' split
  all_goals simp

theorem backlightTakesParams_stack (s : State) : (backlightTakesParams s).blc.stack = s.blc.stack := by
  simp [backlightTakesParams, refreshThermalCap, failIfSilent_stack]

theorem takeTemperature_stack (t : Int) (s : State) : (takeTemperature t s).blc.stack = s.blc.stack := by
  simp [takeTemperature, refreshThermalCap]

theorem temperatureSilent_stack (s : State) : (temperatureSilent s).blc.stack = s.blc.stack := by
  unfold temperatureSilent
  split <;> simp [refreshThermalCap]

theorem tickRamp_stack (s : State) : (tickRamp s).blc.stack = s.blc.stack := by
  unfold tickRamp
  split <;> simp

theorem emptyStack_stackSound {s : State} (hs : StackSound s) : StackSound (emptyStack s) := by
  unfold emptyStack
  split
  · exact hs
  · exact ⟨by simp, by simp⟩

theorem managementReset_stack (s : State) : (managementReset s).blc.stack = [] := by
  unfold managementReset resetCaps
  extract_lets o
  split
  · simp [resetBacklightFirst, resetBacklight]
  · simp [resetBacklight]

theorem clampInt_toNat_le (low : Int) (high : Nat) (v : Int) (hlow : low ≤ high) : (clampInt low high v).toNat ≤ high := by
  unfold clampInt
  repeat' split
  all_goals omega

/-- A push of a clamped level below depth 4. -/
theorem pushLevel_stackSound (v : Int) {s : State} (hs : StackSound s) : StackSound (pushLevel v s).state := by
  unfold pushLevel
  split
  · exact hs
  · rename_i hroom
    obtain ⟨-, hlevels⟩ := hs
    refine ⟨?_, ?_⟩
    · simp only [answer, recomputeTarget_stack, updBlc_blc, List.length_cons]
      omega
    · rintro l (_ | ⟨_, hl⟩)
      · exact clampInt_toNat_le 0 1000 v (by omega)
      · exact hlevels l hl

theorem popLevel_stackSound {s : State} (hs : StackSound s) : StackSound (popLevel s).state := by
  unfold popLevel
  split
  · exact hs
  · rename_i v rest htop
    obtain ⟨hlen, hlevels⟩ := hs
    rw [htop] at hlen hlevels
    exact ⟨by simpa [answer] using Nat.le_of_succ_le hlen, by simpa [answer] using (List.forall_mem_cons.1 hlevels).2⟩

theorem owner_stackSound (code : Nat) (args : List Byte) (s : State) (h : StackSound s) :
    StackSound (ownerOf code args s).state := by
  unfold ownerOf
  split
  case h_12 =>
    unfold overridePushAnswer
    split
    · exact pushLevel_stackSound _ h
    · exact h
  case h_13 =>
    unfold overridePopAnswer
    split
    · exact popLevel_stackSound h
    · exact h
  case h_14 =>
    unfold offsetSetAnswer
    split <;> exact h
  case h_26 => exact h
  all_goals exact stackSound_of_stack (by simp) h

theorem stackSound_reset : StackSound State.reset := ⟨by decide, by decide⟩

theorem effect_stackSound (i : Instr) (s : State) (hi : Instr.fromReceiver i = false) (h : StackSound s) :
    StackSound (effect i s) := by
  cases i
  case powerOnReset => exact stackSound_of_stack (s := State.reset) rfl stackSound_reset
  case supplySettleEnd =>
    show StackSound (settleEnds s)
    unfold settleEnds
    split <;> exact h
  case blcLidEdge closed => exact h
  case blcPublication p swap => exact h
  case blcRailChange on => exact h
  case lightSample x lux v => exact afterSettle_keeps (stackSound_of_stack (takeLight_stack x lux v s)) h
  case lightSensorTimeout x => exact stackSound_of_stack (lightSilent_stack x s) h
  case temperatureSample t => exact afterSettle_keeps (stackSound_of_stack (takeTemperature_stack t s)) h
  case temperatureSilenceTimeout => exact stackSound_of_stack (temperatureSilent_stack s) h
  case rampTick => exact stackSound_of_stack (tickRamp_stack s) h
  case linkSilenceTimeout =>
    show StackSound (silenceBegins s)
    unfold silenceBegins
    split
    · exact emptyStack_stackSound h
    · exact h
  case managementReset =>
    have hempty := managementReset_stack (take .managementReset s)
    refine ⟨?_, ?_⟩ <;> simp [effect, hempty]
  case table0SwapDelivery block changed =>
    cases block
    case blc => exact stackSound_of_stack (backlightTakesParams_stack _) h
    all_goals exact stackSound_of_stack (by simp [effect, takeParams]) h
  all_goals first
    | exact absurd hi Bool.false_ne_true.symm
    | exact stackSound_of_stack (by simp [effect]) h

/-- Every step keeps the override stack within its bounds. -/
theorem step_stackSound {s t : State} (h : StackSound s) (hst : step s = .next t) : StackSound t :=
  stackSound_inner.step owner_stackSound (fun _ hu => hu) effect_stackSound h hst

end Sys2Proof.Machine
end

section
/-! PROOFS. The quiesce line and the event's snapshot (chapter 7). -/

namespace Sys2Proof.Machine

theorem quiesceSound_inner : Inner QuiesceSound := fun s t _ _ _ hshm _ _ h => by
  unfold QuiesceSound at *
  rwa [hshm]

theorem quiesceSound_of_shm {s t : State} (h : t.shm = s.shm) (hs : QuiesceSound s) : QuiesceSound t := by
  unfold QuiesceSound at *
  rwa [h]

/-- What QuiesceSound speaks of. -/
theorem quiesceSound_of_fields {s t : State} (hstate : t.shm.state = s.shm.state) (hline : t.shm.quiesceLine = s.shm.quiesceLine)
    (hkept : t.shm.quiesceKept = s.shm.quiesceKept) (hsnap : t.shm.snapshot = s.shm.snapshot) (hs : QuiesceSound s) :
    QuiesceSound t := by
  unfold QuiesceSound at *
  rwa [hstate, hline, hkept, hsnap]

/-- In an event state the line is asserted and the snapshot taken, whatever the kept mark. -/
theorem quiesceSound_of_event {s : State} (hstate : s.shm.state.isEvent = true) (hline : s.shm.quiesceLine = true)
    (hsnap : s.shm.snapshot.isSome) : QuiesceSound s :=
  ⟨fun _ => ⟨hline, hsnap⟩, fun h => by simp [hstate] at h⟩

theorem quiesceSound_of_quiet {s : State} (hstate : s.shm.state.isEvent = false)
    (hline : s.shm.quiesceLine = s.shm.quiesceKept) : QuiesceSound s :=
  ⟨fun h => by simp [hstate] at h, fun _ => hline⟩

/-! ### The monitor's moments -/

/-- A quiet state is entered from a quiet state. -/
theorem enterQuiet_quiesceSound {st : ShmState} {s : State} (hst : st.isEvent = false) (hquiet : s.shm.state.isEvent = false)
    (hs : QuiesceSound s) : QuiesceSound (enterQuiet st s) := by
  obtain ⟨-, hline⟩ := hs
  exact quiesceSound_of_quiet (by simpa [enterQuiet] using hst) (by simpa [enterQuiet] using hline hquiet)

theorem beginEvent_quiesceSound {st : ShmState} (hst : st.isEvent = true) (n m2 : Nat) (s : State) :
    QuiesceSound (beginEvent st n m2 s) := by
  refine quiesceSound_of_event ?_ ?_ ?_ <;> simp [beginEvent, beginRecord, hst]

/-- The drop of the hold releases the line unless it is kept. -/
theorem leaveEvent_quiesceSound (e : Ending) {st : ShmState} (hst : st.isEvent = false) (s : State) :
    QuiesceSound (leaveEvent e st s) :=
  quiesceSound_of_quiet (by simpa [leaveEvent, dropHold, enterQuiet] using hst) (by simp [leaveEvent, dropHold, enterQuiet])

theorem closeEvent_quiesceSound (e : Ending) {st : ShmState} (hst : st.isEvent = false) (s : State) :
    QuiesceSound (closeEvent e st s) := leaveEvent_quiesceSound e hst _

/-- In an event the line stays asserted and the snapshot stays, where the state stays an event's. -/
theorem updShm_quiesceSound {f : Shm → Shm} {s : State} (hs : QuiesceSound s) (hevent : s.shm.state.isEvent = true)
    (hstate : (f s.shm).state.isEvent = true) (hline : (f s.shm).quiesceLine = s.shm.quiesceLine)
    (hsnap : (f s.shm).snapshot = s.shm.snapshot) : QuiesceSound (updShm f s) := by
  obtain ⟨hasserted, -⟩ := hs
  obtain ⟨hon, hsome⟩ := hasserted hevent
  exact quiesceSound_of_event hstate (by simpa [hline] using hon) (by simpa [hsnap] using hsome)

/-- The hand-over and SETTLING's entry at the end of a window or of a caught fall. -/
theorem windowEnd_quiesceSound {s : State} (hs : QuiesceSound s) (hevent : s.shm.state.isEvent = true) :
    QuiesceSound (windowEnd s) := by
  obtain ⟨hasserted, -⟩ := hs
  obtain ⟨hon, hsome⟩ := hasserted hevent
  refine quiesceSound_of_event ?_ ?_ ?_
  · simp [windowEnd, enterSettling, ShmState.isEvent]
  · simpa [windowEnd, enterSettling, handOver] using hon
  · simpa [windowEnd, enterSettling, handOver] using hsome

theorem testWindow_quiesceSound {s : State} (hs : QuiesceSound s) (hevent : s.shm.state.isEvent = true) :
    QuiesceSound (testWindow s) := by
  unfold testWindow
  split
  · exact windowEnd_quiesceSound hs hevent
  · exact hs

theorem caughtFall_quiesceSound {s : State} (hs : QuiesceSound s) (hevent : s.shm.state.isEvent = true) :
    QuiesceSound (caughtFall s) := by
  obtain ⟨hasserted, -⟩ := hs
  obtain ⟨hon, hsome⟩ := hasserted hevent
  refine quiesceSound_of_event ?_ ?_ ?_
  · simp [caughtFall, enterSettling, ShmState.isEvent]
  · simpa [caughtFall, enterSettling, handOver] using hon
  · simpa [caughtFall, enterSettling, handOver] using hsome

theorem sampleIdle_quiesceSound (m2 : Nat) {s : State} (hs : QuiesceSound s) : QuiesceSound (sampleIdle m2 s) := by
  simp only [sampleIdle]
  split
  · exact testWindow_quiesceSound (beginEvent_quiesceSound rfl _ _ _) (by simp [beginEvent, beginRecord, ShmState.isEvent])
  · exact quiesceSound_of_fields rfl rfl rfl rfl hs
  · split
    · exact beginEvent_quiesceSound rfl _ _ _
    · exact quiesceSound_of_fields rfl rfl rfl rfl hs

theorem sampleFalling_quiesceSound (m2 : Nat) {s : State} (hs : QuiesceSound s) (hfall : s.shm.state = .falling) :
    QuiesceSound (sampleFalling m2 s) := by
  have hevent : s.shm.state.isEvent = true := by rw [hfall]; rfl
  simp only [sampleFalling]
  split
  · exact quiesceSound_of_fields rfl rfl rfl rfl hs
  · split
    · exact caughtFall_quiesceSound (quiesceSound_of_fields (s := s) rfl rfl rfl rfl hs) hevent
    · exact quiesceSound_of_fields (s := s) rfl rfl rfl rfl hs
  · exact testWindow_quiesceSound (updShm_quiesceSound (quiesceSound_of_fields (s := s) rfl rfl rfl rfl hs) hevent rfl rfl rfl) rfl

theorem sampleSettling_quiesceSound (m2 : Nat) {s : State} (hs : QuiesceSound s) : QuiesceSound (sampleSettling m2 s) := by
  unfold sampleSettling
  extract_lets r q
  split
  · exact closeEvent_quiesceSound _ rfl _
  · split
    · exact beginEvent_quiesceSound rfl _ _ _
    · exact quiesceSound_of_fields rfl rfl rfl rfl hs

theorem takeSample_quiesceSound (m2 : Nat) {s : State} (hs : QuiesceSound s) : QuiesceSound (takeSample m2 s) := by
  unfold takeSample
  split
  case h_1 => exact hs
  case h_2 => exact sampleIdle_quiesceSound m2 hs
  case h_3 hstate => exact sampleFalling_quiesceSound m2 hs hstate
  case h_4 hstate =>
    exact testWindow_quiesceSound (quiesceSound_of_fields (s := s) rfl rfl rfl rfl hs) (by rw [updShm_shm, hstate]; rfl)
  case h_5 => exact sampleSettling_quiesceSound m2 hs
  case h_6 hstate => exact sampleIdle_quiesceSound m2 (enterQuiet_quiesceSound rfl (by rw [hstate]; rfl) hs)

theorem acceptSample_quiesceSound (x y z : Int) {s : State} (hs : QuiesceSound s) : QuiesceSound (acceptSample x y z s) := by
  have taken := takeSample_quiesceSound (squaredMagnitude x y z)
    (quiesceSound_of_fields (s := s) (t := updShm (fun m => { m with silence := some 0 }) s) rfl rfl rfl rfl hs)
  simp only [acceptSample, forwardMotion]
  split
  · exact quiesceSound_of_fields rfl rfl rfl rfl taken
  · split
    · exact quiesceSound_of_fields (by simp) (by simp) (by simp) (by simp) taken
    · exact quiesceSound_of_fields rfl rfl rfl rfl taken

theorem settleExpired_quiesceSound {s : State} (hs : QuiesceSound s) : QuiesceSound (settleExpired s) := by
  unfold settleExpired
  split
  · exact closeEvent_quiesceSound _ rfl _
  · exact hs

theorem samplesSilent_quiesceSound {s : State} (hs : QuiesceSound s) : QuiesceSound (samplesSilent s) := by
  unfold samplesSilent
  split
  case h_2 => exact hs
  case h_1 e _ =>
    have stood : QuiesceSound (updShm (fun m => { m with silence := some (max e sampleSilenceLimit) }) s) :=
      quiesceSound_of_fields rfl rfl rfl rfl hs
    unfold sensorLost
    split
    case h_1 => exact stood
    case h_2 hstate => exact enterQuiet_quiesceSound rfl (by rw [hstate]; rfl) stood
    case h_3 => exact leaveEvent_quiesceSound _ rfl _
    case h_4 => exact closeEvent_quiesceSound _ rfl _
    case h_5 => exact closeEvent_quiesceSound _ rfl _
    case h_6 => exact stood

/-! ### Every step -/

theorem armMonitor_quiesceSound {s : State} (hs : QuiesceSound s) (hquiet : s.shm.state.isEvent = false) :
    QuiesceSound (armMonitor s) := by
  have armed : QuiesceSound (enterQuiet .idle s) := enterQuiet_quiesceSound rfl hquiet hs
  simp only [armMonitor]
  split
  · exact enterQuiet_quiesceSound rfl (by simp [enterQuiet, ShmState.isEvent]) armed
  · exact armed

theorem disarmMonitor_quiesceSound {s : State} (hs : QuiesceSound s) : QuiesceSound (disarmMonitor s).state := by
  unfold disarmMonitor
  split
  case h_2 hstate => exact enterQuiet_quiesceSound rfl (by rw [hstate]; rfl) hs
  all_goals exact hs

/-- The kept mark's clearing releases the line outside an event alone. -/
theorem releaseQuiesce_quiesceSound {s : State} (hs : QuiesceSound s) : QuiesceSound (releaseQuiesce s) := by
  unfold releaseQuiesce
  split
  · cases hstate : s.shm.state.isEvent
    · exact quiesceSound_of_quiet (by simpa using hstate) (by simp [hstate])
    · exact updShm_quiesceSound hs hstate hstate (by simp [hstate]) rfl
  · exact hs

theorem owner_quiesceSound (code : Nat) (args : List Byte) (s : State) (h : QuiesceSound s) :
    QuiesceSound (ownerOf code args s).state := by
  unfold ownerOf
  split
  case h_15 =>
    unfold shockArmAnswer
    repeat' split
    · exact armMonitor_quiesceSound h (by rw [‹s.shm.state = _›]; rfl)
    all_goals exact h
  case h_16 =>
    unfold shockDisarmAnswer
    split
    · exact disarmMonitor_quiesceSound h
    · exact h
  case h_17 =>
    unfold quiesceReleaseAnswer
    split
    · exact releaseQuiesce_quiesceSound h
    · exact h
  case h_26 => exact h
  all_goals exact quiesceSound_of_shm (by simp) h

theorem quiesceSound_reset : QuiesceSound State.reset := ⟨by decide, by decide⟩

theorem effect_quiesceSound (i : Instr) (s : State) (hi : Instr.fromReceiver i = false) (h : QuiesceSound s) :
    QuiesceSound (effect i s) := by
  cases i
  case powerOnReset => exact quiesceSound_of_shm (s := State.reset) rfl quiesceSound_reset
  case supplySettleEnd =>
    show QuiesceSound (settleEnds s)
    unfold settleEnds
    split
    · exact quiesceSound_of_fields rfl rfl rfl rfl h
    · exact h
  case accelSample x y z => exact afterSettle_keeps (acceptSample_quiesceSound x y z) h
  case settleTimeout => exact settleExpired_quiesceSound h
  case sampleSilenceTimeout => exact samplesSilent_quiesceSound h
  case table0SwapDelivery block changed =>
    cases block
    case shm =>
      show QuiesceSound (meetSettleLimit _)
      unfold meetSettleLimit
      repeat' split
      · exact settleExpired_quiesceSound h
      all_goals exact h
    all_goals exact quiesceSound_of_shm (by simp [effect, takeParams]) h
  all_goals first
    | exact absurd hi Bool.false_ne_true.symm
    | exact quiesceSound_of_shm (by simp [effect]) h

/-- Settles O55. -/
theorem stepsKeepQuiesceSound : Obligations.StepsKeepQuiesceSound := by
  intro s t h hst
  exact quiesceSound_inner.step owner_quiesceSound (fun _ hu => quiesceSound_of_fields rfl rfl rfl rfl hu) effect_quiesceSound h hst

end Sys2Proof.Machine
end

section
/-! PROOFS. The tables' ranges and validation (chapter 9). -/

namespace Sys2Proof.Machine

/-! ### A table's two copies -/

/-- Both copies have the table's form, the active one is valid, and a staging copy that is apply pending is ready to be swapped. -/
def Copies.Sound {α : Type} (form valid ready : α → Prop) (c : Copies α) : Prop :=
  form c.active ∧ form c.staging ∧ valid c.active ∧ (c.pending = true → ready c.staging)

section
variable {α : Type} {form valid ready : α → Prop} {c : Copies α}

theorem Copies.Sound.swapped (h : c.Sound form valid ready) (hvalid : valid c.staging) : c.swapped.Sound form valid ready := by
  obtain ⟨-, hform, -, -⟩ := h
  exact ⟨hform, hform, hvalid, fun hp => nomatch hp⟩

theorem Copies.Sound.marked (h : c.Sound form valid ready) (hready : ready c.staging) : c.marked.Sound form valid ready := by
  obtain ⟨hactive, hform, hvalid, -⟩ := h
  exact ⟨hactive, hform, hvalid, fun _ => hready⟩

theorem Copies.Sound.stage (h : c.Sound form valid ready) (hp : c.pending = false) {f : α → α} (hf : form (f c.staging)) :
    (c.stage f).Sound form valid ready := by
  obtain ⟨hactive, -, hvalid, -⟩ := h
  exact ⟨hactive, hf, hvalid, fun h => absurd (hp.symm.trans h) Bool.false_ne_true⟩

theorem Copies.Sound.discarded (h : c.Sound form valid ready) (hp : c.pending = false) : c.discarded.Sound form valid ready := by
  obtain ⟨hactive, -, hvalid, -⟩ := h
  exact ⟨hactive, hactive, hvalid, fun h => absurd (hp.symm.trans h) Bool.false_ne_true⟩

theorem Copies.Sound.reset (h : c.Sound form valid ready) : c.reset.Sound form valid ready := by
  obtain ⟨hactive, -, hvalid, -⟩ := h
  exact ⟨hactive, hactive, hvalid, fun hp => nomatch hp⟩

end

/-! ### The five tables -/

/-- A list of a length whose entries lie in the ranges of their indices. -/
def Ranged {α : Type} (n : Nat) (good : Nat → α → Bool) (blank : α) (l : List α) : Prop :=
  l.length = n ∧ ∀ i < n, good i (l.getD i blank) = true

/-- An entry in its range is stored. -/
theorem Ranged.set {α : Type} {n : Nat} {good : Nat → α → Bool} {blank : α} {l : List α} (h : Ranged n good blank l) {i : Nat}
    {v : α} (hv : good i v = true) : Ranged n good blank (l.set i v) := by
  obtain ⟨hlen, hgood⟩ := h
  refine ⟨by rwa [List.length_set], fun j hj => ?_⟩
  by_cases hij : i = j
  · subst hij
    simpa [List.getD_eq_getElem?_getD, hlen, hj] using hv
  · simpa [List.getD_eq_getElem?_getD, List.getElem?_set_ne hij] using hgood j hj

/-- The Table Store's invariant, table by table. -/
structure TableStore.Sound (ts : TableStore) : Prop where
  params : ts.t0.Sound (Ranged 48 paramInRange 0) (fun _ => True) (fun _ => True)
  curve : ts.t1.Sound (fun c => c.points.length = 16) CurveSound CurveSound
  classes : ts.t2.Sound (fun l => l.length = 12) (fun l => ∀ e ∈ l, classSound e = true) (fun l => ∀ e ∈ l, classSound e = true)
  profiles : ts.t3.Sound (fun l => l.length = 6) (fun l => ∀ p ∈ l, profileSound p = true) (fun _ => True)
  levels : ts.t4.Sound (Ranged 32 levelInRange 0) (fun _ => True) (fun _ => True)

theorem tablesSound_iff (s : State) : TablesSound s ↔ s.ts.Sound := by
  constructor
  · rintro ⟨hparams, hlevels, hcurve, hpoints, hready, hcl, hcls, hclasses, hclready, hpl, hpls, hprofiles⟩
    have hactive : s.ts.t1.active.points.length = 16 := hcurve.1
    exact ⟨⟨hparams _ (.inl rfl), hparams _ (.inr rfl), trivial, fun _ => trivial⟩,
      ⟨hactive, hpoints, hcurve, hready⟩, ⟨hcl, hcls, hclasses, hclready⟩, ⟨hpl, hpls, hprofiles, fun _ => trivial⟩,
      ⟨hlevels _ (.inl rfl), hlevels _ (.inr rfl), trivial, fun _ => trivial⟩⟩
  · rintro ⟨⟨hparams, hparams', -, -⟩, ⟨-, hpoints, hcurve, hready⟩, ⟨hcl, hcls, hclasses, hclready⟩, ⟨hpl, hpls, hprofiles, -⟩,
      ⟨hlevels, hlevels', -, -⟩⟩
    refine ⟨?_, ?_, hcurve, hpoints, hready, hcl, hcls, hclasses, hclready, hpl, hpls, hprofiles⟩
    · rintro l (rfl | rfl)
      · exact hparams
      · exact hparams'
    · rintro l (rfl | rfl)
      · exact hlevels
      · exact hlevels'

/-! ### Validation (R172) -/

theorem firstBad_none {α : Type} {good : Nat → α → Bool} {l : List α} {i : Nat} (h : firstBad good i l = none) :
    ∀ x ∈ l, ∃ j, good j x = true := by
  induction l generalizing i with
  | nil => exact fun _ hx => absurd hx List.not_mem_nil
  | cons y rest ih =>
    unfold firstBad at h
    split at h
    · exact List.forall_mem_cons.2 ⟨⟨i, ‹_›⟩, ih h⟩
    · exact nomatch h

/-- Points that pass: each in its ranges and after the one before, the lux strictly rising and the level not falling. -/
theorem badPoint_none {l : List (Nat × Nat)} {i : Nat} {previous : Option (Nat × Nat)} (h : badPoint i previous l = none) :
    (∀ p ∈ l, pointInRange p = true ∧ ∀ q ∈ previous, q.1 < p.1 ∧ q.2 ≤ p.2) ∧ l.Pairwise (fun q p => q.1 < p.1 ∧ q.2 ≤ p.2) := by
  induction l generalizing i previous with
  | nil => exact ⟨fun _ hp => absurd hp List.not_mem_nil, List.Pairwise.nil⟩
  | cons p rest ih =>
    simp only [badPoint] at h
    split_ifs at h with hp
    obtain ⟨hrest, hpairs⟩ := ih h
    have hafter : ∀ x ∈ rest, p.1 < x.1 ∧ p.2 ≤ x.2 := fun x hx => (hrest x hx).2 p rfl
    rw [Bool.and_eq_true] at hp
    obtain ⟨hrange, hfollows⟩ := hp
    have hprev : ∀ q ∈ previous, q.1 < p.1 ∧ q.2 ≤ p.2 := by
      rintro q hq
      cases hq
      simpa using hfollows
    refine ⟨List.forall_mem_cons.2 ⟨⟨hrange, hprev⟩, fun x hx => ⟨(hrest x hx).1, fun q hq => ?_⟩⟩, hpairs.cons hafter⟩
    have hqp := hprev q hq
    have hpx := hafter x hx
    omega

theorem badCurve_none {c : Curve} (hlen : c.points.length = 16) (h : badCurve c = none) : CurveSound c := by
  unfold badCurve at h
  split at h
  case isFalse => exact nomatch h
  case isTrue hcount =>
    obtain ⟨hpoints, hpairs⟩ := badPoint_none h
    simp only [countInRange, Bool.and_eq_true, decide_eq_true_eq] at hcount
    refine ⟨hlen, hcount.1, hcount.2, fun p hp => ?_, ?_, ?_⟩
    · simpa [pointInRange] using (hpoints p hp).1
    · exact hpairs.map _ fun _ _ hqp => hqp.1
    · exact hpairs.map _ fun _ _ hqp => hqp.2

/-! ### The requests on the tables -/

theorem readParam_inRange {index : Nat} {bytes : List Byte} {v : Int} (h : readParam index bytes = some v) :
    paramInRange index v = true := by
  unfold readParam at h
  split at h
  · simp only at h
    split_ifs at h with hrange hsmall
    all_goals
      cases h
      assumption
  · exact absurd h (by simp)

theorem readLevel_inRange {index : Nat} {bytes : List Byte} {v : Nat} (h : readLevel index bytes = some v) :
    levelInRange index v = true := by
  unfold readLevel at h
  split at h
  · split_ifs at h with hrange
    cases h
    exact hrange
  · exact absurd h (by simp)

/-- A write that is stored keeps the tables sound: what is in range is stored, and the table is not apply pending. -/
theorem stageEntry_sound {ts t : TableStore} {table index : Nat} {bytes : List Byte} (hs : ts.Sound)
    (hp : pendingMark ts table = false) (h : stageEntry ts table index bytes = some t) : t.Sound := by
  obtain ⟨hparams, hcurve, hclasses, hprofiles, hlevels⟩ := hs
  rcases table with _ | _ | _ | _ | n
  · obtain ⟨v, hv, rfl⟩ := Option.map_eq_some_iff.1 h
    exact ⟨hparams.stage hp (hparams.2.1.set (readParam_inRange hv)), hcurve, hclasses, hprofiles, hlevels⟩
  · simp only [stageEntry, zero_add] at h
    split at h
    · obtain ⟨n, -, rfl⟩ := Option.map_eq_some_iff.1 h
      exact ⟨hparams, hcurve.stage hp hcurve.2.1, hclasses, hprofiles, hlevels⟩
    · obtain ⟨p, -, rfl⟩ := Option.map_eq_some_iff.1 h
      exact ⟨hparams, hcurve.stage hp (List.length_set.trans hcurve.2.1), hclasses, hprofiles, hlevels⟩
  · obtain ⟨e, -, rfl⟩ := Option.map_eq_some_iff.1 h
    exact ⟨hparams, hcurve, hclasses.stage hp (List.length_set.trans hclasses.2.1), hprofiles, hlevels⟩
  · obtain ⟨p, -, rfl⟩ := Option.map_eq_some_iff.1 h
    exact ⟨hparams, hcurve, hclasses, hprofiles.stage hp (List.length_set.trans hprofiles.2.1), hlevels⟩
  · obtain ⟨v, hv, rfl⟩ := Option.map_eq_some_iff.1 h
    exact ⟨hparams, hcurve, hclasses, hprofiles, hlevels.stage hp (hlevels.2.1.set (readLevel_inRange hv))⟩

theorem tablesSound_of_ts {s t : State} (h : t.ts = s.ts) (hs : TablesSound s) : TablesSound t := by
  rw [tablesSound_iff] at *
  rwa [h]

theorem tablesSound_inner : Inner TablesSound := fun _ _ _ _ _ _ _ hts h => tablesSound_of_ts hts h

theorem writeEntry_tablesSound (table index : Nat) (bytes : List Byte) {s : State} (hs : TablesSound s) :
    TablesSound (writeEntry table index bytes s).state := by
  unfold writeEntry
  split_ifs with htable hindex hlength hpending
  · exact hs
  · exact hs
  · exact hs
  · exact hs
  · split
    · exact hs
    · rw [tablesSound_iff] at hs ⊢
      exact stageEntry_sound hs (Bool.eq_false_iff.2 hpending) ‹_›

theorem swapClasses_ts (s : State) :
    (swapClasses s).ts = if s.ts.t2.pending then { s.ts with t2 := s.ts.t2.swapped } else s.ts := by
  unfold swapClasses
  split <;> simp [Copies.swapped]

theorem swapCurve_ts (s : State) : (swapCurve s).ts = if s.ts.t1.pending then { s.ts with t1 := s.ts.t1.swapped } else s.ts := by
  unfold swapCurve
  split <;> simp [Copies.swapped]

/-- A pending table is swapped once it has passed its validation. -/
theorem swapClasses_tablesSound {s : State} (hs : TablesSound s) : TablesSound (swapClasses s) := by
  rw [tablesSound_iff] at *
  obtain ⟨hparams, hcurve, hclasses, hprofiles, hlevels⟩ := hs
  rw [swapClasses_ts]
  split
  case isTrue hp => exact ⟨hparams, hcurve, hclasses.swapped (hclasses.2.2.2 hp), hprofiles, hlevels⟩
  case isFalse => exact ⟨hparams, hcurve, hclasses, hprofiles, hlevels⟩

theorem swapCurve_tablesSound {s : State} (hs : TablesSound s) : TablesSound (swapCurve s) := by
  rw [tablesSound_iff] at *
  obtain ⟨hparams, hcurve, hclasses, hprofiles, hlevels⟩ := hs
  rw [swapCurve_ts]
  split
  case isTrue hp => exact ⟨hparams, hcurve.swapped (hcurve.2.2.2 hp), hclasses, hprofiles, hlevels⟩
  case isFalse => exact ⟨hparams, hcurve, hclasses, hprofiles, hlevels⟩

/-- An apply whose staging has no bad entry is swapped at once or marked. -/
theorem applied_tablesSound {table : Nat} {s : State} (hs : TablesSound s) (hbad : firstBadEntry s.ts table = none) :
    TablesSound (applied table s) := by
  obtain ⟨hparams, hcurve, hclasses, hprofiles, hlevels⟩ := (tablesSound_iff s).1 hs
  rcases table with _ | _ | _ | _ | n
  · exact tablesSound_of_ts (s := updTs (fun ts => { ts with t0 := ts.t0.swapped }) s) (by simp [applied, swapParams])
      ((tablesSound_iff _).2 ⟨hparams.swapped trivial, hcurve, hclasses, hprofiles, hlevels⟩)
  · rw [tablesSound_iff]
    exact ⟨hparams, hcurve.marked (badCurve_none hcurve.2.1 hbad), hclasses, hprofiles, hlevels⟩
  · have hgood : ∀ e ∈ s.ts.t2.staging, classSound e = true := fun e he => (firstBad_none hbad e he).choose_spec
    have hmarked : TablesSound (updTs (fun ts => { ts with t2 := ts.t2.marked }) s) :=
      (tablesSound_iff _).2 ⟨hparams, hcurve, hclasses.marked hgood, hprofiles, hlevels⟩
    simp only [applied]
    split
    · exact hmarked
    · exact swapClasses_tablesSound hmarked
  · have hgood : ∀ p ∈ s.ts.t3.staging, profileSound p = true := fun p hp => (firstBad_none hbad p hp).choose_spec
    exact tablesSound_of_ts (s := updTs (fun ts => { ts with t3 := ts.t3.swapped }) s) (by simp [applied, swapProfiles])
      ((tablesSound_iff _).2 ⟨hparams, hcurve, hclasses, hprofiles.swapped hgood, hlevels⟩)
  · exact tablesSound_of_ts (s := updTs (fun ts => { ts with t4 := ts.t4.swapped }) s) (by simp [applied, swapLevels])
      ((tablesSound_iff _).2 ⟨hparams, hcurve, hclasses, hprofiles, hlevels.swapped trivial⟩)

theorem applyTable_tablesSound (table : Nat) {s : State} (hs : TablesSound s) : TablesSound (applyTable table s).state := by
  unfold applyTable
  split_ifs with htable hpending
  · exact hs
  · exact hs
  · split
    · exact hs
    · exact applied_tablesSound hs ‹_›

theorem discardTable_tablesSound (table : Nat) {s : State} (hs : TablesSound s) : TablesSound (discardTable table s).state := by
  unfold discardTable
  split_ifs with htable hpending
  · exact hs
  · exact hs
  · obtain ⟨hparams, hcurve, hclasses, hprofiles, hlevels⟩ := (tablesSound_iff s).1 hs
    have hp : pendingMark s.ts table = false := Bool.eq_false_iff.2 hpending
    refine (tablesSound_iff _).2 ?_
    rcases table with _ | _ | _ | _ | n
    · exact ⟨hparams.discarded hp, hcurve, hclasses, hprofiles, hlevels⟩
    · exact ⟨hparams, hcurve.discarded hp, hclasses, hprofiles, hlevels⟩
    · exact ⟨hparams, hcurve, hclasses.discarded hp, hprofiles, hlevels⟩
    · exact ⟨hparams, hcurve, hclasses, hprofiles.discarded hp, hlevels⟩
    · exact ⟨hparams, hcurve, hclasses, hprofiles, hlevels.discarded hp⟩

theorem resetTables_tablesSound {s : State} (hs : TablesSound s) : TablesSound (resetTables s) := by
  obtain ⟨hparams, hcurve, hclasses, hprofiles, hlevels⟩ := (tablesSound_iff s).1 hs
  exact (tablesSound_iff _).2 ⟨hparams.reset, hcurve.reset, hclasses.reset, hprofiles.reset, hlevels.reset⟩

/-! ### Every step -/

theorem tablesSound_shm : ShmKeeps TablesSound where
  shm _ _ := tablesSound_of_ts rfl
  deliver _ _ := tablesSound_of_ts rfl
  raise _ _ := tablesSound_of_ts (by simp)
  hand _ _ := tablesSound_of_ts (by simp)
  event _ _ := tablesSound_of_ts (by simp)
  close _ _ := tablesSound_of_ts (by simp)
  classes _ := swapClasses_tablesSound

theorem armMonitor_tablesSound {s : State} (hs : TablesSound s) : TablesSound (armMonitor s) := by
  have armed := tablesSound_shm.enterQuiet .idle hs
  simp only [armMonitor]
  split
  · exact tablesSound_shm.enterQuiet _ armed
  · exact armed

theorem takeLight_tablesSound (x : LightSensor) (lux : Nat) (v : Bool) {s : State} (hs : TablesSound s) :
    TablesSound (takeLight x lux v s) := by
  have stored : TablesSound (storeLight x lux v s) := tablesSound_of_ts (by simp) hs
  simp only [takeLight]
  split
  · exact tablesSound_of_ts (by simp [filterStep, filterLight]) (swapCurve_tablesSound stored)
  · exact stored

theorem owner_tablesSound (code : Nat) (args : List Byte) (s : State) (h : TablesSound s) :
    TablesSound (ownerOf code args s).state := by
  unfold ownerOf
  split
  case h_4 =>
    unfold tableWriteAnswer
    split
    · exact writeEntry_tablesSound _ _ _ h
    · exact h
  case h_5 =>
    unfold tableApplyAnswer
    split
    · exact applyTable_tablesSound _ h
    · exact h
  case h_6 =>
    unfold tableDiscardAnswer
    split
    · exact discardTable_tablesSound _ h
    · exact h
  case h_15 =>
    unfold shockArmAnswer
    repeat' split
    · exact armMonitor_tablesSound h
    all_goals exact h
  case h_16 =>
    unfold shockDisarmAnswer disarmMonitor
    repeat' split
    · exact h
    · exact tablesSound_shm.enterQuiet _ h
    all_goals exact h
  case h_26 => exact h
  all_goals exact tablesSound_of_ts (by simp) h

theorem tablesSound_reset : TablesSound State.reset := by
  have params : Ranged 48 paramInRange 0 State.reset.ts.t0.active := ⟨by decide, by decide⟩
  have levels : Ranged 32 levelInRange 0 State.reset.ts.t4.active := ⟨by decide, by decide⟩
  have curve : CurveSound State.reset.ts.t1.active := badCurve_none (by decide) (by decide)
  exact (tablesSound_iff _).2 ⟨⟨params, params, trivial, fun _ => trivial⟩, ⟨by decide, by decide, curve, fun _ => curve⟩,
    ⟨by decide, by decide, by decide, by decide⟩, ⟨by decide, by decide, by decide, fun _ => trivial⟩,
    ⟨levels, levels, trivial, fun _ => trivial⟩⟩

theorem effect_tablesSound (i : Instr) (s : State) (hi : Instr.fromReceiver i = false) (h : TablesSound s) :
    TablesSound (effect i s) := by
  cases i
  case powerOnReset => exact tablesSound_of_ts (s := State.reset) rfl tablesSound_reset
  case lightSample x lux v => exact afterSettle_keeps (takeLight_tablesSound x lux v) h
  case accelSample x y z => exact afterSettle_keeps (tablesSound_shm.acceptSample x y z) h
  case settleTimeout => exact tablesSound_shm.settleExpired h
  case sampleSilenceTimeout => exact tablesSound_shm.samplesSilent h
  case managementReset =>
    exact tablesSound_of_ts (by simp [effect, managementReset])
      (resetTables_tablesSound (s := resetLink (take .managementReset s)) h)
  case table0SwapDelivery block changed =>
    cases block
    case shm => exact tablesSound_shm.meetSettleLimit h
    all_goals exact tablesSound_of_ts (by simp [effect, takeParams]) h
  all_goals first
    | exact absurd hi Bool.false_ne_true.symm
    | exact tablesSound_of_ts (by simp [effect]) h

/-- Settles O58. -/
theorem stepsKeepTablesSound : Obligations.StepsKeepTablesSound := by
  intro s t h hst
  exact tablesSound_inner.step owner_tablesSound (fun _ hu => hu) effect_tablesSound h hst

end Sys2Proof.Machine
end

section
/-! PROOFS. One pass over the power path, the bay bus and the charge controller: what holds of the link's collections, the posted writes and
the pack memory is kept by every operation, because each is made of a few moves. -/

namespace Sys2Proof.Machine

/-! ### The moves -/

/-- A move that leaves the pack memory and every bay's state and identity, and adds nothing to the link's collections or the posted
writes. -/
structure Quiet (s t : State) : Prop where
  notices : t.lu.notices.Sublist s.lu.notices
  traffic : t.lu.traffic.length ≤ s.lu.traffic.length
  responses : t.lu.responses.length ≤ s.lu.responses.length
  posted : t.bbc.posted.length ≤ s.bbc.posted.length
  memory : t.cc.memory = s.cc.memory
  packs : ∀ b, (bayOf t b).state = (bayOf s b).state ∧ (bayOf t b).identity = (bayOf s b).identity

/-- States that agree on the link, the bus, the charge controller and the power path. -/
theorem Quiet.of_parts {s t : State} (hlu : t.lu = s.lu) (hbbc : t.bbc = s.bbc) (hcc : t.cc = s.cc) (hppc : t.ppc = s.ppc) :
    Quiet s t where
  notices := hlu ▸ List.Sublist.refl _
  traffic := (congrArg (fun l : Lu => l.traffic.length) hlu).le
  responses := (congrArg (fun l : Lu => l.responses.length) hlu).le
  posted := (congrArg (fun c : Bbc => c.posted.length) hbbc).le
  memory := congrArg Cc.memory hcc
  packs b := by
    rw [bayOf_congr hppc]
    exact ⟨rfl, rfl⟩

/-- A change of the power path's record that leaves the bays. -/
theorem Quiet.ppc {f : Ppc → Ppc} {s : State} (h : (f s.ppc).bays = s.ppc.bays) : Quiet s (updPpc f s) where
  notices := .refl _
  traffic := le_rfl
  responses := le_rfl
  posted := le_rfl
  memory := rfl
  packs b := by simp [bayOf, h]

theorem bay_eq_or_other (b x : Bay) : x = b ∨ x = b.other := by
  cases b <;> cases x <;> simp [Bay.other]

/-- A change of a bay's record that leaves its state and identity. -/
theorem Quiet.bay {b : Bay} {f : BayRecord → BayRecord} {s : State} (hstate : (f (bayOf s b)).state = (bayOf s b).state)
    (hid : (f (bayOf s b)).identity = (bayOf s b).identity) : Quiet s (updBay b f s) where
  notices := .refl _
  traffic := le_rfl
  responses := le_rfl
  posted := le_rfl
  memory := rfl
  packs x := by
    rcases bay_eq_or_other b x with rfl | rfl
    · rw [bayOf_updBay_same]
      exact ⟨hstate, hid⟩
    · rw [bayOf_updBay_other]
      exact ⟨rfl, rfl⟩

/-- A change of the bus that adds no posted write. -/
theorem Quiet.bbc {s : State} (c : Bbc) (h : c.posted.length ≤ s.bbc.posted.length) : Quiet s { s with bbc := c } where
  notices := .refl _
  traffic := le_rfl
  responses := le_rfl
  posted := h
  memory := rfl
  packs _ := ⟨rfl, rfl⟩

/-- A change of the charge controller that leaves the pack memory. -/
theorem Quiet.cc {s : State} (c : Cc) (h : c.memory = s.cc.memory) : Quiet s { s with cc := c } where
  notices := .refl _
  traffic := le_rfl
  responses := le_rfl
  posted := le_rfl
  memory := h
  packs _ := ⟨rfl, rfl⟩

/-- A change of the link that adds to none of its collections. -/
theorem Quiet.lu {s : State} (l : Lu) (hn : l.notices.Sublist s.lu.notices) (ht : l.traffic.length ≤ s.lu.traffic.length)
    (hr : l.responses.length ≤ s.lu.responses.length) : Quiet s { s with lu := l } where
  notices := hn
  traffic := ht
  responses := hr
  posted := le_rfl
  memory := rfl
  packs _ := ⟨rfl, rfl⟩

/-- A property that quiet moves keep, and notices, frames, a bay's move to a state and an entry changed in place. -/
structure PathKeeps (P : State → Prop) : Prop where
  quiet : ∀ s t, Quiet s t → P s → P t
  raise : ∀ n s, P s → P (raise n s)
  hand : ∀ t s, P s → P (handTraffic t s)
  enter : ∀ b st s, P s → P (enterBay b st s)
  entry : ∀ n f s, (∀ e, (f e).serial = e.serial) → P s → P (updMemory (changeEntry n f) s)
  adopt : ∀ b id t s, (bayOf s b).state ≠ .empty → P s → P (adoptPack b id t s)

section
variable {P : State → Prop} (hP : PathKeeps P) {s : State}
include hP

namespace PathKeeps

/-! ### Moves by the part they change -/

theorem parts {t : State} (h : P s) (hlu : t.lu = s.lu) (hbbc : t.bbc = s.bbc) (hcc : t.cc = s.cc) (hppc : t.ppc = s.ppc) : P t :=
  hP.quiet s t (.of_parts hlu hbbc hcc hppc) h

theorem deliver (e : Instr) (h : P s) : P (deliver e s) := hP.parts h rfl rfl rfl rfl

theorem take (e : Instr) (h : P s) : P (take e s) := hP.parts h rfl rfl rfl rfl

theorem tellBudget (h : P s) : P (tellBudget s) := hP.deliver _ h

theorem tellBudgetIf (c : Bool) (h : P s) : P (tellBudgetIf c s) := by
  unfold Machine.tellBudgetIf
  split
  · exact hP.tellBudget h
  · exact h

theorem raiseIf (c : Bool) (n : Notice) (h : P s) : P (raiseIf c n s) := by
  unfold Machine.raiseIf
  split
  · exact hP.raise n s h
  · exact h

theorem ppc {f : Ppc → Ppc} (hf : (f s.ppc).bays = s.ppc.bays) (h : P s) : P (updPpc f s) := hP.quiet s _ (.ppc hf) h

theorem bay {b : Bay} {f : BayRecord → BayRecord} (hstate : (f (bayOf s b)).state = (bayOf s b).state)
    (hid : (f (bayOf s b)).identity = (bayOf s b).identity) (h : P s) : P (updBay b f s) := hP.quiet s _ (.bay hstate hid) h

theorem bbc {c : Bbc} (hc : c.posted = s.bbc.posted) (h : P s) : P { s with bbc := c } :=
  hP.quiet s _ (.bbc c (congrArg List.length hc).le) h

theorem bus (b : Bay) (f : BayBus → BayBus) (h : P s) : P (updBus b f s) := hP.bbc rfl h

theorem cc {c : Cc} (hc : c.memory = s.cc.memory) (h : P s) : P { s with cc := c } := hP.quiet s _ (.cc c hc) h

/-! ### The charge controller (chapter 4) -/

theorem handList (k : ListKind) (w : List (Nat × Nat)) (h : P s) : P (handList k w s) := by
  unfold Machine.handList
  split
  · exact hP.bbc rfl h
  · exact h

theorem startAttempt (b : Bay) (h : P s) : P (startAttempt b s) := by
  unfold Machine.startAttempt
  split
  · exact hP.handList _ _ (hP.cc rfl h)
  · exact h

theorem abandonAttempt (h : P s) : P (abandonAttempt s) := hP.handList _ _ (hP.cc rfl (hP.bbc rfl h))

theorem chooseAttempt (h : P s) : P (chooseAttempt s) := by
  unfold Machine.chooseAttempt
  repeat' split
  · exact h
  · exact hP.startAttempt _ h
  · exact h

theorem arbitrate (h : P s) : P (arbitrate s) := by
  unfold Machine.arbitrate
  repeat' split
  · exact hP.chooseAttempt h
  · exact h
  · exact hP.chooseAttempt (hP.abandonAttempt h)
  · exact h

theorem endSession (h : P s) : P (endSession s) := hP.arbitrate (hP.handList _ _ (hP.tellBudget (hP.cc rfl h)))

theorem sessionStopped (b : Bay) (r : Option HeldReason) (h : P s) : P (sessionStopped b r s) := by
  unfold Machine.sessionStopped
  repeat' split
  · exact hP.endSession (hP.raise _ s h)
  · exact hP.endSession h
  · exact h

theorem openCharge (b : Bay) (st : BayState) (h : P s) : P (openCharge b st s) := hP.enter _ _ _ (hP.bay rfl rfl h)

theorem openChargeForCc (b : Bay) (h : P s) : P (openChargeForCc b s) := by
  unfold Machine.openChargeForCc
  split
  · exact hP.openCharge _ _ h
  · exact h

theorem stopSession (b : Bay) (r : HeldReason) (h : P s) : P (stopSession b r s) :=
  hP.endSession (hP.raise _ _ (hP.openChargeForCc b h))

theorem stopCharging (b : Bay) (h : P s) : P (stopCharging b s) := by
  unfold Machine.stopCharging
  split
  · exact hP.sessionStopped _ _ (hP.openCharge _ _ h)
  · exact h

theorem stopAllCharging (h : P s) : P (stopAllCharging s) := hP.stopCharging _ (hP.stopCharging _ h)

theorem chargerLosesDc (h : P s) : P (chargerLosesDc s) := by
  simp only [Machine.chargerLosesDc]
  split
  · exact hP.cc rfl (hP.cc rfl (hP.bbc rfl h))
  · exact hP.cc rfl (hP.bbc rfl h)

theorem countFailure (r : TxResult) (h : P s) : P (countFailure r s) := hP.raiseIf _ _ (hP.cc rfl h)

theorem closeCharge (b : Bay) (i : Nat) (v : Recorded) (h : P s) : P (closeCharge b i v s) :=
  hP.tellBudget (hP.raise _ _ (hP.cc rfl (hP.enter _ _ _ (hP.bay rfl rfl h))))

theorem startDone (h : P s) : P (startDone s) := by
  have cleared : P { s with cc := { s.cc with failedLists := 0 } } := hP.cc rfl h
  simp only [Machine.startDone]
  repeat' split
  · exact hP.closeCharge _ _ _ cleared
  · exact hP.abandonAttempt cleared
  · exact cleared

theorem listDone (k : ListKind) (h : P s) : P (listDone k s) := by
  unfold Machine.listDone
  split
  · exact hP.arbitrate (hP.startDone h)
  · exact hP.arbitrate (hP.cc rfl h)

theorem listFailed (k : ListKind) (r : TxResult) (h : P s) : P (listFailed k r s) := by
  simp only [Machine.listFailed]
  repeat' split
  · exact hP.handList _ _ (hP.countFailure _ (hP.cc rfl h))
  · exact hP.handList _ _ (hP.countFailure _ h)
  · exact hP.countFailure _ h
  · exact h

theorem markSerials (seq : Option Nat) (serials : List Nat) (h : P s) : P (serials.foldl (markSerial seq) s) := by
  induction serials generalizing s with
  | nil => exact h
  | cons n rest ih => exact ih (hP.entry _ _ _ (fun _ => rfl) h)

theorem markPacks (serials : List Nat) (seq : Option Nat) (h : P s) : P (markPacks serials seq s) := by
  have marked := hP.markSerials seq serials h
  simp only [Machine.markPacks]
  repeat' split
  · exact hP.stopSession _ _ marked
  · exact hP.arbitrate (hP.abandonAttempt marked)
  · exact marked
  · exact marked

theorem rematch (b : Bay) (h : P s) : P (rematch b s) := by
  unfold Machine.rematch
  split
  · exact hP.tellBudgetIf _ (hP.bay rfl rfl h)
  · exact h

theorem rematchAll (h : P s) : P (rematchAll s) := by
  have matched := hP.rematch .B (hP.rematch .A h)
  simp only [Machine.rematchAll]
  refine hP.arbitrate ?_
  repeat' split
  · exact hP.stopSession _ _ matched
  · exact matched
  · exact hP.arbitrate (hP.abandonAttempt matched)
  · exact matched
  · exact matched

theorem sessionDone (b : Bay) (c : Nat) (h : P s) : P (sessionDone b c s) :=
  hP.endSession (hP.raise _ _ (hP.cc rfl (hP.openChargeForCc b h)))

theorem chargeTelemetry (b : Bay) (t : Telemetry) (h : P s) : P (chargeTelemetry b t s) := by
  unfold Machine.chargeTelemetry sessionTelemetry
  split
  · refine hP.arbitrate ?_
    have charged (n : Nat) := hP.entry n (fun e => { e with lastCharge := t.charge }) s (fun _ => rfl) h
    repeat' split
    · exact hP.stopSession _ _ (charged _)
    · exact hP.sessionDone _ _ (charged _)
    all_goals exact charged _
  · exact h

/-! ### Switches and transfers (chapter 2) -/

theorem pathChanged (old : State) (h : P s) : P (pathChanged old s) := hP.tellBudgetIf _ (hP.tellBudgetIf _ (hP.ppc rfl h))

theorem setSwitch (x : Source) (v : Bool) (h : P s) : P (setSwitch x v s) := by
  unfold Machine.setSwitch driveSwitch
  split
  · exact hP.pathChanged s (hP.ppc rfl h)
  · exact hP.pathChanged s (hP.bay rfl rfl h)

theorem feed (x : Source) (h : P s) : P (feed x s) := by
  cases x
  · exact hP.setSwitch _ _ h
  · exact hP.enter _ _ _ (hP.setSwitch _ _ h)

theorem setWaiting (w : Option WaitCause) (h : P s) : P (setWaiting w s) := hP.ppc rfl h

theorem setTransfer (t : Option Transfer) (h : P s) : P (setTransfer t s) := hP.ppc rfl h

theorem clearTarget (y : Source) (h : P s) : P (clearTarget y s) := by
  cases y
  · exact h
  · exact hP.stopCharging _ h

theorem leaveLoad (x : Source) (h : P s) : P (leaveLoad x s) := by
  unfold Machine.leaveLoad
  repeat' split
  · exact h
  · exact hP.arbitrate (hP.enter _ _ _ h)
  · exact h

theorem startTransfer (x y : Source) (m : Method) (c : Cause) (h : P s) : P (startTransfer x y m c s) := by
  have recorded := hP.setTransfer (some ⟨some x, y, m, m, true, c, 0⟩) (hP.setWaiting none (hP.clearTarget y h))
  cases m
  · exact hP.feed _ recorded
  · exact hP.leaveLoad _ (hP.setSwitch _ _ recorded)

theorem startGap (x : Option Source) (y : Source) (c : Cause) (h : P s) : P (startGap x y c s) :=
  hP.setTransfer _ (hP.setWaiting none h)

theorem dropStaleWaiting (h : P s) : P (dropStaleWaiting s) := by
  unfold Machine.dropStaleWaiting
  repeat' split
  all_goals first
    | exact h
    | exact hP.setWaiting none h

theorem retryWaiting (h : P s) : P (retryWaiting s).1 := by
  unfold Machine.retryWaiting
  repeat' split
  · exact hP.startTransfer _ _ _ _ h
  all_goals exact h

theorem seekTransfer (b : Bay) (y : Source) (c : Cause) (w : WaitCause) (h : P s) : P (seekTransfer b y c w s) := by
  unfold Machine.seekTransfer
  repeat' split
  · exact hP.startTransfer _ _ _ _ h
  · exact hP.setWaiting _ h
  · exact h

theorem giveUpLoad (b : Bay) (h : P s) : P (giveUpLoad b s) := by
  simp only [Machine.giveUpLoad]
  split_ifs
  · exact hP.seekTransfer _ _ _ _ h
  · exact hP.seekTransfer _ _ _ _ h
  · exact h
  · exact hP.raiseIf _ _ h

theorem chooseSource (h : P s) : P (chooseSource s) := by
  unfold Machine.chooseSource
  repeat' split
  · exact h
  · exact hP.seekTransfer _ _ _ _ h
  · exact hP.startGap _ _ _ h
  · exact hP.giveUpLoad _ h
  · exact h
  · exact hP.startGap _ _ _ (hP.clearTarget _ h)
  · exact h

theorem select (h : P s) : P (select s) := by
  have tried := hP.retryWaiting (hP.dropStaleWaiting h)
  unfold Machine.select
  split
  · exact h
  · split <;> rename_i heq <;> rw [heq] at tried
    · exact tried
    · exact hP.chooseSource tried

/-! ### Releases -/

theorem setPending (b : Bay) (v : Bool) (h : P s) : P (setPending b v s) := hP.bay rfl rfl h

theorem clearForced (h : P s) : P (clearForced s) := hP.tellBudgetIf _ (hP.ppc rfl h)

theorem clearForcedOf (b : Bay) (h : P s) : P (clearForcedOf b s) := by
  unfold Machine.clearForcedOf
  repeat' split
  · exact hP.clearForced h
  all_goals exact h

theorem goReleased (b : Bay) (h : P s) : P (goReleased b s) := by
  unfold Machine.goReleased
  split
  · exact hP.setPending _ _ (hP.enter _ _ _ h)
  · exact hP.raise _ _ (hP.enter _ _ _ h)

theorem seekRelease (b : Bay) (h : P s) : P (seekRelease b s).1 := by
  unfold Machine.seekRelease
  repeat' split
  · exact h
  · exact h
  · exact hP.startTransfer _ _ _ _ (hP.enter _ _ _ (hP.clearForcedOf _ h))

theorem refuseRelease (b : Bay) (r : RefusalReason) (h : P s) : P (refuseRelease b r s) := by
  have raised := hP.raise (.releaseRefused b r) s h
  simp only [Machine.refuseRelease]
  split_ifs
  · exact hP.setPending _ _ raised
  · exact raised
  · exact hP.bay rfl rfl raised
  · exact hP.bay rfl rfl raised
  · exact raised

theorem turnIntoRelease (b : Bay) (h : P s) : P (turnIntoRelease b s) := by
  have cleared := hP.clearForcedOf b h
  simp only [Machine.turnIntoRelease]
  split
  · exact hP.ppc rfl cleared
  · exact hP.ppc rfl (hP.enter _ _ _ cleared)

theorem releaseSupplying (b : Bay) (h : P s) : P (releaseSupplying b s).1 := by
  have sought := hP.seekRelease b h
  unfold Machine.releaseSupplying
  split
  · exact hP.setPending _ _ h
  · split <;> rename_i heq <;> rw [heq] at sought
    · exact sought
    · exact hP.refuseRelease _ _ sought
    · exact hP.refuseRelease _ _ sought

theorem releaseCharging (b : Bay) (h : P s) : P (releaseCharging b s) :=
  hP.sessionStopped _ _ (hP.goReleased _ (hP.bay rfl rfl h))

theorem releaseRequest (b : Bay) (h : P s) : P (releaseRequest b s).1 := by
  unfold Machine.releaseRequest
  split_ifs
  · exact hP.setPending _ _ h
  · exact hP.setPending _ _ h
  · exact hP.turnIntoRelease _ h
  · split
    · exact h
    · exact h
    · exact hP.goReleased _ h
    · exact hP.goReleased _ h
    · exact hP.goReleased _ h
    · exact hP.releaseCharging _ h
    · exact hP.releaseSupplying _ h
    · exact h
    · exact h

theorem evaluatePending (b : Bay) (h : P s) : P (evaluatePending b s) := by
  unfold Machine.evaluatePending
  split
  · exact hP.releaseRequest _ (hP.setPending _ _ h)
  · exact h

theorem freeOrder (h : P s) : P (freeOrder s).2 := hP.parts h rfl rfl rfl rfl

theorem evaluatePendings (h : P s) : P (evaluatePendings s) := by
  unfold Machine.evaluatePendings
  extract_lets o
  split_ifs
  · exact hP.evaluatePending _ (hP.evaluatePending _ (hP.freeOrder h))
  · exact hP.evaluatePending _ (hP.evaluatePending _ (hP.freeOrder h))
  · exact hP.evaluatePending _ (hP.evaluatePending _ h)

theorem graceTest (h : P s) : P (graceTest s) := by
  unfold Machine.graceTest
  split
  · exact h
  · split_ifs
    · exact hP.setPending _ _ (hP.clearForced h)
    · exact h
    · exact hP.turnIntoRelease _ h
    · exact h
    · exact hP.seekRelease _ h
    · exact h

theorem graceTestFor (b : Bay) (h : P s) : P (graceTestFor b s) := by
  unfold Machine.graceTestFor
  repeat' split
  · exact hP.graceTest h
  all_goals exact h

theorem graceLeft (h : P s) : P (graceLeft s) := by
  unfold Machine.graceLeft
  repeat' split
  · exact h
  · exact hP.releaseRequest _ (hP.clearForced h)
  · exact h

theorem selectSource (h : P s) : P (selectSource s) := hP.graceLeft (hP.select h)

theorem becameStandby (b : Bay) (h : P s) : P (becameStandby b s) := hP.selectSource (hP.graceTestFor b (hP.arbitrate h))

/-! ### The end of a transfer and its losses -/

theorem endTransfer (c : Bool) (h : P s) : P (endTransfer c s) := by
  unfold Machine.endTransfer
  split
  · exact h
  · have selected (n : Notice) := hP.selectSource (hP.arbitrate (hP.raise n _ (hP.setTransfer none h)))
    refine hP.graceTest ?_
    split
    · exact selected _
    · exact hP.evaluatePendings (selected _)

theorem sourceEnds (x : Option Source) (h : P s) : P (sourceEnds x s) := by
  unfold Machine.sourceEnds
  split
  · split_ifs
    · exact hP.goReleased _ h
    · exact hP.enter _ _ _ h
    · exact h
  · exact h

theorem openSource (x : Option Source) (h : P s) : P (openSource x s) := by
  cases x
  · exact h
  · exact hP.setSwitch _ _ h

theorem completeOverlap (t : Transfer) (h : P s) : P (completeOverlap t s) :=
  hP.endTransfer _ (hP.sourceEnds _ (hP.openSource _ h))

theorem completeBridge (t : Transfer) (h : P s) : P (completeBridge t s) := by
  unfold Machine.completeBridge
  split
  · exact hP.refuseRelease _ _ (hP.endTransfer _ (hP.feed _ h))
  · exact hP.endTransfer _ (hP.sourceEnds _ (hP.feed _ h))

theorem unplannedTransfer (x : Source) (c : Cause) (h : P s) : P (unplannedTransfer x c s) := by
  have stale := hP.dropStaleWaiting (hP.stopAllCharging h)
  simp only [Machine.unplannedTransfer]
  repeat' split
  · exact hP.selectSource stale
  · exact hP.startGap _ _ _ stale
  · exact hP.raise _ _ stale

theorem releaseAgain (b : Bay) (h : P s) : P (releaseAgain b s) := by
  have sought := hP.seekRelease b h
  unfold Machine.releaseAgain
  split_ifs
  · exact hP.setPending _ _ (hP.enter _ _ _ h)
  · exact hP.setPending _ _ (hP.enter _ _ _ h)
  · exact hP.turnIntoRelease _ h
  · split <;> rename_i heq <;> rw [heq] at sought
    · exact sought
    · exact hP.refuseRelease _ _ (hP.enter _ _ _ sought)
    · exact hP.refuseRelease _ _ (hP.enter _ _ _ sought)

theorem retarget (t : Transfer) (y : Source) (c : Cause) (h : P s) : P (retarget t y c s) :=
  hP.setWaiting none (hP.setTransfer _ h)

theorem targetLost (c : Cause) (h : P s) : P (targetLost c s) := by
  have aborted := hP.endTransfer false h
  have stale := hP.dropStaleWaiting (hP.stopAllCharging h)
  unfold Machine.targetLost
  split
  · exact h
  · simp only
    split
    · split
      · exact hP.releaseAgain _ aborted
      · exact aborted
    · split
      · exact hP.retarget _ _ _ stale
      · exact hP.retarget _ _ _ stale
      · exact hP.raise _ _ (hP.endTransfer _ stale)

/-! ### The rail, removals and DC -/

theorem openAllSwitches (h : P s) : P (openAllSwitches s) := by
  simp only [Machine.openAllSwitches]
  exact hP.bay rfl rfl (hP.bay rfl rfl (hP.ppc rfl h))

theorem setDown (b : Bay) (h : P s) : P (setDown b s) := by
  unfold Machine.setDown
  split
  · exact hP.enter _ _ _ h
  · exact hP.stopCharging _ h

theorem releaseReleasing (b : Bay) (h : P s) : P (releaseReleasing b s) := by
  unfold Machine.releaseReleasing
  split
  · exact hP.goReleased _ h
  · exact h

theorem railOff (r : OffReason) (h : P s) : P (railOff r s) := by
  have off := hP.deliver (.blcRailChange false) (hP.pathChanged s
    (hP.ppc (f := fun p => { p with railOn := false, offReason := r, waiting := none }) rfl (hP.openAllSwitches h)))
  exact hP.arbitrate (hP.endTransfer _ (hP.releaseReleasing _ (hP.releaseReleasing _ (hP.setDown _ (hP.setDown _ off)))))

theorem railOffReleasing (r : OffReason) (h : P s) : P (railOffReleasing r s) := by
  unfold Machine.railOffReleasing
  split
  · exact hP.goReleased _ (hP.railOff _ (hP.clearForced h))
  · exact hP.railOff _ h

theorem bridgeExpired (h : P s) : P (bridgeExpired s) := by
  unfold Machine.bridgeExpired
  split
  · exact hP.graceLeft (hP.railOff _ h)
  · exact h

theorem forcedRemoval (b : Bay) (h : P s) : P (forcedRemoval b s) := by
  have gone := hP.sessionStopped b none (hP.clearForcedOf b (hP.raise (.forcedRemoval b (bayOf s b).state) _
    (hP.enter b .empty _ (hP.setSwitch (.bay b) false (hP.bay (b := b) (f := fun r => { r with charge := false }) rfl rfl h)))))
  simp only [Machine.forcedRemoval]
  repeat' split
  · exact hP.targetLost _ gone
  · exact hP.endTransfer _ gone
  · exact gone
  · exact gone
  · exact hP.unplannedTransfer _ _ gone
  · exact gone

theorem dcArrived (h : P s) : P (dcArrived s) := hP.selectSource (hP.graceTest (hP.raise _ _ h))

theorem dcGone (h : P s) : P (dcGone s) := by
  have told := hP.raise (.dcDetached s.ppc.vdc) s h
  have unattached : P (if attachPending (Machine.raise (.dcDetached s.ppc.vdc) s) then
      Machine.setWaiting none (Machine.raise (.dcDetached s.ppc.vdc) s) else Machine.raise (.dcDetached s.ppc.vdc) s) := by
    split
    · exact hP.setWaiting none told
    · exact told
  have opened := hP.setSwitch .dc false (hP.tellBudget (hP.chargerLosesDc unattached))
  unfold Machine.dcGone
  extract_lets s1 s2 s3 target feeding s4
  split_ifs
  · exact hP.targetLost _ (hP.stopAllCharging opened)
  · exact hP.unplannedTransfer _ _ opened
  · exact hP.selectSource (hP.stopAllCharging opened)

end PathKeeps
end

end Sys2Proof.Machine
end

section
/-! PROOFS. The pass over the bays' commands, the bus transactions and the other blocks, and from it the bounds of the link's collections, the
posted writes and the pack memory under every step. -/

namespace Sys2Proof.Machine

section
variable {P : State → Prop} (hP : PathKeeps P) {s : State}
include hP

namespace PathKeeps

/-! ### What the power path does with a bay's events (chapter 2) -/

theorem presRose (b : Bay) (h : P s) : P (presRose b s) := by
  have seated := hP.raise (.bayInserted b) _ (hP.enter b .seating s h)
  simp only [Machine.presRose]
  split_ifs
  · exact hP.enter _ _ _ seated
  · exact seated
  · exact h

theorem returnToStandby (b : Bay) (h : P s) : P (returnToStandby b s) := hP.becameStandby _ (hP.enter _ _ _ h)

theorem latchRose (b : Bay) (h : P s) : P (latchRose b s) := by
  unfold Machine.latchRose
  repeat' split
  · exact hP.enter _ _ _ h
  · exact h
  · exact hP.returnToStandby _ h
  · exact h

theorem latchFell (b : Bay) (h : P s) : P (latchFell b s) := by
  unfold Machine.latchFell
  split_ifs
  · exact hP.releaseRequest _ (hP.raise _ _ h)
  · exact hP.enter _ _ _ h
  · exact h

theorem plainRemoval (b : Bay) (h : P s) : P (plainRemoval b s) := by
  have gone := hP.raise (.bayRemoved b) _ (hP.enter b .empty s h)
  simp only [Machine.plainRemoval]
  split
  · exact hP.targetLost _ gone
  · exact gone

theorem presFell (b : Bay) (h : P s) : P (presFell b s) := by
  unfold Machine.presFell
  split
  · exact h
  · exact hP.enter _ _ _ h
  · exact hP.enter _ _ _ h
  · exact hP.plainRemoval _ h
  · exact hP.plainRemoval _ h
  all_goals exact hP.forcedRemoval _ h

theorem relRose (b : Bay) (h : P s) : P (relRose b s) := by
  have asked := hP.releaseRequest b h
  unfold Machine.relRose runHoldTimer
  split
  · exact hP.bay rfl rfl asked
  · exact asked

theorem endRefusal (b : Bay) (h : P s) : P (endRefusal b s) := hP.bay rfl rfl h

theorem holdExpired (b : Bay) (h : P s) : P (holdExpired b s) := by
  unfold Machine.holdExpired
  split
  · exact h
  · have stood (e : Nat) := hP.bay (b := b) (f := fun r => { r with holdTimer := some (max e (ms (paramN s 15))) }) rfl rfl h
    simp only [fillForced]
    split
    · exact hP.tellBudget (hP.raise _ _ (hP.ppc rfl (stood _)))
    · exact stood _

theorem graceExpired (h : P s) : P (graceExpired s) := by
  unfold Machine.graceExpired
  split
  · exact hP.railOffReleasing _ h
  · exact h

theorem relock (b : Bay) (h : P s) : P (relock b s) := by
  have lapsed (st : BayState) := hP.raise (.releaseLapsed b) _ (hP.enter b st s h)
  simp only [Machine.relock]
  split_ifs
  · exact hP.becameStandby _ (lapsed _)
  · exact lapsed _
  · exact lapsed _

theorem lapseExpired (b : Bay) (h : P s) : P (lapseExpired b s) := by
  unfold Machine.lapseExpired
  split_ifs
  · exact hP.bay rfl rfl h
  · exact hP.bay rfl rfl h
  · exact hP.relock _ h
  · exact h

theorem holdRefusal (b : Bay) (h : P s) : P (holdRefusal b s) := by
  simp only [Machine.holdRefusal]
  split_ifs
  · exact hP.setPending _ _ (hP.endRefusal _ h)
  · exact hP.endRefusal _ h
  · exact h

theorem holdStarted (h : P s) : P (holdStarted s) := hP.holdRefusal _ (hP.holdRefusal _ (hP.ppc rfl h))

theorem holdEnded (h : P s) : P (holdEnded s) := hP.evaluatePendings (hP.ppc rfl h)

theorem faultBay (b : Bay) (r : FaultReason) (h : P s) : P (faultBay b r s) := hP.raise _ _ (hP.enter _ _ _ h)

theorem identificationEnded (b : Bay) (o : IdOutcome) (h : P s) : P (identificationEnded b o s) := by
  unfold Machine.identificationEnded
  split
  case isFalse => exact h
  case isTrue hstate =>
    split
    · exact hP.faultBay _ _ h
    · split
      · exact hP.faultBay _ _ h
      · have adopted (id : Identity) (t : Telemetry) := hP.adopt b id t s (by simp [hstate]) h
        simp only [identified]
        split
        · exact hP.graceTestFor _ (hP.faultBay _ _ (hP.raise _ _ (adopted _ _)))
        · exact hP.becameStandby _ (hP.raise _ _ (hP.enter _ _ _ (adopted _ _)))

theorem alarmSet (b : Bay) (h : P s) : P (alarmSet b s) := by
  unfold Machine.alarmSet
  split
  · exact hP.faultBay _ _ h
  · exact hP.raise _ _ (hP.sessionStopped _ _ (hP.openCharge _ _ h))
  · exact h

theorem alarmCleared (b : Bay) (h : P s) : P (alarmCleared b s) := by
  unfold Machine.alarmCleared
  repeat' split
  · exact hP.returnToStandby _ h
  · exact h
  · exact hP.dropStaleWaiting h
  · exact h

theorem takeAlarms (b : Bay) (t : Telemetry) (h : P s) : P (takeAlarms b t s) := by
  have stored : P (updBay b (fun r => alarmsAfter { r with telemetry := some t } t) s) := by
    refine hP.bay ?_ ?_ h <;> unfold alarmsAfter <;> split <;> rfl
  have warned := hP.raiseIf (bringsNew (bayOf s b).alarms t.alarms)
    (.packAlarm b (bayOf (updBay b (fun r => alarmsAfter { r with telemetry := some t } t) s) b).alarms) stored
  simp only [Machine.takeAlarms]
  split_ifs
  · exact hP.alarmSet _ warned
  · exact hP.alarmCleared _ warned
  · exact warned

theorem pathTelemetry (b : Bay) (t : Telemetry) (h : P s) : P (pathTelemetry b t s) := by
  have taken := hP.takeAlarms b t h
  unfold Machine.pathTelemetry
  split
  · exact h
  · exact h
  · exact h
  · refine hP.graceTestFor _ ?_
    split
    · exact hP.selectSource taken
    · exact taken

theorem reserveReady (h : P s) : P (reserveReady s) := by
  refine hP.graceTest ?_
  split
  · exact hP.selectSource h
  · exact h

theorem takePresence (h : P s) : P (takePresence s) := by
  have moved (d : DcPresence) := hP.ppc (f := fun p => { p with dc := d }) rfl h
  simp only [Machine.takePresence]
  split_ifs
  · exact hP.dcArrived (moved _)
  · exact hP.dcGone (moved _)
  · exact moved _

theorem monitorReading (vdc va vb vres : Nat) (h : P s) : P (monitorReading vdc va vb vres s) := by
  have stored : P (storeReadings vdc va vb vres s) := hP.ppc rfl h
  refine hP.takePresence ?_
  split
  · exact hP.reserveReady stored
  · exact stored

theorem overlapEnds (h : P s) : P (overlapEnds s) := by
  unfold Machine.overlapEnds
  repeat' split
  · exact hP.completeOverlap _ h
  all_goals exact h

theorem bridgeCloses (h : P s) : P (bridgeCloses s) := by
  unfold Machine.bridgeCloses
  repeat' split
  · exact hP.completeBridge _ h
  all_goals exact h

theorem warnLow (y : Source) (low : Bool) (h : P s) : P (warnLow y low s) := by
  cases y
  · exact h
  · exact hP.raiseIf _ _ h

theorem enableRail (h : P s) : P (enableRail s) := hP.arbitrate (hP.deliver _ (hP.pathChanged _ (hP.ppc rfl h)))

theorem railOn (h : P s) : P (railOn s).state := by
  unfold Machine.railOn
  repeat' split
  · exact h
  · exact h
  · exact hP.enableRail (hP.feed _ (hP.warnLow _ _ h))

theorem railOffRequest (h : P s) : P (railOffRequest s).state := by
  show P (if s.ppc.railOn then Machine.railOffReleasing .host s else s)
  split
  · exact hP.railOffReleasing _ h
  · exact h

/-! ### The bus (chapter 3) -/

theorem attemptFailed (b : Bay) (q : IdSequence) (r : TxResult) (h : P s) : P (attemptFailed b q r s) := by
  unfold Machine.attemptFailed
  split
  · exact hP.deliver _ (hP.bus _ _ h)
  · exact hP.bus _ _ h

theorem clearLost (b : Bay) (h : P s) : P (clearLost b s) := hP.tellBudgetIf _ (hP.bus _ _ (hP.bay rfl rfl h))

theorem sequenceStep (b : Bay) (q : IdSequence) (e : Ended) (h : P s) : P (sequenceStep b q e s) := by
  have passed (id : Identity) (t : Telemetry) (block : List Byte) : P (sequencePassed b id t block s) :=
    hP.hand _ _ (hP.tellBudget (hP.deliver _ (hP.clearLost _ (hP.bus _ _ h))))
  unfold Machine.sequenceStep
  split
  · split
    · exact hP.bus _ _ h
    · exact hP.attemptFailed _ _ _ h
  · split
    · exact passed _ _ _
    · exact hP.attemptFailed _ _ _ h

theorem identifyEnded (b : Bay) (e : Ended) (h : P s) : P (identifyEnded b e s) := by
  unfold Machine.identifyEnded
  repeat' split
  · exact h
  · exact hP.sequenceStep _ _ _ h
  · exact h

theorem loseTelemetry (b : Bay) (h : P s) : P (loseTelemetry b s) := by
  have lost := hP.tellBudget (hP.raise (.telemetryLost b) _ (hP.bay (b := b) (f := fun r => { r with telemetryLost := true }) rfl rfl h))
  simp only [Machine.loseTelemetry]
  split
  · exact hP.stopSession _ _ lost
  · exact lost

theorem pollEnded (b : Bay) (e : Ended) (h : P s) : P (pollEnded b e s) := by
  have counted := hP.bus b (fun r => { r with failedPolls := min (r.failedPolls + 1) 3 }) h
  unfold Machine.pollEnded
  split
  · exact hP.hand _ _ (hP.tellBudget (hP.deliver _ (hP.deliver _ (hP.clearLost _ h))))
  · split
    · exact h
    · simp only [pollFailed]
      split
      · exact hP.loseTelemetry _ counted
      · exact counted

theorem chargerEnded (e : Ended) (h : P s) : P (chargerEnded e s) := by
  unfold Machine.chargerEnded
  split
  · exact h
  · simp only
    split_ifs
    · exact hP.bbc rfl h
    · exact hP.listDone _ (hP.bbc rfl h)
    · exact hP.bbc rfl h
    · exact hP.listFailed _ _ (hP.bbc rfl h)

theorem postedEnded (e : Ended) (h : P s) : P (postedEnded e s) := by
  unfold Machine.postedEnded
  split
  case h_1 => exact h
  case h_2 w rest heq => exact hP.raiseIf _ _ (hP.quiet s _ (.bbc _ (by simp [heq])) h)

theorem endWith (t : Transaction) (e : Ended) (h : P s) : P (endWith t e s) := by
  have freed : P (freeBus s) := hP.bbc rfl h
  unfold Machine.endWith routeResult
  split
  · exact hP.identifyEnded _ _ freed
  · exact hP.chargerEnded _ freed
  · exact hP.bbc rfl freed
  · exact hP.postedEnded _ freed
  · exact hP.pollEnded _ _ freed

theorem transactionReply (r : BusReply) (h : P s) : P (transactionReply r s) := by
  unfold Machine.transactionReply
  repeat' split
  · exact hP.endWith _ _ h
  all_goals exact h

theorem transactionTimedOut (h : P s) : P (transactionTimedOut s) := by
  unfold Machine.transactionTimedOut
  split
  · exact hP.endWith _ _ h
  · exact h

theorem pollExpired (b : Bay) (h : P s) : P (pollExpired b s) := by
  unfold Machine.pollExpired
  split
  · exact hP.bus _ _ h
  · exact h

theorem deferredExpired (h : P s) : P (deferredExpired s) := by
  unfold Machine.deferredExpired
  split
  · exact hP.raise _ _ (hP.bbc rfl h)
  · exact h

theorem discardWrites (g : Segment) (h : P s) : P (discardWrites g s) := by
  have dropped : P (updBbc (fun c => { c with posted := c.posted.filter fun w => w.segment != g }) s) :=
    hP.quiet s _ (.bbc _ (List.length_filter_le ..)) h
  have noticed : ∀ (ws : List PostedWrite) (u : State), P u → P (ws.foldl discardWrite u) := by
    intro ws
    induction ws with
    | nil => exact fun _ hu => hu
    | cons w rest ih => exact fun u hu => ih _ (hP.raise _ u hu)
  exact noticed _ _ dropped

theorem segmentRemoved (b : Bay) (h : P s) : P (segmentRemoved b s) := by
  have stopped : P (stopOnSegment (segmentOf b) s) := by
    unfold stopOnSegment
    repeat' split
    · exact hP.endWith _ _ h
    all_goals exact h
  exact hP.discardWrites _ (hP.bbc rfl (hP.bus _ _ stopped))

theorem meetPollPeriod (b : Bay) (h : P s) : P (meetPollPeriod b s) := by
  unfold Machine.meetPollPeriod
  repeat' split
  · exact hP.pollExpired _ h
  all_goals exact h

theorem busTakesParams (h : P s) : P (busTakesParams s) := by
  have polled := hP.meetPollPeriod .B (hP.meetPollPeriod .A h)
  unfold Machine.busTakesParams meetDeferredExpiry
  repeat' split
  · exact hP.deferredExpired polled
  all_goals exact polled

/-! ### The budget and the backlight (chapters 5 and 6) -/

theorem evaluateCapped (h : P s) : P (evaluateCapped s) := hP.raiseIf _ _ (hP.parts h rfl rfl rfl rfl)

theorem takeDemand (d : Nat) (h : P s) : P (takeDemand d s) := hP.evaluateCapped (hP.parts h rfl rfl rfl rfl)

theorem recomputeBudget (h : P s) : P (recomputeBudget s) := by
  have computed : P (computeBudget s) := hP.parts h rfl rfl rfl rfl
  refine hP.evaluateCapped ?_
  unfold publishIfChanged
  split
  · exact computed
  · exact hP.deliver _ (hP.parts computed rfl rfl rfl rfl)

theorem resetBudget (h : P s) : P (resetBudget s) := hP.evaluateCapped (hP.parts h rfl rfl rfl rfl)

theorem recomputeTarget (h : P s) : P (recomputeTarget s) := hP.parts h rfl rfl rfl rfl

theorem takeLight (x : LightSensor) (lux : Nat) (v : Bool) (h : P s) : P (takeLight x lux v s) := by
  have stored : P (storeLight x lux v s) := hP.parts h rfl rfl rfl rfl
  have swapped : P (swapCurve (storeLight x lux v s)) := by
    unfold swapCurve
    split
    · exact hP.raise _ _ (hP.parts stored rfl rfl rfl rfl)
    · exact stored
  simp only [Machine.takeLight]
  split
  · exact hP.hand _ _ (hP.recomputeTarget (hP.parts swapped rfl rfl rfl rfl))
  · exact stored

theorem failSensor (x : LightSensor) (h : P s) : P (failSensor x s) := hP.raise _ _ (hP.parts h rfl rfl rfl rfl)

theorem lightSilent (x : LightSensor) (h : P s) : P (lightSilent x s) := by
  unfold Machine.lightSilent
  repeat' split
  · exact h
  · exact hP.failSensor _ (hP.parts h rfl rfl rfl rfl)
  · exact h

theorem failIfSilent (x : LightSensor) (h : P s) : P (failIfSilent x s) := by
  unfold Machine.failIfSilent
  repeat' split
  · exact hP.failSensor _ h
  all_goals exact h

theorem backlightTakesParams (h : P s) : P (backlightTakesParams s) :=
  hP.recomputeTarget (hP.parts (hP.failIfSilent .rear (hP.failIfSilent .front h)) rfl rfl rfl rfl)

/-! ### The shock monitor (chapter 7) -/

theorem swapClasses (h : P s) : P (swapClasses s) := by
  unfold Machine.swapClasses
  split
  · exact hP.raise _ _ (hP.parts h rfl rfl rfl rfl)
  · exact h

theorem takeEvent (e : HandOver) (h : P s) : P (takeEvent e s).1 := by
  have stored : P (storeEvent e (classify s e) s) := by
    unfold storeEvent
    split
    · exact hP.raise _ _ (hP.parts h rfl rfl rfl rfl)
    · exact hP.parts h rfl rfl rfl rfl
  simp only [Machine.takeEvent, markEvent]
  split
  · exact hP.markPacks _ _ stored
  · exact stored

theorem closeRecord (e : Ending) (h : P s) : P (closeRecord e s) := by
  unfold Machine.closeRecord
  split
  · exact h
  · exact hP.parts h rfl rfl rfl rfl

end PathKeeps

theorem PathKeeps.shm : ShmKeeps P where
  shm _ _ h := hP.parts h rfl rfl rfl rfl
  deliver _ _ := hP.deliver _
  raise := hP.raise
  hand := hP.hand
  event _ _ := hP.takeEvent _
  close _ _ := hP.closeRecord _
  classes _ := hP.swapClasses

end

/-! ### Every step -/

/-- With the few moves that a request, a reset or the line makes besides. -/
structure CollectionKeeps (P : State → Prop) : Prop extends PathKeeps P where
  relevel : ∀ s, P s → P (relevel s)
  forget : ∀ n s, pinned s n = false → P s → P (updMemory (fun m => m.filter fun e => e.serial != n) s)
  post : ∀ w s, s.bbc.posted.length < 4 → P s → P (updBbc (fun c => { c with posted := c.posted ++ [w] }) s)
  respond : ∀ tag code st results s, s.lu.responses.length < 8 → P s → P (respond tag code st results s)
  reset : ∀ s, P (powerOn s)

/-- The line's choice takes from the collections alone. -/
theorem startLine_quiet (s : State) : Quiet s (startLine s) := by
  unfold startLine
  split
  · exact .of_parts rfl rfl rfl rfl
  · unfold chooseFrame
    split
    case h_1 r rest heq => exact .lu _ (.refl _) le_rfl (by simp [heq])
    case h_2 =>
      split
      · exact .lu _ List.filter_sublist le_rfl le_rfl
      · split
        case h_1 f rest heq => exact .lu _ (.refl _) (by simp [heq]) le_rfl
        case h_2 => exact .of_parts rfl rfl rfl rfl

theorem grantBus_quiet (s : State) : Quiet s (grantBus s) where
  notices := by simp
  traffic := by simp
  responses := by simp
  posted := by simp
  memory := by simp
  packs b := by simp [bayOf]

theorem startTimers_quiet (s : State) : Quiet s (startTimers s) where
  notices := .refl _
  traffic := le_rfl
  responses := le_rfl
  posted := le_rfl
  memory := rfl
  packs _ := ⟨rfl, rfl⟩

/-- A tick moves timers alone. -/
theorem tick_quiet (s : State) : Quiet s (tick s) where
  notices := .refl _
  traffic := le_rfl
  responses := le_rfl
  posted := le_rfl
  memory := rfl
  packs b := by cases b <;> exact ⟨rfl, rfl⟩

section
variable {P : State → Prop} (hP : CollectionKeeps P) {s : State}
include hP

namespace CollectionKeeps

theorem applied (table : Nat) (h : P s) : P (applied table s) := by
  unfold Machine.applied
  split
  · have swapped : P (updTs (fun ts => { ts with t0 := ts.t0.swapped }) s) := hP.parts h rfl rfl rfl rfl
    exact hP.parts (hP.raise (.tableApplied 0) _ swapped) rfl rfl rfl rfl
  · exact hP.parts h rfl rfl rfl rfl
  · have marked : P (updTs (fun ts => { ts with t2 := ts.t2.marked }) s) := hP.parts h rfl rfl rfl rfl
    simp only
    split
    · exact marked
    · exact hP.swapClasses marked
  · have swapped : P (updTs (fun ts => { ts with t3 := ts.t3.swapped }) s) := hP.parts h rfl rfl rfl rfl
    exact hP.parts (hP.raise (.tableApplied 3) _ swapped) rfl rfl rfl rfl
  · exact hP.raise _ _ (hP.relevel _ (hP.parts h rfl rfl rfl rfl))

/-! The owners' answers. -/

theorem tableApplyAnswer (args : List Byte) (h : P s) : P (tableApplyAnswer args s).state := by
  unfold Machine.tableApplyAnswer applyTable
  split
  · split_ifs
    · exact h
    · exact h
    · split
      · exact h
      · exact hP.applied _ h
  · exact h

theorem packReadAnswer (args : List Byte) (h : P s) : P (packReadAnswer args s).state := by
  unfold Machine.packReadAnswer readRequest
  repeat' split
  all_goals first
    | exact h
    | exact hP.bbc rfl h

theorem packWriteAnswer (args : List Byte) (h : P s) : P (packWriteAnswer args s).state := by
  unfold Machine.packWriteAnswer writeRequest
  split
  · split
    · exact h
    · split_ifs
      · exact h
      · exact h
      · exact h
      · exact hP.post _ _ (by omega) h
  · exact h

theorem bayReleaseAnswer (args : List Byte) (h : P s) : P (bayReleaseAnswer args s).state := by
  unfold Machine.bayReleaseAnswer
  repeat' split
  · exact hP.releaseRequest _ h
  all_goals exact h

theorem railAnswer (args : List Byte) (h : P s) : P (railAnswer args s).state := by
  unfold Machine.railAnswer
  split
  · split_ifs
    · exact hP.railOffRequest h
    · exact hP.railOn h
    · exact h
  · exact h

theorem overridePushAnswer (args : List Byte) (h : P s) : P (overridePushAnswer args s).state := by
  unfold Machine.overridePushAnswer pushLevel
  repeat' split
  · exact h
  · exact hP.recomputeTarget (hP.parts h rfl rfl rfl rfl)
  · exact h

theorem overridePopAnswer (args : List Byte) (h : P s) : P (overridePopAnswer args s).state := by
  unfold Machine.overridePopAnswer popLevel
  repeat' split
  · exact h
  · exact hP.recomputeTarget (hP.parts h rfl rfl rfl rfl)
  · exact h

theorem offsetSetAnswer (args : List Byte) (h : P s) : P (offsetSetAnswer args s).state := by
  unfold Machine.offsetSetAnswer
  split
  · exact hP.recomputeTarget (hP.parts h rfl rfl rfl rfl)
  · exact h

theorem shockArmAnswer (args : List Byte) (h : P s) : P (shockArmAnswer args s).state := by
  have armed := hP.shm.enterQuiet .idle h
  unfold Machine.shockArmAnswer
  repeat' split
  · simp only [answer, armMonitor]
    split
    · exact hP.shm.enterQuiet _ armed
    · exact armed
  all_goals exact h

theorem shockDisarmAnswer (args : List Byte) (h : P s) : P (shockDisarmAnswer args s).state := by
  unfold Machine.shockDisarmAnswer disarmMonitor
  repeat' split
  · exact h
  · exact hP.shm.enterQuiet _ h
  all_goals exact h

theorem packForgetAnswer (args : List Byte) (h : P s) : P (packForgetAnswer args s).state := by
  unfold Machine.packForgetAnswer forgetPack
  split
  · split_ifs with hfound hpinned
    · exact h
    · exact h
    · exact hP.forget _ _ (Bool.eq_false_iff.2 hpinned) h
  · exact h

theorem packClearShockAnswer (args : List Byte) (h : P s) : P (packClearShockAnswer args s).state := by
  have cleared (n : Nat) := hP.entry n (fun x => { x with shocked := false, shockSequence := none }) s (fun _ => rfl) h
  unfold Machine.packClearShockAnswer clearShock
  split
  · split
    · exact h
    · simp only [answer]
      split_ifs
      · exact hP.arbitrate (cleared _)
      · exact cleared _
      · exact h
  · exact h

theorem owner (code : Nat) (args : List Byte) (h : P s) : P (ownerOf code args s).state := by
  unfold ownerOf
  split
  case h_5 => exact hP.tableApplyAnswer _ h
  case h_8 => exact hP.packReadAnswer _ h
  case h_9 => exact hP.packWriteAnswer _ h
  case h_10 => exact hP.bayReleaseAnswer _ h
  case h_11 => exact hP.railAnswer _ h
  case h_12 => exact hP.overridePushAnswer _ h
  case h_13 => exact hP.overridePopAnswer _ h
  case h_14 => exact hP.offsetSetAnswer _ h
  case h_15 => exact hP.shockArmAnswer _ h
  case h_16 => exact hP.shockDisarmAnswer _ h
  case h_24 => exact hP.packForgetAnswer _ h
  case h_25 => exact hP.packClearShockAnswer _ h
  case h_26 => exact h
  case h_3 =>
    unfold companionResetAnswer
    split
    · exact hP.quiet s _ (.lu _ (.refl _) le_rfl le_rfl) h
    · exact h
  all_goals exact hP.parts h (by simp) (by simp) (by simp) (by simp)

theorem link : LinkKeeps P where
  take _ _ := hP.take _
  accept s := hP.quiet s _ (.lu _ (.refl _) le_rfl le_rfl)
  overrun s := hP.quiet s _ (.lu _ (.refl _) le_rfl le_rfl)
  respond := hP.respond
  receiver _ s := hP.quiet s _ (.lu _ (.refl _) le_rfl le_rfl)
  finish s h := hP.quiet _ _ (startLine_quiet _) (hP.quiet s _ (grantBus_quiet s) h)
  owner _ _ _ := hP.owner _ _

theorem resetBus (h : P s) : P (resetBus s) := by
  have cleared : P (updBbc (fun c => { c with inFlight := none, deferred := none, posted := [] }) s) :=
    hP.quiet s _ (.bbc _ (Nat.zero_le _)) h
  unfold Machine.resetBus resetPoll
  exact hP.bus _ _ (hP.bus _ _ cleared)

theorem resetCaps (h : P s) : P (resetCaps s) := by
  rcases resetCaps_either s with e | e <;> rw [e]
  · exact hP.resetBudget (hP.takeDemand _ (hP.take _ (hP.recomputeTarget (hP.parts (hP.freeOrder h) rfl rfl rfl rfl))))
  · exact hP.recomputeTarget (hP.parts (hP.resetBudget (hP.freeOrder h)) rfl rfl rfl rfl)

theorem managementReset (h : P s) : P (managementReset s) := by
  have link : P (resetLink s) := hP.quiet s _ (.lu _ (List.nil_sublist _) (Nat.zero_le _) (Nat.zero_le _)) h
  have tables : P (resetTables (resetLink s)) := hP.parts link rfl rfl rfl rfl
  exact hP.resetCaps (hP.resetBus tables)

theorem takeParams (block : Block) (changed : List Nat) (h : P s) : P (takeParams block changed s) := by
  cases block
  case icu => exact hP.parts h (by simp [Machine.takeParams]) (by simp [Machine.takeParams]) (by simp [Machine.takeParams]) (by simp [Machine.takeParams])
  case ppc =>
    simp only [Machine.takeParams, meetBridgeLimit]
    repeat' split
    · exact hP.bridgeExpired h
    all_goals exact h
  case bbc => exact hP.busTakesParams h
  case cc =>
    simp only [Machine.takeParams, chargerTakesParams]
    split
    · exact hP.arbitrate h
    · exact h
  case bu => exact hP.recomputeBudget h
  case blc => exact hP.backlightTakesParams h
  case shm => exact hP.shm.meetSettleLimit h
  case lu => exact hP.quiet s _ (.lu _ (.refl _) le_rfl le_rfl) h

theorem takeProfiles (block : Block) (h : P s) : P (takeProfiles block s) := by
  cases block
  case cc => exact hP.rematchAll h
  case bu => exact hP.recomputeBudget h
  all_goals exact h

theorem effect (i : Instr) (hi : Instr.fromReceiver i = false) (h : P s) : P (effect i s) := by
  have taken := fun e => hP.take e h
  cases i
  case powerOnReset => exact hP.reset s
  case ppcPresRising b => exact hP.presRose b (taken _)
  case ppcPresFalling b => exact hP.presFell b (taken _)
  case ppcLatchRising b => exact hP.latchRose b (taken _)
  case ppcLatchFalling b => exact hP.latchFell b (taken _)
  case ppcRelRising b => exact hP.relRose b (taken _)
  case ppcRelFalling b => exact hP.endRefusal b (taken _)
  case bbcPresFalling b => exact hP.segmentRemoved b (taken _)
  case sourceMonitorReading => exact afterSettle_keeps (hP.monitorReading _ _ _ _) h
  case overlapComplete => exact hP.overlapEnds h
  case bridgeTargetClose => exact hP.bridgeCloses h
  case bridgeTimerExpiry => exact hP.bridgeExpired h
  case releaseHoldTimerExpiry b => exact hP.holdExpired b h
  case graceExpiry => exact hP.graceExpired h
  case releaseLapseExpiry b => exact hP.lapseExpired b h
  case ppcShockHoldStart => exact hP.holdStarted (taken _)
  case ppcShockHoldEnd => exact hP.holdEnded (taken _)
  case ppcIdentificationOutcome b o => exact hP.identificationEnded b o (taken _)
  case ppcTelemetry b t => exact hP.pathTelemetry b t (taken _)
  case ccTelemetry b t => exact hP.chargeTelemetry b t (taken _)
  case transactionEnd => exact hP.transactionReply _ h
  case transactionTimeout => exact hP.transactionTimedOut h
  case pollTimerExpiry b => exact hP.pollExpired b h
  case deferredExpiry => exact hP.deferredExpired h
  case budgetRecompute => exact hP.recomputeBudget (taken _)
  case cappedEvaluation => exact hP.takeDemand _ (taken _)
  case lightSample => exact afterSettle_keeps (hP.takeLight _ _ _) h
  case lightSensorTimeout => exact hP.lightSilent _ h
  case accelSample => exact afterSettle_keeps (hP.shm.acceptSample _ _ _) h
  case settleTimeout => exact hP.shm.settleExpired h
  case sampleSilenceTimeout => exact hP.shm.samplesSilent h
  case managementReset => exact hP.managementReset (taken _)
  case supplySettleEnd =>
    show P (settleEnds s)
    unfold settleEnds
    split
    · exact hP.quiet s _ (startTimers_quiet s) h
    · exact h
  case upstreamLineFree =>
    show P (lineFree s)
    unfold lineFree
    split
    · have freed : P (updLu (fun l => { l with line := none }) s) := hP.quiet s _ (.lu _ (.refl _) le_rfl le_rfl) h
      simp only
      split
      · exact hP.deliver _ freed
      · exact freed
    · exact h
  case linkSilenceTimeout =>
    show P (silenceBegins s)
    unfold silenceBegins emptyStack
    have silent : P (updLu (fun l => { l with traffic := [], silence := true, silenceTimer := none }) s) :=
      hP.quiet s _ (.lu _ (.refl _) (Nat.zero_le _) le_rfl) h
    split_ifs
    · exact silent
    · exact hP.recomputeTarget (hP.parts silent rfl rfl rfl rfl)
    · exact h
  case table0SwapDelivery block changed => exact hP.takeParams block changed (taken _)
  case table3SwapDelivery block => exact hP.takeProfiles block (taken _)
  all_goals first
    | exact absurd hi Bool.false_ne_true.symm
    | exact hP.parts h (by simp [Machine.effect]) (by simp [Machine.effect]) (by simp [Machine.effect]) (by simp [Machine.effect])

theorem step {t : State} (h : P s) (hst : Machine.step s = .next t) : P t :=
  hP.link.step (fun _ _ hu => hP.parts hu rfl rfl rfl rfl) (fun u => hP.quiet u _ (tick_quiet u)) (fun _ _ => hP.effect _) h hst

end CollectionKeeps
end

end Sys2Proof.Machine
end

section
/-! PROOFS. The link's collections, the posted writes and the pack memory within their bounds under every step. -/

namespace Sys2Proof.Machine

/-! ### Responses and traffic (R184, R188) -/

theorem queuesSound_of_lu {s t : State} (h : t.lu = s.lu) (hs : QueuesSound s) : QueuesSound t := by
  unfold QueuesSound at *
  rwa [h]

@[simp] theorem raise_traffic (n : Notice) (s : State) : (raise n s).lu.traffic = s.lu.traffic := by
  unfold raise
  extract_lets level
  split <;> rfl

theorem queuesSound_keeps : CollectionKeeps QueuesSound where
  quiet s t q h := ⟨q.responses.trans h.1, q.traffic.trans h.2⟩
  raise n s h := by
    unfold QueuesSound at *
    simpa using h
  hand t s h := by
    obtain ⟨hresponses, htraffic⟩ := h
    refine ⟨by simpa using hresponses, ?_⟩
    unfold handTraffic
    split
    · exact htraffic
    · exact joinTraffic_length _ _ htraffic
  enter _ _ _ := queuesSound_of_lu (by simp)
  entry _ _ _ _ := queuesSound_of_lu rfl
  adopt _ _ _ _ _ := queuesSound_of_lu (by simp)
  relevel _ h := h
  forget _ _ _ := queuesSound_of_lu rfl
  post _ _ _ := queuesSound_of_lu rfl
  respond _ _ _ _ s hroom h := ⟨by simpa [respond] using hroom, h.2⟩
  reset _ := ⟨Nat.zero_le _, Nat.zero_le _⟩

/-! ### Notices (R186) -/

theorem noticesSound_of_sublist {s t : State} (h : t.lu.notices.Sublist s.lu.notices) (hs : NoticesSound s) : NoticesSound t :=
  ⟨hs.1.sublist (h.map _), fun e he => hs.2 e (h.subset he)⟩

theorem noticesSound_of_lu {s t : State} (h : t.lu = s.lu) (hs : NoticesSound s) : NoticesSound t :=
  noticesSound_of_sublist (h ▸ .refl _) hs

/-- The new levels leave the kinds and the counts, and a kind whose level is 0 leaves. -/
theorem relevel_noticesSound {s : State} (hs : NoticesSound s) : NoticesSound (relevel s) := by
  obtain ⟨hkinds, hentries⟩ := hs
  refine ⟨?_, ?_⟩
  · refine List.Nodup.sublist (List.filter_sublist.map _) ?_
    simpa [Function.comp_def] using hkinds
  · intro e he
    obtain ⟨hmem, hlevel⟩ := List.mem_filter.1 he
    obtain ⟨x, hx, rfl⟩ := List.mem_map.1 hmem
    obtain ⟨hlow, hhigh, -⟩ := hentries x hx
    exact ⟨hlow, hhigh, by simpa using hlevel⟩

theorem noticesSound_keeps : CollectionKeeps NoticesSound where
  quiet _ _ q := noticesSound_of_sublist q.notices
  raise n _ := raise_notices_sound n
  hand t s h := by
    unfold NoticesSound
    rwa [handTraffic_notices]
  enter _ _ _ := noticesSound_of_lu (by simp)
  entry _ _ _ _ := noticesSound_of_lu rfl
  adopt _ _ _ _ _ := noticesSound_of_lu (by simp)
  relevel _ := relevel_noticesSound
  forget _ _ _ := noticesSound_of_lu rfl
  post _ _ _ := noticesSound_of_lu rfl
  respond _ _ _ _ _ _ h := h
  reset _ := ⟨List.nodup_nil, fun _ he => absurd he List.not_mem_nil⟩

/-! ### The posted writes (R63) -/

theorem postedSound_of_posted {s t : State} (h : t.bbc.posted = s.bbc.posted) (hs : PostedSound s) : PostedSound t := by
  unfold PostedSound at *
  rwa [h]

theorem postedSound_keeps : CollectionKeeps PostedSound where
  quiet _ _ q h := q.posted.trans h
  raise _ _ := postedSound_of_posted (by simp)
  hand _ _ := postedSound_of_posted (by simp)
  enter b st s := postedSound_of_posted (enterBay_bbc b st s).2.2.1
  entry _ _ _ _ := postedSound_of_posted rfl
  adopt _ _ _ _ _ := postedSound_of_posted (by simp)
  relevel _ h := h
  forget _ _ _ := postedSound_of_posted rfl
  post w s hroom _ := by
    unfold PostedSound
    simpa using hroom
  respond _ _ _ _ _ _ h := h
  reset _ := Nat.zero_le _

/-- Settles O54. -/
theorem stepsKeepQueuesBounded : Obligations.StepsKeepQueuesBounded := by
  intro s t hst
  exact ⟨fun h => queuesSound_keeps.step h hst, fun h => noticesSound_keeps.step h hst, fun h => postedSound_keeps.step h hst,
    fun h => step_stackSound h hst⟩

/-! ### The pack memory (R68 to R70) -/

/-- The serials in the pack memory. -/
def heldSerials (memory : List PackEntry) : List Nat := memory.map PackEntry.serial

theorem memorySound_iff (s : State) :
    MemorySound s ↔ s.cc.memory.length ≤ 8 ∧ (heldSerials s.cc.memory).Nodup
      ∧ (∀ b, (bayOf s b).state = .empty → serialOf s b = none) ∧ ∀ b n, serialOf s b = some n → n ∈ heldSerials s.cc.memory := by
  simp only [MemorySound, heldSerials, serialOf, Option.map_eq_none_iff, Option.map_eq_some_iff, List.mem_map, forall_and,
    forall_exists_index, and_imp, forall_apply_eq_imp_iff₂]

/-- The evicted memory is a part of the memory. -/
theorem evict_sublist (isPinned : Nat → Bool) (memory : List PackEntry) : (evict isPinned memory).Sublist memory := by
  induction memory with
  | nil => exact .slnil
  | cons e rest ih =>
    unfold evict
    split_ifs
    · exact ih.cons_cons e
    · exact .refl _
    · exact List.sublist_cons_self e rest

/-- A pinned entry stays. -/
theorem mem_evict_of_pinned {isPinned : Nat → Bool} {memory : List PackEntry} {e : PackEntry} (he : e ∈ memory)
    (hp : isPinned e.serial = true) : e ∈ evict isPinned memory := by
  induction memory with
  | nil => exact absurd he List.not_mem_nil
  | cons x rest ih =>
    unfold evict
    split_ifs with hrest hx
    · rcases List.mem_cons.1 he with rfl | he
      · exact List.mem_cons_self
      · exact List.mem_cons_of_mem _ (ih he)
    · exact he
    · rcases List.mem_cons.1 he with rfl | he
      · exact absurd hp hx
      · exact he

/-- Where some entry is not pinned, one leaves. -/
theorem length_evict {isPinned : Nat → Bool} {memory : List PackEntry} (h : ∃ e ∈ memory, isPinned e.serial = false) :
    (evict isPinned memory).length = memory.length - 1 := by
  induction memory with
  | nil => rfl
  | cons x rest ih =>
    unfold evict
    split_ifs with hrest hx
    · obtain ⟨e, he, hp⟩ := List.any_eq_true.1 hrest
      have hlater := ih ⟨e, he, by simpa using hp⟩
      have hpos : 0 < rest.length := List.length_pos_of_mem he
      simp only [List.length_cons, hlater]
      omega
    · obtain ⟨e, he, hp⟩ := h
      rcases List.mem_cons.1 he with rfl | he
      · exact absurd hx (by simp [hp])
      · exact absurd (List.any_eq_true.2 ⟨e, he, by simp [hp]⟩) hrest
    · simp

/-- At most two serials are pinned, so a full memory has an entry that is not. -/
theorem exists_unpinned {s : State} (hnodup : (heldSerials s.cc.memory).Nodup) (hfull : 8 ≤ s.cc.memory.length) :
    ∃ e ∈ s.cc.memory, pinned s e.serial = false := by
  by_contra hall
  push Not at hall
  have hsub : heldSerials s.cc.memory ⊆ (serialOf s .A).toList ++ (serialOf s .B).toList := by
    intro n hn
    obtain ⟨e, he, rfl⟩ := List.mem_map.1 hn
    have hp := hall e he
    simp only [pinned, pinsSerial, Bool.or_eq_true, Bool.and_eq_true, beq_iff_eq, ne_eq, Bool.not_eq_false] at hp
    rcases hp with ⟨-, hser⟩ | ⟨-, hser⟩ <;> simp [hser]
  have hfew := (List.subperm_of_subset hnodup hsub).length_le
  have htwo : ((serialOf s .A).toList ++ (serialOf s .B).toList).length ≤ 2 := by
    rw [List.length_append]
    exact Nat.add_le_add (Option.length_toList_le ..) (Option.length_toList_le ..)
  simp only [heldSerials, List.length_map] at hfew
  omega

/-- An identification leaves at most 8 entries, one per serial; the pack's own is among them, and so is every pinned one that was. -/
theorem rememberIn_sound {isPinned : Nat → Bool} {memory : List PackEntry} (b : Bay) (id : Identity) (charge : Nat)
    (hlen : memory.length ≤ 8) (hnodup : (heldSerials memory).Nodup)
    (hroom : 8 ≤ memory.length → ∃ e ∈ memory, isPinned e.serial = false) :
    (rememberIn isPinned b id charge memory).length ≤ 8 ∧ (heldSerials (rememberIn isPinned b id charge memory)).Nodup
      ∧ id.serial ∈ heldSerials (rememberIn isPinned b id charge memory)
      ∧ ∀ n ∈ heldSerials memory, isPinned n = true → n ∈ heldSerials (rememberIn isPinned b id charge memory) := by
  unfold rememberIn findPack
  split
  case h_1 e hfound =>
    have hmem : e ∈ memory := List.mem_of_find?_eq_some hfound
    have hserial : e.serial = id.serial := by simpa using List.find?_some hfound
    have hothers : id.serial ∉ heldSerials (memory.filter fun x => x.serial != id.serial) := by simp [heldSerials]
    refine ⟨?_, ?_, ?_, ?_⟩
    · have hfewer : (memory.filter fun x => x.serial != id.serial).length < memory.length :=
        List.length_filter_lt_length_iff_exists.2 ⟨e, hmem, by simp [hserial]⟩
      simp only [List.length_cons]
      omega
    · refine List.nodup_cons.2 ⟨?_, hnodup.sublist (List.filter_sublist.map _)⟩
      rw [show (identifiedEntry e b id charge).serial = id.serial from hserial]
      exact hothers
    · exact List.mem_cons.2 (.inl hserial.symm)
    · intro n hn _
      by_cases hsame : n = id.serial
      · exact List.mem_cons.2 (.inl (hsame.trans hserial.symm))
      · obtain ⟨x, hx, rfl⟩ := List.mem_map.1 hn
        exact List.mem_cons_of_mem _ (List.mem_map.2 ⟨x, List.mem_filter.2 ⟨hx, by simpa using hsame⟩, rfl⟩)
  case h_2 hnone =>
    have hnew : id.serial ∉ heldSerials memory := by
      simpa [heldSerials] using List.find?_eq_none.1 hnone
    split_ifs with hfull
    · have hsub := evict_sublist isPinned memory
      have hshort := length_evict (hroom hfull)
      refine ⟨?_, List.nodup_cons.2 ⟨fun h => hnew ((hsub.map _).subset h), hnodup.sublist (hsub.map _)⟩,
        List.mem_cons_self, fun n hn hp => ?_⟩
      · simp only [List.length_cons, hshort]
        omega
      · obtain ⟨x, hx, rfl⟩ := List.mem_map.1 hn
        exact List.mem_cons_of_mem _ (List.mem_map.2 ⟨x, mem_evict_of_pinned hx hp, rfl⟩)
    · refine ⟨?_, List.nodup_cons.2 ⟨hnew, hnodup⟩, List.mem_cons_self, fun n hn _ => List.mem_cons_of_mem _ hn⟩
      simp only [List.length_cons]
      omega

theorem memorySound_of {s t : State} (hcc : t.cc.memory = s.cc.memory)
    (hpacks : ∀ b, (bayOf t b).state = (bayOf s b).state ∧ (bayOf t b).identity = (bayOf s b).identity) (hs : MemorySound s) :
    MemorySound t := by
  unfold MemorySound at *
  simpa only [hcc, hpacks] using hs

theorem memorySound_of_parts {s t : State} (hcc : t.cc = s.cc) (hppc : t.ppc = s.ppc) (hs : MemorySound s) : MemorySound t :=
  memorySound_of (by rw [hcc]) (fun b => by rw [bayOf_congr hppc]; exact ⟨rfl, rfl⟩) hs

/-- A bay that pins its serial: one with an identity is not EMPTY. -/
theorem pinned_of_serial {s : State} (hempty : ∀ b, (bayOf s b).state = .empty → serialOf s b = none) {b : Bay} {n : Nat}
    (h : serialOf s b = some n) : pinned s n = true := by
  have hstate : (bayOf s b).state ≠ .empty := fun he => by simp [hempty b he] at h
  have hpins : pinsSerial s n b = true := by simp [pinsSerial, h, hstate]
  cases b <;> simp [pinned, hpins]

/-- The identity goes as the bay becomes EMPTY, and stays otherwise. -/
theorem enterBay_memorySound (b : Bay) (st : BayState) {s : State} (hs : MemorySound s) : MemorySound (enterBay b st s) := by
  obtain ⟨hlen, hnodup, hempty, hheld⟩ := (memorySound_iff s).1 hs
  have hmemory : (enterBay b st s).cc.memory = s.cc.memory := by
    rw [enterBay_cc]
    split <;> rfl
  have hother : bayOf (enterBay b st s) b.other = bayOf s b.other := by simp [bayOf]
  have hbay : bayOf (enterBay b st s) b = enteredRecord st (bayOf s b) := by simp [bayOf]
  rw [memorySound_iff, hmemory]
  refine ⟨hlen, hnodup, fun x hx => ?_, fun x n hn => ?_⟩ <;> rcases bay_eq_or_other b x with rfl | rfl
  · by_cases hst : st = .empty
    · subst hst
      rw [serialOf, hbay]
      rfl
    · simp [hbay, enteredRecord, hst] at hx
  · simpa [serialOf, hother] using hempty b.other (hother ▸ hx)
  · by_cases hst : st = .empty
    · subst hst
      rw [serialOf, hbay] at hn
      exact absurd hn (by simp [enteredRecord, bayAtReset])
    · exact hheld x n (by simpa [serialOf, hbay, enteredRecord, hst] using hn)
  · exact hheld b.other n (by simpa [serialOf, hother] using hn)

/-- A pack is remembered before it becomes the bay's; the other bay's pack is pinned and stays. -/
theorem adoptPack_memorySound (b : Bay) (id : Identity) (t : Telemetry) {s : State} (hstate : (bayOf s b).state ≠ .empty)
    (hs : MemorySound s) : MemorySound (adoptPack b id t s) := by
  obtain ⟨hlen, hnodup, hempty, hheld⟩ := (memorySound_iff s).1 hs
  obtain ⟨hlen', hnodup', hown, hkept⟩ := rememberIn_sound b id t.charge hlen hnodup (exists_unpinned hnodup)
  have hmemory : (adoptPack b id t s).cc.memory = rememberIn (pinned s) b id t.charge s.cc.memory := rfl
  have hother : bayOf (adoptPack b id t s) b.other = bayOf s b.other := by simp [adoptPack, bayOf]
  have hbay : (bayOf (adoptPack b id t s) b).state = (bayOf s b).state ∧ serialOf (adoptPack b id t s) b = some id.serial := by
    simp [adoptPack, bayOf, serialOf]
  rw [memorySound_iff, hmemory]
  refine ⟨hlen', hnodup', fun x hx => ?_, fun x n hn => ?_⟩ <;> rcases bay_eq_or_other b x with rfl | rfl
  · exact absurd (hbay.1 ▸ hx) hstate
  · simpa [serialOf, hother] using hempty b.other (hother ▸ hx)
  · obtain rfl : id.serial = n := by simpa [hbay.2] using hn
    exact hown
  · have hserial : serialOf s b.other = some n := by simpa [serialOf, hother] using hn
    exact hkept n (hheld _ _ hserial) (pinned_of_serial hempty hserial)

/-- A serial that no bay pins is in no bay. -/
theorem forget_memorySound {n : Nat} {s : State} (hp : pinned s n = false) (hs : MemorySound s) :
    MemorySound (updMemory (fun m => m.filter fun e => e.serial != n) s) := by
  obtain ⟨hlen, hnodup, hempty, hheld⟩ := (memorySound_iff s).1 hs
  refine (memorySound_iff _).2 ⟨(List.length_filter_le ..).trans hlen, hnodup.sublist (List.filter_sublist.map _), hempty, ?_⟩
  intro b k hk
  obtain ⟨e, he, rfl⟩ := List.mem_map.1 (hheld b k hk)
  have hne : e.serial ≠ n := by
    rintro rfl
    exact absurd (pinned_of_serial hempty hk) (by simp [hp])
  exact List.mem_map.2 ⟨e, List.mem_filter.2 ⟨he, by simpa using hne⟩, rfl⟩

theorem changeEntry_memorySound (n : Nat) (f : PackEntry → PackEntry) {s : State} (hf : ∀ e, (f e).serial = e.serial)
    (hs : MemorySound s) : MemorySound (updMemory (changeEntry n f) s) := by
  obtain ⟨hlen, hnodup, hempty, hheld⟩ := (memorySound_iff s).1 hs
  have hserials : heldSerials (changeEntry n f s.cc.memory) = heldSerials s.cc.memory := by
    simp only [heldSerials, changeEntry, List.map_map]
    refine List.map_congr_left fun e _ => ?_
    simp only [Function.comp_apply]
    split
    · exact hf e
    · rfl
  exact (memorySound_iff _).2 ⟨by simpa [changeEntry] using hlen, hserials.symm ▸ hnodup, hempty,
    fun b k hk => hserials.symm ▸ hheld b k hk⟩

theorem memorySound_reset : MemorySound State.reset := by
  have noPack (b : Bay) : serialOf State.reset b = none := by cases b <;> rfl
  exact (memorySound_iff _).2 ⟨by decide, by decide, fun b _ => noPack b, fun b n h => by simp [noPack b] at h⟩

theorem memorySound_keeps : CollectionKeeps MemorySound where
  quiet _ _ q := memorySound_of q.memory q.packs
  raise _ _ := memorySound_of_parts (by simp) (by simp)
  hand _ _ := memorySound_of_parts (by simp) (by simp)
  enter b st _ := enterBay_memorySound b st
  entry n f _ := changeEntry_memorySound n f
  adopt b id t _ := adoptPack_memorySound b id t
  relevel _ := memorySound_of_parts (by simp) (by simp)
  forget _ _ := forget_memorySound
  post _ _ _ := memorySound_of_parts rfl rfl
  respond _ _ _ _ _ _ := memorySound_of_parts rfl rfl
  reset _ := memorySound_of_parts (s := State.reset) rfl rfl memorySound_reset

/-- Settles O57. -/
theorem stepsKeepMemorySound : Obligations.StepsKeepMemorySound := by
  intro s t h hst
  exact memorySound_keeps.step h hst

end Sys2Proof.Machine
end

section
/-! PROOFS. The power path as its invariant sees it (chapter 2): rail, switches, states and transfer, and what each move does to them. -/

namespace Sys2Proof.Machine

/-! ### The view -/

/-- What PathSound speaks of: the rail, each source's switch, each bay's charge switch and state, and the transfer's ends and phase. -/
@[ext] structure PathView where
  rail : Bool
  closed : Source → Bool
  charge : Bay → Bool
  state : Bay → BayState
  transfer : Option (Option Source × Source × Method)

/-- The power path's view of a state. -/
def pathView (s : State) : PathView where
  rail := s.ppc.railOn
  closed := switchClosed s
  charge b := (bayOf s b).charge
  state b := (bayOf s b).state
  transfer := s.ppc.transfer.map fun t => (t.source, t.target, t.phase)

namespace PathView

/-- A source's switch opens or closes. -/
def drive (v : PathView) (x : Source) (c : Bool) : PathView := { v with closed := Function.update v.closed x c }

/-- A bay enters a state, its charge switch as given. -/
def setBay (v : PathView) (b : Bay) (st : BayState) (c : Bool) : PathView :=
  { v with state := Function.update v.state b st, charge := Function.update v.charge b c }

/-- The transfer's record set. -/
def setTransfer (v : PathView) (t : Option (Option Source × Source × Method)) : PathView := { v with transfer := t }

/-- The rail set. -/
def setRail (v : PathView) (on : Bool) : PathView := { v with rail := on }

/-- DC's switch alone is closed. -/
def Alone (v : PathView) : Prop := v.closed .dc = true ∧ ∀ b, v.closed (.bay b) = false

/-- No switch is closed. -/
def Open (v : PathView) : Prop := ∀ x, v.closed x = false

/-- A bay's switches and state agree. -/
structure Fits (v : PathView) (b : Bay) : Prop where
  charge : v.charge b = true ↔ v.state b = .charging
  feeds : v.closed (.bay b) = true → v.state b = .supplying ∨ v.state b = .releasing
  supplies : v.state b = .supplying → v.closed (.bay b) = true

/-- The switches agree with the states, a rail that is OFF has none closed, and at most one is. -/
structure Loose (v : PathView) : Prop where
  fits : ∀ b, v.Fits b
  dark : v.rail = false → v.Open
  one : ∀ x y, v.closed x = true → v.closed y = true → x = y

/-- As the path stands outside a transfer: besides, a bay charges while DC feeds alone. -/
structure Settled (v : PathView) : Prop extends Loose v where
  alone : ∀ b, v.state b = .charging → v.Alone

/-- The power path's invariant on its view. -/
structure Sound (v : PathView) : Prop where
  fits : ∀ b, v.Fits b
  alone : ∀ b, v.state b = .charging → v.Alone
  dark : v.rail = false → v.Open ∧ v.transfer = none
  one : v.transfer = none → ∀ x y, v.closed x = true → v.closed y = true → x = y
  apart : ∀ x y m, v.transfer = some (x, y, m) → x ≠ some y
  bridge : ∀ x y, v.transfer = some (x, y, .bridge) → v.Open
  overlap : ∀ x y, v.transfer = some (x, y, .overlap) → ∃ b : Bay, x = some (.bay b)
    ∧ ∀ z, v.closed z = true ↔ z = .bay b ∨ z = y

theorem Sound.settled {v : PathView} (h : v.Sound) (ht : v.transfer = none) : v.Settled :=
  ⟨⟨h.fits, fun hr => (h.dark hr).1, h.one ht⟩, h.alone⟩

theorem Settled.sound {v : PathView} (h : v.Settled) (ht : v.transfer = none) : v.Sound where
  fits := h.fits
  alone := h.alone
  dark hr := ⟨h.dark hr, ht⟩
  one _ := h.one
  apart _ _ _ h := by simp [ht] at h
  bridge _ _ h := by simp [ht] at h
  overlap _ _ h := by simp [ht] at h

/-- Without a closed switch the path is settled, whatever the transfer. -/
theorem Sound.settled_of_open {v : PathView} (h : v.Sound) (ho : v.Open) : v.Settled :=
  ⟨⟨h.fits, fun _ => ho, fun x _ hx => absurd hx (by simp [ho x])⟩, h.alone⟩

theorem not_charging_of_open {v : PathView} (halone : ∀ b, v.state b = .charging → v.Alone) (ho : v.Open) (b : Bay) :
    v.state b ≠ .charging := fun h => absurd (halone b h).1 (by simp [ho .dc])

/-- While a transfer is in flight no bay charges. -/
theorem Sound.not_charging {v : PathView} (h : v.Sound) (ht : v.transfer ≠ none) (b : Bay) : v.state b ≠ .charging := by
  intro hb
  obtain ⟨⟨x, y, m⟩, hxy⟩ := Option.ne_none_iff_exists'.1 ht
  obtain ⟨hdc, hbays⟩ := h.alone b hb
  cases m with
  | bridge => exact absurd hdc (by simp [h.bridge x y hxy .dc])
  | overlap =>
    obtain ⟨c, -, hclosed⟩ := h.overlap x y hxy
    exact absurd ((hclosed (.bay c)).2 (.inl rfl)) (by simp [hbays c])

/-! ### A bay's move -/

section
variable {v : PathView} {b : Bay} {st : BayState} {c : Bool}

/-- What the new state and charge switch of a bay must agree with. -/
structure Allows (v : PathView) (b : Bay) (st : BayState) (c : Bool) : Prop where
  charge : c = true ↔ st = .charging
  feeds : v.closed (.bay b) = true → st = .supplying ∨ st = .releasing
  supplies : st = .supplying → v.closed (.bay b) = true
  alone : st = .charging → v.Alone

theorem fits_setBay (h : ∀ x, v.Fits x) (ha : v.Allows b st c) (x : Bay) : (v.setBay b st c).Fits x := by
  by_cases hx : x = b
  · subst hx
    exact ⟨by simpa [setBay] using ha.charge, by simpa [setBay] using ha.feeds, by simpa [setBay] using ha.supplies⟩
  · exact ⟨by simpa [setBay, hx] using (h x).charge, by simpa [setBay, hx] using (h x).feeds,
      by simpa [setBay, hx] using (h x).supplies⟩

theorem alone_setBay (h : ∀ x, v.state x = .charging → v.Alone) (ha : v.Allows b st c) (x : Bay)
    (hx : (v.setBay b st c).state x = .charging) : (v.setBay b st c).Alone := by
  by_cases hxb : x = b
  · subst hxb
    exact ha.alone (by simpa [setBay] using hx)
  · exact h x (by simpa [setBay, hxb] using hx)

theorem Sound.setBay (h : v.Sound) (ha : v.Allows b st c) : (v.setBay b st c).Sound where
  fits := fits_setBay h.fits ha
  alone := alone_setBay h.alone ha
  dark := h.dark
  one := h.one
  apart := h.apart
  bridge := h.bridge
  overlap := h.overlap

theorem Settled.setBay (h : v.Settled) (ha : v.Allows b st c) : (v.setBay b st c).Settled where
  fits := fits_setBay h.fits ha
  alone := alone_setBay h.alone ha
  dark := h.dark
  one := h.one

/-- A state that neither feeds nor charges, for a bay whose switch is open. -/
theorem allows_idle (ho : v.closed (.bay b) = false) (hs : st ≠ .supplying) (hc : st ≠ .charging) (hcharge : c = false) :
    v.Allows b st c where
  charge := by simp [hcharge, hc]
  feeds h := absurd h (by simp [ho])
  supplies h := absurd h hs
  alone h := absurd h hc

end

theorem Loose.setBay {v : PathView} {b : Bay} {st : BayState} {c : Bool} (h : v.Loose) (ha : v.Allows b st c) :
    (v.setBay b st c).Loose where
  fits := fits_setBay h.fits ha
  dark := h.dark
  one := h.one

theorem Loose.settled {v : PathView} (h : v.Loose) (hn : ∀ b, v.state b ≠ .charging) : v.Settled :=
  ⟨h, fun b hb => absurd hb (hn b)⟩

@[simp] theorem setBay_self (v : PathView) (b : Bay) : v.setBay b (v.state b) (v.charge b) = v := by
  simp [setBay]

@[simp] theorem drive_self (v : PathView) (x : Source) : v.drive x (v.closed x) = v := by
  simp [drive]

/-! ### Switches and transfers -/

theorem fits_setTransfer {v : PathView} (h : ∀ b, v.Fits b) (t : Option (Option Source × Source × Method)) (b : Bay) :
    (v.setTransfer t).Fits b := ⟨(h b).charge, (h b).feeds, (h b).supplies⟩

/-- A source begins to feed. -/
def feed (v : PathView) (y : Source) : PathView :=
  match y with
  | .dc => v.drive .dc true
  | .bay b => (v.drive (.bay b) true).setBay b .supplying (v.charge b)

theorem closed_feed (v : PathView) (y z : Source) : (v.feed y).closed z = true ↔ z = y ∨ v.closed z = true := by
  have hfeed : (v.feed y).closed z = if z = y then true else v.closed z := by
    cases y <;> simp [feed, drive, setBay, Function.update_apply]
  rw [hfeed]
  split <;> simp_all

@[simp] theorem feed_rail (v : PathView) (y : Source) : (v.feed y).rail = v.rail := by cases y <;> rfl

@[simp] theorem feed_transfer (v : PathView) (y : Source) : (v.feed y).transfer = v.transfer := by cases y <;> rfl

theorem feed_state {v : PathView} {y : Source} {b : Bay} (h : y ≠ .bay b) : (v.feed y).state b = v.state b := by
  cases y with
  | dc => rfl
  | bay c =>
    have hbc : b ≠ c := fun hbc => h (by rw [hbc])
    simp [feed, drive, setBay, hbc]

/-- The bays' switches agree with their states after a source that did not charge begins to feed. -/
theorem fits_feed {v : PathView} (h : ∀ b, v.Fits b) {y : Source} (hy : ∀ b, y = .bay b → v.state b ≠ .charging) (b : Bay) :
    (v.feed y).Fits b := by
  by_cases hb : y = .bay b
  · subst hb
    have hcharge : v.charge b ≠ true := fun hc => hy b rfl ((h b).charge.1 hc)
    exact ⟨by simp [feed, drive, setBay, hcharge], by simp [feed, setBay], by simp [feed, drive, setBay]⟩
  · have hstate := feed_state (v := v) hb
    have hclosed : (v.feed y).closed (.bay b) = v.closed (.bay b) :=
      Bool.eq_iff_iff.2 ((closed_feed v y _).trans (or_iff_right (Ne.symm hb)))
    have hcharge : (v.feed y).charge b = v.charge b := by cases y <;> simp [feed, drive, setBay]
    exact ⟨by rw [hstate, hcharge]; exact (h b).charge, by rw [hstate, hclosed]; exact (h b).feeds,
      by rw [hstate, hclosed]; exact (h b).supplies⟩

/-- While bridging, a source that begins to feed feeds alone. -/
theorem Settled.feed {v : PathView} (h : v.Settled) (ho : v.Open) (hr : v.rail = true) (y : Source) : (v.feed y).Settled := by
  have hn := not_charging_of_open h.alone ho
  refine Loose.settled ⟨fits_feed h.fits fun b _ => hn b, fun hoff => ?_, fun x z hx hz => ?_⟩ fun b hb => ?_
  · rw [feed_rail, hr] at hoff
    exact absurd hoff (by simp)
  · have only : ∀ w, (v.feed y).closed w = true → w = y := fun w hw => ((closed_feed v y w).1 hw).resolve_right (by simp [ho w])
    rw [only x hx, only z hz]
  · by_cases hy : y = .bay b
    · subst hy
      simp [PathView.feed, PathView.setBay] at hb
    · exact hn b (feed_state hy ▸ hb)

/-- A bay that feeds outside a transfer feeds alone, and no bay charges. -/
theorem Sound.feeds_alone {v : PathView} (h : v.Sound) (ht : v.transfer = none) {b : Bay} (hb : v.closed (.bay b) = true) :
    v.rail = true ∧ (∀ x, v.closed x = true ↔ x = .bay b) ∧ ∀ c, v.state c ≠ .charging := by
  refine ⟨?_, fun x => ⟨fun hx => h.one ht x _ hx hb, fun hx => hx ▸ hb⟩, fun c hc => ?_⟩
  · cases hr : v.rail with
    | true => rfl
    | false => exact absurd hb (by simp [(h.dark hr).1 (.bay b)])
  · exact absurd hb (by simp [(h.alone c hc).2 b])

/-- The transfer's record is no part of what a settled path shows. -/
theorem Settled.setTransfer {v : PathView} (h : v.Settled) (t : Option (Option Source × Source × Method)) :
    (v.setTransfer t).Settled := ⟨⟨fits_setTransfer h.fits t, h.dark, h.one⟩, h.alone⟩

/-- An OVERLAP starts from the bay that feeds: its switch and the target's are closed (R27). -/
theorem Sound.startOverlap {v : PathView} (h : v.Sound) (ht : v.transfer = none) {b : Bay} (hb : v.closed (.bay b) = true)
    {y : Source} (hy : y ≠ .bay b) : ((v.setTransfer (some (some (.bay b), y, .overlap))).feed y).Sound := by
  obtain ⟨hrail, hclosed, hn⟩ := h.feeds_alone ht hb
  have hstate (c : Bay) : ((v.setTransfer (some (some (.bay b), y, .overlap))).feed y).state c ≠ .charging := by
    by_cases hyc : y = .bay c
    · subst hyc
      simp [PathView.feed, PathView.setBay]
    · rw [feed_state hyc]
      exact hn c
  refine ⟨fits_feed (fits_setTransfer h.fits _) fun c _ => hn c, fun c hc => absurd hc (hstate c), fun hoff => ?_, fun hnone => ?_, ?_, ?_, ?_⟩
  · rw [feed_rail] at hoff
    exact absurd (hrail.symm.trans hoff) (by simp)
  · simp [PathView.setTransfer] at hnone
  · rintro x z m hx
    obtain ⟨rfl, rfl, -⟩ : some (Source.bay b) = x ∧ y = z ∧ Method.overlap = m := by simpa [PathView.setTransfer] using hx
    exact fun hsame => hy (Option.some.inj hsame).symm
  · rintro x z hx
    simp [PathView.setTransfer] at hx
  · rintro x z hx
    obtain ⟨rfl, rfl⟩ : some (Source.bay b) = x ∧ y = z := by simpa [PathView.setTransfer] using hx
    refine ⟨b, rfl, fun w => (closed_feed _ y w).trans ?_⟩
    rw [show (v.setTransfer (some (some (.bay b), y, .overlap))).closed w = v.closed w from rfl, hclosed w, or_comm]

/-- While the load is bridged a transfer towards another source is recorded (R29). -/
theorem Settled.startGap {v : PathView} (h : v.Settled) (ho : v.Open) (hr : v.rail = true) {x : Option Source} {y : Source}
    (hxy : x ≠ some y) : (v.setTransfer (some (x, y, .bridge))).Sound where
  fits := fits_setTransfer h.fits _
  alone := h.alone
  dark hoff := absurd (hr.symm.trans hoff) (by simp)
  one hnone := by simp [PathView.setTransfer] at hnone
  apart a c m hx := by
    obtain ⟨rfl, rfl, -⟩ : x = a ∧ y = c ∧ Method.bridge = m := by simpa [PathView.setTransfer] using hx
    exact hxy
  bridge _ _ _ := ho
  overlap _ _ hx := by simp [PathView.setTransfer] at hx

/-! ### A bay leaves the load -/

/-- A bay's two switches open and it enters a state. -/
def remove (v : PathView) (d : Bay) (st : BayState) : PathView := (v.drive (.bay d) false).setBay d st false

theorem closed_remove (v : PathView) (d : Bay) (st : BayState) (x : Source) :
    (v.remove d st).closed x = true ↔ x ≠ .bay d ∧ v.closed x = true := by
  by_cases hx : x = .bay d <;> simp [remove, drive, PathView.setBay, hx]

theorem allows_remove {v : PathView} {d : Bay} {st : BayState} (hs : st ≠ .supplying) (hc : st ≠ .charging) :
    (v.drive (.bay d) false).Allows d st false := allows_idle (by simp [drive]) hs hc rfl

theorem fits_remove {v : PathView} (h : ∀ b, v.Fits b) {d : Bay} {st : BayState} (hs : st ≠ .supplying) (hc : st ≠ .charging)
    (b : Bay) : (v.remove d st).Fits b := by
  by_cases hb : b = d
  · subst hb
    exact ⟨by simp [remove, PathView.setBay, hc], by simp [remove, PathView.setBay, drive], by simp [remove, PathView.setBay, hs]⟩
  · exact ⟨by simpa [remove, PathView.setBay, drive, hb] using (h b).charge,
      by simpa [remove, PathView.setBay, drive, hb] using (h b).feeds, by simpa [remove, PathView.setBay, drive, hb] using (h b).supplies⟩

theorem alone_remove {v : PathView} (h : ∀ b, v.state b = .charging → v.Alone) {d : Bay} {st : BayState} (hc : st ≠ .charging)
    (b : Bay) (hb : (v.remove d st).state b = .charging) : (v.remove d st).Alone := by
  by_cases hbd : b = d
  · subst hbd
    exact absurd (by simpa [remove, PathView.setBay] using hb) hc
  · obtain ⟨hdc, hbays⟩ := h b (by simpa [remove, PathView.setBay, drive, hbd] using hb)
    exact ⟨(closed_remove ..).2 ⟨by simp, hdc⟩, fun c => Bool.eq_false_iff.2 fun hcc => by
      simpa [hbays c] using ((closed_remove ..).1 hcc).2⟩

/-- A BRIDGE starts from the bay that feeds: its switch opens, and no switch is closed (R28). -/
theorem Sound.startBridge {v : PathView} (h : v.Sound) (ht : v.transfer = none) {b : Bay} (hb : v.closed (.bay b) = true)
    {y : Source} (hy : y ≠ .bay b) {st : BayState} (hs : st ≠ .supplying) (hc : st ≠ .charging) :
    ((v.setTransfer (some (some (.bay b), y, .bridge))).remove b st).Sound := by
  obtain ⟨hrail, hclosed, hn⟩ := h.feeds_alone ht hb
  have hopen : ((v.setTransfer (some (some (.bay b), y, .bridge))).remove b st).Open := fun x => Bool.eq_false_iff.2 fun hx => by
    obtain ⟨hxb, hxc⟩ := (closed_remove ..).1 hx
    exact hxb ((hclosed x).1 hxc)
  refine Sound.mk (fits_remove (fits_setTransfer h.fits _) hs hc) (alone_remove (fun c hcc => absurd hcc (hn c)) hc)
    (fun hoff => absurd (hrail.symm.trans hoff) (by simp)) (fun hnone => ?_) ?_ (fun _ _ _ => hopen) ?_
  · simp [PathView.remove, PathView.setBay, drive, PathView.setTransfer] at hnone
  · rintro x z m hx
    obtain ⟨rfl, rfl, -⟩ : some (Source.bay b) = x ∧ y = z ∧ Method.bridge = m := by
      simpa [PathView.remove, PathView.setBay, drive, PathView.setTransfer] using hx
    exact fun hsame => hy (Option.some.inj hsame).symm
  · rintro x z hx
    simp [PathView.remove, PathView.setBay, drive, PathView.setTransfer] at hx

/-- A bay that leaves, and took part in the OVERLAP in flight if there is one, leaves at most one source feeding. -/
theorem Sound.remove_settled {v : PathView} (h : v.Sound) {d : Bay}
    (hpart : ∀ x y, v.transfer = some (x, y, .overlap) → x = some (.bay d) ∨ y = .bay d) {st : BayState} (hs : st ≠ .supplying)
    (hc : st ≠ .charging) : (v.remove d st).Settled where
  fits := fits_remove h.fits hs hc
  alone := alone_remove h.alone hc
  dark hr x := Bool.eq_false_iff.2 fun hx => by simpa [(h.dark hr).1 x] using ((closed_remove ..).1 hx).2
  one x z hx hz := by
    obtain ⟨hxd, hxc⟩ := (closed_remove ..).1 hx
    obtain ⟨hzd, hzc⟩ := (closed_remove ..).1 hz
    rcases ht : v.transfer with _ | ⟨a, y, m⟩
    · exact h.one ht x z hxc hzc
    · cases m with
      | bridge => exact absurd hxc (by simp [h.bridge a y ht x])
      | overlap =>
        obtain ⟨b, rfl, hclosed⟩ := h.overlap a y ht
        rcases hpart _ _ ht with hd | rfl
        · obtain rfl : b = d := by simpa using hd
          rw [((hclosed x).1 hxc).resolve_left hxd, ((hclosed z).1 hzc).resolve_left hzd]
        · rw [((hclosed x).1 hxc).resolve_right hxd, ((hclosed z).1 hzc).resolve_right hzd]

/-- A bay that does not feed leaves. -/
theorem Sound.remove {v : PathView} (h : v.Sound) {d : Bay} (ho : v.closed (.bay d) = false) {st : BayState}
    (hs : st ≠ .supplying) (hc : st ≠ .charging) : (v.remove d st).Sound := by
  have hdrive : v.drive (.bay d) false = v := ho ▸ drive_self v (.bay d)
  unfold PathView.remove
  rw [hdrive]
  exact h.setBay (allows_idle ho hs hc rfl)

end PathView

end Sys2Proof.Machine
end

section
/-! PROOFS. Source selection, releases and the end of a transfer keep the power path's invariant (chapter 2). -/

namespace Sys2Proof.Machine

/-! ### The view of the shared operations -/

@[simp] theorem bay_other_ne (b : Bay) : b.other ≠ b := by cases b <;> simp [Bay.other]

theorem pathView_congr {s t : State} (h : t.ppc = s.ppc) : pathView t = pathView s := by
  ext x
  · simp [pathView, h]
  · cases x <;> simp [pathView, switchClosed, bayOf, h]
  · simp [pathView, bayOf, h]
  · simp [pathView, bayOf, h]
  · simp [pathView, h]

/-- A change of the power path's record that leaves what the view shows. -/
theorem pathView_updPpc {f : Ppc → Ppc} {s : State} (hrail : (f s.ppc).railOn = s.ppc.railOn)
    (hdc : (f s.ppc).dcSwitch = s.ppc.dcSwitch) (hbays : (f s.ppc).bays = s.ppc.bays)
    (ht : (f s.ppc).transfer = s.ppc.transfer) : pathView (updPpc f s) = pathView s := by
  ext x
  · simp [pathView, hrail]
  · cases x <;> simp [pathView, switchClosed, bayOf, hdc, hbays]
  · simp [pathView, bayOf, hbays]
  · simp [pathView, bayOf, hbays]
  · simp [pathView, ht]

/-- A change of a bay's record that leaves its discharge switch. -/
theorem pathView_updBay {b : Bay} {f : BayRecord → BayRecord} {s : State}
    (hdischarge : (f (bayOf s b)).discharge = (bayOf s b).discharge) :
    pathView (updBay b f s) = (pathView s).setBay b (f (bayOf s b)).state (f (bayOf s b)).charge := by
  ext x
  · rfl
  · cases x with
    | dc => rfl
    | bay c =>
      rcases bay_eq_or_other b c with rfl | rfl
      · simpa [pathView, switchClosed, PathView.setBay] using hdischarge
      · simp [pathView, switchClosed, PathView.setBay]
  · rcases bay_eq_or_other b ‹Bay› with rfl | rfl <;> simp [pathView, PathView.setBay]
  · rcases bay_eq_or_other b ‹Bay› with rfl | rfl <;> simp [pathView, PathView.setBay]
  · rfl

/-- A change of a bay's record that leaves its switches and state. -/
theorem pathView_updBay_same {b : Bay} {f : BayRecord → BayRecord} {s : State}
    (hdischarge : (f (bayOf s b)).discharge = (bayOf s b).discharge) (hstate : (f (bayOf s b)).state = (bayOf s b).state)
    (hcharge : (f (bayOf s b)).charge = (bayOf s b).charge) : pathView (updBay b f s) = pathView s := by
  rw [pathView_updBay hdischarge, hstate, hcharge]
  exact PathView.setBay_self _ b

@[simp] theorem pathView_enterBay (b : Bay) (st : BayState) (s : State) :
    pathView (enterBay b st s) = (pathView s).setBay b st ((pathView s).charge b) := by
  have hrecord : pathView (enterBay b st s) = pathView (updBay b (enteredRecord st) s) := pathView_congr (by simp)
  have hfields : (enteredRecord st (bayOf s b)).discharge = (bayOf s b).discharge
      ∧ (enteredRecord st (bayOf s b)).state = st ∧ (enteredRecord st (bayOf s b)).charge = (bayOf s b).charge := by
    unfold enteredRecord
    split
    · exact ⟨rfl, Eq.symm ‹_›, rfl⟩
    · exact ⟨rfl, rfl, rfl⟩
  obtain ⟨hdischarge, hstate, hcharge⟩ := hfields
  rw [hrecord, pathView_updBay hdischarge, hstate, hcharge]
  rfl

@[simp] theorem pathView_pathChanged (old s : State) : pathView (pathChanged old s) = pathView s := by
  have h : pathView (pathChanged old s) = pathView (updPpc (fun p => { p with
      bridgeTimer := if bridging s then (if bridging old then s.ppc.bridgeTimer else some 0) else none }) s) :=
    pathView_congr (by simp)
  rw [h]
  exact pathView_updPpc rfl rfl rfl rfl

@[simp] theorem pathView_setSwitch (x : Source) (c : Bool) (s : State) :
    pathView (setSwitch x c s) = (pathView s).drive x c := by
  unfold setSwitch
  rw [pathView_pathChanged]
  cases x with
  | dc =>
    ext z
    · rfl
    · cases z <;> simp [driveSwitch, pathView, switchClosed, PathView.drive, bayOf]
    all_goals rfl
  | bay b =>
    ext z
    · rfl
    · cases z with
      | dc => simp [driveSwitch, pathView, switchClosed, PathView.drive]
      | bay d =>
        rcases bay_eq_or_other b d with rfl | rfl
        · simp [driveSwitch, pathView, switchClosed, PathView.drive]
        · simp [driveSwitch, pathView, switchClosed, PathView.drive]
    · rcases bay_eq_or_other b ‹Bay› with rfl | rfl <;> simp [driveSwitch, pathView, PathView.drive]
    · rcases bay_eq_or_other b ‹Bay› with rfl | rfl <;> simp [driveSwitch, pathView, PathView.drive]
    · rfl

@[simp] theorem pathView_feed (y : Source) (s : State) : pathView (feed y s) = (pathView s).feed y := by
  cases y with
  | dc => exact pathView_setSwitch ..
  | bay b =>
    show pathView (enterBay b .supplying (setSwitch (.bay b) true s)) = _
    rw [pathView_enterBay, pathView_setSwitch]
    rfl

@[simp] theorem pathView_setTransfer (t : Option Transfer) (s : State) :
    pathView (setTransfer t s) = (pathView s).setTransfer (t.map fun t => (t.source, t.target, t.phase)) := rfl

@[simp] theorem pathView_setWaiting (w : Option WaitCause) (s : State) : pathView (setWaiting w s) = pathView s := rfl

@[simp] theorem pathView_raise (n : Notice) (s : State) : pathView (raise n s) = pathView s := pathView_congr (by simp)

@[simp] theorem pathView_arbitrate (s : State) : pathView (arbitrate s) = pathView s := pathView_congr (by simp)

@[simp] theorem pathView_setPending (b : Bay) (v : Bool) (s : State) : pathView (setPending b v s) = pathView s :=
  pathView_updBay_same rfl rfl rfl

@[simp] theorem pathView_tellBudgetIf (c : Bool) (s : State) : pathView (tellBudgetIf c s) = pathView s :=
  pathView_congr (by simp)

@[simp] theorem pathView_clearForced (s : State) : pathView (clearForced s) = pathView s := by
  unfold clearForced
  rw [pathView_tellBudgetIf]
  rfl

@[simp] theorem pathView_clearForcedOf (b : Bay) (s : State) : pathView (clearForcedOf b s) = pathView s := by
  unfold clearForcedOf
  repeat' split
  all_goals simp

@[simp] theorem pathView_sessionStopped (b : Bay) (r : Option HeldReason) (s : State) :
    pathView (sessionStopped b r s) = pathView s := pathView_congr (by simp)

theorem pathView_openCharge (b : Bay) (st : BayState) (s : State) :
    pathView (openCharge b st s) = (pathView s).setBay b st false := by
  unfold openCharge
  rw [pathView_enterBay, pathView_updBay rfl]
  simp [PathView.setBay]

@[simp] theorem pathView_stopCharging (b : Bay) (s : State) :
    pathView (stopCharging b s) =
      if (pathView s).state b = .charging then (pathView s).setBay b .standby false else pathView s := by
  unfold stopCharging
  show pathView (if (pathView s).state b = .charging then _ else _) = _
  split
  · rw [pathView_sessionStopped, pathView_openCharge]
  · rfl

@[simp] theorem pathView_dropStaleWaiting (s : State) : pathView (dropStaleWaiting s) = pathView s := by
  unfold dropStaleWaiting
  repeat' split
  all_goals rfl

@[simp] theorem pathView_refuseRelease (b : Bay) (r : RefusalReason) (s : State) :
    pathView (refuseRelease b r s) = pathView s := by
  simp only [refuseRelease]
  split_ifs
  · simp
  · simp
  · rw [pathView_updBay_same rfl rfl rfl, pathView_raise]
  · rw [pathView_updBay_same rfl rfl rfl, pathView_raise]
  · simp

theorem dcFeedsAlone_iff (s : State) : dcFeedsAlone s = true ↔ (pathView s).Alone := by
  simp only [dcFeedsAlone, PathView.Alone, pathView, switchClosed, Bool.and_eq_true, Bool.not_eq_true', and_assoc]
  exact and_congr_right fun _ => ⟨fun ⟨ha, hb⟩ c => by cases c <;> assumption, fun h => ⟨h .A, h .B⟩⟩

theorem anyFeeding_iff (s : State) : anyFeeding s = false ↔ (pathView s).Open := by
  simp only [anyFeeding, PathView.Open, pathView, Bool.or_eq_false_iff, and_assoc]
  constructor
  · rintro ⟨hdc, ha, hb⟩ x
    rcases x with _ | c
    · exact hdc
    · cases c <;> assumption
  · exact fun h => ⟨h .dc, h (.bay .A), h (.bay .B)⟩

theorem transfer_view {s : State} {x : Option Source} {y : Source} {m : Method} :
    (pathView s).transfer = some (x, y, m) ↔ ∃ t, s.ppc.transfer = some t ∧ t.source = x ∧ t.target = y ∧ t.phase = m := by
  simp [pathView]

theorem transfer_view_none {s : State} : (pathView s).transfer = none ↔ s.ppc.transfer = none := by
  simp [pathView]

/-- The invariant of the path is one of its view. -/
theorem pathSound_iff (s : State) : PathSound s ↔ (pathView s).Sound := by
  constructor
  · rintro ⟨hbays, hdark, hone, htransfer⟩
    refine ⟨fun b => ?_, fun b hb => ?_, fun hr => ?_, fun ht => hone (transfer_view_none.1 ht), ?_, ?_, ?_⟩
    · obtain ⟨hcharge, hfeeds, hsupplies, -⟩ := hbays b
      exact ⟨hcharge, hfeeds, hsupplies⟩
    · obtain ⟨-, -, -, halone⟩ := hbays b
      exact (dcFeedsAlone_iff s).1 (halone hb)
    · obtain ⟨hopen, ht⟩ := hdark hr
      exact ⟨(anyFeeding_iff s).1 hopen, transfer_view_none.2 ht⟩
    · rintro x y m h
      obtain ⟨t, ht, rfl, rfl, rfl⟩ := transfer_view.1 h
      exact (htransfer t ht).1
    · rintro x y h
      obtain ⟨t, ht, rfl, rfl, hm⟩ := transfer_view.1 h
      exact (anyFeeding_iff s).1 ((htransfer t ht).2.1 hm)
    · rintro x y h
      obtain ⟨t, ht, rfl, rfl, hm⟩ := transfer_view.1 h
      exact (htransfer t ht).2.2 hm
  · rintro ⟨hfits, halone, hdark, hone, hapart, hbridge, hoverlap⟩
    refine ⟨fun b => ⟨(hfits b).charge, (hfits b).feeds, (hfits b).supplies, fun hb => (dcFeedsAlone_iff s).2 (halone b hb)⟩,
      fun hr => ?_, fun ht => hone (transfer_view_none.2 ht), fun t ht => ⟨?_, fun hm => ?_, fun hm => ?_⟩⟩
    · obtain ⟨hopen, ht⟩ := hdark hr
      exact ⟨(anyFeeding_iff s).2 hopen, transfer_view_none.1 ht⟩
    · exact hapart _ _ _ (transfer_view.2 ⟨t, ht, rfl, rfl, rfl⟩)
    · exact (anyFeeding_iff s).2 (hbridge _ _ (transfer_view.2 ⟨t, ht, rfl, rfl, hm⟩))
    · exact hoverlap _ _ (transfer_view.2 ⟨t, ht, rfl, rfl, hm⟩)

/-! ### What the evaluations of the path keep -/

namespace PathView

/-- A bay carries the load: it feeds outside a transfer, or is the source of the transfer in flight. -/
def LoadOn (v : PathView) (b : Bay) : Prop :=
  (v.transfer = none ∧ v.closed (.bay b) = true) ∨ ∃ y m, v.transfer = some (some (.bay b), y, m)

/-- The invariant with what the evaluations of the path leave besides: the rail, a bay that does not charge, and a bay with the load on
it. -/
structure Runs (rail : Bool) (mayCharge hasLoad : Bay → Prop) (v : PathView) : Prop where
  sound : v.Sound
  rail : v.rail = rail
  charging : ∀ b, v.state b = .charging → mayCharge b
  load : ∀ b, hasLoad b → v.LoadOn b

variable {r : Bool} {C L : Bay → Prop} {v : PathView}

theorem Runs.setBay (h : v.Runs r C L) {b : Bay} {st : BayState} {c : Bool} (ha : v.Allows b st c) (hc : st ≠ .charging) :
    (v.setBay b st c).Runs r C L where
  sound := h.sound.setBay ha
  rail := h.rail
  charging x hx := by
    by_cases hxb : x = b
    · subst hxb
      exact absurd (by simpa [PathView.setBay] using hx) hc
    · exact h.charging x (by simpa [PathView.setBay, hxb] using hx)
  load := h.load

/-- A bay whose switch is open and that does not charge enters a state that neither feeds nor charges. -/
theorem Runs.rest (h : v.Runs r C L) {b : Bay} {st : BayState} (ho : v.closed (.bay b) = false) (hn : v.state b ≠ .charging)
    (hs : st ≠ .supplying) (hc : st ≠ .charging) : (v.setBay b st (v.charge b)).Runs r C L :=
  h.setBay (allows_idle ho hs hc (Bool.eq_false_iff.2 fun hcc => hn ((h.sound.fits b).charge.1 hcc))) hc

/-- A bay's charge switch opens as it enters a state. -/
theorem Runs.openCharge (h : v.Runs r C L) {b : Bay} {st : BayState} (hb : v.state b = .charging) (hs : st ≠ .supplying)
    (hc : st ≠ .charging) : (v.setBay b st false).Runs r C L :=
  h.setBay (allows_idle ((h.sound.alone b hb).2 b) hs hc rfl) hc

/-- A bay that does not charge enters RELEASING, whether it feeds or not. -/
theorem Runs.releasing (h : v.Runs r C L) {b : Bay} (hn : v.state b ≠ .charging) :
    (v.setBay b .releasing (v.charge b)).Runs r C L :=
  h.setBay ⟨by simpa [hn] using (h.sound.fits b).charge, fun _ => .inr rfl, fun hs => (by cases hs), fun hc => (by cases hc)⟩ (by simp)

/-- A bay that feeds enters SUPPLYING. -/
theorem Runs.supplying (h : v.Runs r C L) {b : Bay} (hb : v.closed (.bay b) = true) :
    (v.setBay b .supplying (v.charge b)).Runs r C L := by
  have hn : v.state b ≠ .charging := fun hc => by rcases (h.sound.fits b).feeds hb with hs | hs <;> simp [hs] at hc
  exact h.setBay ⟨by simpa [hn] using (h.sound.fits b).charge, fun _ => .inl rfl, fun _ => hb, fun hc => (by cases hc)⟩ (by simp)

/-- The bay that carries the load outside a transfer is the one that feeds. -/
theorem Runs.load_eq (h : v.Runs r C L) (ht : v.transfer = none) {b : Bay} (hb : v.closed (.bay b) = true) {c : Bay} (hc : L c) :
    c = b := by
  rcases h.load c hc with ⟨-, hcc⟩ | ⟨y, m, hcc⟩
  · simpa using h.sound.one ht _ _ hcc hb
  · simp [ht] at hcc

theorem Runs.startOverlap (h : v.Runs r C L) (ht : v.transfer = none) {b : Bay} (hb : v.closed (.bay b) = true) {y : Source}
    (hy : y ≠ .bay b) : ((v.setTransfer (some (some (.bay b), y, .overlap))).feed y).Runs r C L where
  sound := h.sound.startOverlap ht hb hy
  rail := by
    rw [feed_rail]
    exact h.rail
  charging c hc := by
    by_cases hyc : y = .bay c
    · subst hyc
      simp [PathView.feed, PathView.setBay] at hc
    · exact h.charging c ((feed_state (v := v.setTransfer (some (some (.bay b), y, .overlap))) hyc).symm.trans hc)
  load c hc := .inr ⟨y, .overlap, by rw [feed_transfer, h.load_eq ht hb hc]; rfl⟩

theorem Runs.startBridge (h : v.Runs r C L) (ht : v.transfer = none) {b : Bay} (hb : v.closed (.bay b) = true) {y : Source}
    (hy : y ≠ .bay b) {st : BayState} (hs : st ≠ .supplying) (hc : st ≠ .charging) :
    ((v.setTransfer (some (some (.bay b), y, .bridge))).remove b st).Runs r C L where
  sound := h.sound.startBridge ht hb hy hs hc
  rail := h.rail
  charging c hcc := by
    by_cases hcb : c = b
    · subst hcb
      exact absurd (by simpa [PathView.remove, PathView.setBay] using hcc) hc
    · exact h.charging c (by simpa [PathView.remove, PathView.setBay, drive, PathView.setTransfer, hcb] using hcc)
  load c hc := .inr ⟨y, .bridge, by rw [h.load_eq ht hb hc]; rfl⟩

theorem Runs.startGap (h : v.Runs r C L) (ht : v.transfer = none) (ho : v.Open) (hr : r = true) {x : Option Source} {y : Source}
    (hxy : x ≠ some y) : (v.setTransfer (some (x, y, .bridge))).Runs r C L where
  sound := (h.sound.settled_of_open ho).startGap ho (h.rail.trans hr) hxy
  rail := h.rail
  charging := h.charging
  load c hc := by
    rcases h.load c hc with ⟨-, hcc⟩ | ⟨_, _, hcc⟩
    · simp [ho (.bay c)] at hcc
    · simp [ht] at hcc

end PathView

/-! ### Starting a transfer -/

section
variable {r : Bool} {C L : Bay → Prop} {s : State}

/-- The invariant rests on the view alone. -/
theorem PathView.Runs.congr {t : State} (h : (pathView s).Runs r C L) (hv : pathView t = pathView s) :
    (pathView t).Runs r C L := hv ▸ h

theorem stopCharging_runs (b : Bay) (h : (pathView s).Runs r C L) : (pathView (stopCharging b s)).Runs r C L := by
  rw [pathView_stopCharging]
  split
  case isTrue hb => exact h.openCharge hb (by simp) (by simp)
  case isFalse => exact h

/-- A target bay is taken out of CHARGING; the switches and the transfer stay. -/
theorem clearTarget_view (y : Source) (s : State) :
    (pathView (clearTarget y s)).closed = (pathView s).closed ∧ (pathView (clearTarget y s)).transfer = (pathView s).transfer
      ∧ (pathView (clearTarget y s)).rail = (pathView s).rail := by
  cases y with
  | dc => exact ⟨rfl, rfl, rfl⟩
  | bay b =>
    simp only [clearTarget, pathView_stopCharging]
    split <;> exact ⟨rfl, rfl, rfl⟩

theorem clearTarget_runs (y : Source) (h : (pathView s).Runs r C L) : (pathView (clearTarget y s)).Runs r C L := by
  cases y with
  | dc => exact h
  | bay b => exact stopCharging_runs b h

theorem restState_idle (s : State) (b : Bay) : restState s b ≠ .supplying ∧ restState s b ≠ .charging := by
  unfold restState
  split <;> simp

/-- The source of a BRIDGE opens its switch; a bay that was SUPPLYING takes its rest state. -/
theorem leaveLoad_runs {b : Bay} {y : Source} {m : Method} {p : Bool} {c : Cause} (h : (pathView s).Runs r C L)
    (ht : (pathView s).transfer = none) (hb : (pathView s).closed (.bay b) = true) (hy : y ≠ .bay b) :
    (pathView (leaveLoad (.bay b)
      (setSwitch (.bay b) false (setTransfer (some ⟨some (.bay b), y, m, .bridge, p, c, 0⟩) s)))).Runs r C L := by
  have hn : (pathView s).charge b = false := Bool.eq_false_iff.2 fun hc =>
    ((h.sound.feeds_alone ht hb).2.2 b) ((h.sound.fits b).charge.1 hc)
  generalize hu : setSwitch (.bay b) false (setTransfer (some ⟨some (.bay b), y, m, .bridge, p, c, 0⟩) s) = u
  have huv : pathView u = ((pathView s).setTransfer (some (some (.bay b), y, .bridge))).drive (.bay b) false := by
    rw [← hu, pathView_setSwitch, pathView_setTransfer]
    rfl
  have hremove (st : BayState) : (pathView u).setBay b st ((pathView u).charge b) =
      ((pathView s).setTransfer (some (some (.bay b), y, .bridge))).remove b st := by
    rw [huv, PathView.remove]
    exact congrArg _ hn
  show (pathView (if (pathView u).state b = .supplying then arbitrate (enterBay b (restState u b) u) else u)).Runs r C L
  split
  case isTrue =>
    rw [pathView_arbitrate, pathView_enterBay, hremove]
    exact h.startBridge ht hb hy (restState_idle u b).1 (restState_idle u b).2
  case isFalse hs =>
    have hstate : (pathView u).state b = .releasing := by
      have hfeeds := (h.sound.fits b).feeds hb
      rw [huv] at hs ⊢
      exact hfeeds.resolve_left hs
    rw [← PathView.setBay_self (pathView u) b, hremove]
    exact h.startBridge ht hb hy (by simp [hstate]) (by simp [hstate])

/-- A planned transfer starts from the bay that feeds. -/
theorem startTransfer_runs {b : Bay} {y : Source} (m : Method) (c : Cause) (h : (pathView s).Runs r C L)
    (ht : (pathView s).transfer = none) (hb : (pathView s).closed (.bay b) = true) (hy : y ≠ .bay b) :
    (pathView (startTransfer (.bay b) y m c s)).Runs r C L := by
  obtain ⟨hclosed, htransfer, -⟩ := clearTarget_view y s
  have hcleared : (pathView (setWaiting none (clearTarget y s))).Runs r C L := clearTarget_runs y h
  rw [← htransfer] at ht
  rw [← hclosed] at hb
  cases m with
  | overlap =>
    show (pathView (feed y (setTransfer (some ⟨some (.bay b), y, .overlap, .overlap, true, c, 0⟩)
      (setWaiting none (clearTarget y s))))).Runs r C L
    rw [pathView_feed, pathView_setTransfer]
    exact hcleared.startOverlap ht hb hy
  | bridge => exact leaveLoad_runs hcleared ht hb hy

/-! ### Source selection (R23, R24) -/

theorem feedingBay_closed {b : Bay} (h : feedingBay s = some b) : (pathView s).closed (.bay b) = true := by
  unfold feedingBay at h
  split_ifs at h with ha hb
  · obtain rfl : Bay.A = b := Option.some.inj h
    exact ha
  · obtain rfl : Bay.B = b := Option.some.inj h
    exact hb

theorem open_of_no_feedingBay (h : feedingBay s = none) (hdc : s.ppc.dcSwitch = false) : (pathView s).Open := by
  unfold feedingBay at h
  split_ifs at h with ha hb
  rintro (_ | c)
  · exact hdc
  · cases c
    · exact Bool.eq_false_iff.2 ha
    · exact Bool.eq_false_iff.2 hb

/-- A source that is not the bay: DC, or the other bay. -/
theorem other_bay_ne (b : Bay) : Source.bay b.other ≠ .bay b := by simp

theorem seekTransfer_runs {b : Bay} {y : Source} (c : Cause) (w : WaitCause) (h : (pathView s).Runs r C L)
    (ht : (pathView s).transfer = none) (hb : (pathView s).closed (.bay b) = true) (hy : y ≠ .bay b) :
    (pathView (seekTransfer b y c w s)).Runs r C L := by
  unfold seekTransfer
  repeat' split
  · exact startTransfer_runs _ _ h ht hb hy
  · exact h
  · exact h

theorem giveUpLoad_runs {b : Bay} (h : (pathView s).Runs r C L) (ht : (pathView s).transfer = none)
    (hb : (pathView s).closed (.bay b) = true) : (pathView (giveUpLoad b s)).Runs r C L := by
  simp only [giveUpLoad]
  split_ifs
  · exact seekTransfer_runs _ _ h ht hb (other_bay_ne b)
  · exact seekTransfer_runs _ _ h ht hb (other_bay_ne b)
  · exact h
  · refine h.congr ?_
    unfold raiseIf
    split
    · exact pathView_raise ..
    · rfl

theorem startGap_runs {x : Option Source} {y : Source} (c : Cause) (h : (pathView s).Runs true C L)
    (ht : (pathView s).transfer = none) (ho : (pathView s).Open) (hxy : x ≠ some y) :
    (pathView (startGap x y c s)).Runs true C L := h.startGap ht ho rfl hxy

theorem chooseSource_runs (h : (pathView s).Runs true C L) (ht : (pathView s).transfer = none) :
    (pathView (chooseSource s)).Runs true C L := by
  unfold chooseSource
  split
  · split
    · exact h
    case isFalse hdc =>
      split
      case h_1 b hb => exact seekTransfer_runs _ _ h ht (feedingBay_closed hb) (by simp)
      case h_2 hnone =>
        exact startGap_runs _ h ht (open_of_no_feedingBay hnone (Bool.eq_false_iff.2 hdc)) (by simp)
  · split
    case h_1 b hb => exact giveUpLoad_runs h ht (feedingBay_closed hb)
    case h_2 hnone =>
      split
      · exact h
      case isFalse hdc =>
        split
        case h_1 y _ =>
          obtain ⟨hclosed, htransfer, -⟩ := clearTarget_view y s
          refine startGap_runs _ (clearTarget_runs y h) (htransfer.trans ht) ?_ (by simp)
          intro x
          rw [hclosed]
          exact open_of_no_feedingBay hnone (Bool.eq_false_iff.2 hdc) x
        case h_2 => exact h

theorem waitingTarget_ne {w : WaitCause} {b : Bay} {y : Source} {c : Cause} (h : waitingTarget s w b = some (y, c)) :
    y ≠ .bay b := by
  unfold waitingTarget at h
  split at h
  · obtain ⟨rfl, -⟩ : Source.dc = y ∧ _ := by simpa using h
    simp
  all_goals
    split_ifs at h
    obtain ⟨rfl, -⟩ : Source.bay b.other = y ∧ _ := by simpa using h
    exact other_bay_ne b

/-- A waiting transfer that is tried starts, or nothing changes. -/
theorem retryWaiting_runs (h : (pathView s).Runs r C L) (ht : (pathView s).transfer = none) :
    (pathView (retryWaiting s).1).Runs r C L ∧ ((retryWaiting s).2 = false → (retryWaiting s).1 = s) := by
  unfold retryWaiting
  split
  case h_2 => exact ⟨h, fun _ => rfl⟩
  case h_1 w b _ hb =>
    split
    case h_2 => exact ⟨h, fun _ => rfl⟩
    case h_1 y c hy =>
      split
      · exact ⟨startTransfer_runs _ _ h ht (feedingBay_closed hb) (waitingTarget_ne hy), fun hfalse => by simp at hfalse⟩
      · exact ⟨h, fun _ => rfl⟩

theorem select_runs (h : (pathView s).Runs r C L) : (pathView (select s)).Runs r C L := by
  unfold select
  split
  · exact h
  case isFalse hon =>
    simp only [Bool.or_eq_true, Bool.not_eq_true', not_or, Bool.not_eq_false, Option.not_isSome_iff_eq_none] at hon
    obtain ⟨hrail, hnone⟩ := hon
    obtain rfl : r = true := h.rail.symm.trans hrail
    have hv := pathView_dropStaleWaiting s
    have ht : (pathView (dropStaleWaiting s)).transfer = none := hv ▸ transfer_view_none.2 hnone
    obtain ⟨hruns, hsame⟩ := retryWaiting_runs (h.congr hv) ht
    split
    case h_1 t heq => rwa [heq] at hruns
    case h_2 t heq =>
      rw [heq] at hsame
      obtain rfl : t = dropStaleWaiting s := hsame rfl
      exact chooseSource_runs (h.congr hv) ht

/-! ### Releases (R35 to R38) -/

theorem goReleased_runs {b : Bay} (h : (pathView s).Runs r C L) (ho : (pathView s).closed (.bay b) = false)
    (hn : (pathView s).state b ≠ .charging) : (pathView (goReleased b s)).Runs r C L := by
  obtain ⟨hsupply, hcharge⟩ := restState_idle s b
  unfold goReleased
  split
  · rw [pathView_setPending, pathView_enterBay]
    exact h.rest ho hn hsupply hcharge
  · rw [pathView_raise, pathView_enterBay]
    exact h.rest ho hn (by simp) (by simp)

theorem alternative_ne {b : Bay} {y : Source} (h : alternative s b = some y) : y ≠ .bay b := by
  simp only [alternative] at h
  split_ifs at h
  · obtain rfl : Source.dc = y := Option.some.inj h
    simp
  · obtain rfl : Source.bay b.other = y := Option.some.inj h
    exact other_bay_ne b

/-- A release of the bay that feeds starts a transfer from it, or nothing changes. -/
theorem seekRelease_runs {b : Bay} (h : (pathView s).Runs r C L) (ht : (pathView s).transfer = none)
    (hb : (pathView s).closed (.bay b) = true) :
    (pathView (seekRelease b s).1).Runs r C L ∧ ((seekRelease b s).2 ≠ .started → (seekRelease b s).1 = s) := by
  unfold seekRelease
  split
  case h_1 => exact ⟨h, fun _ => rfl⟩
  case h_2 y hy =>
    split
    case h_1 => exact ⟨h, fun _ => rfl⟩
    case h_2 m _ =>
      have hview : pathView (enterBay b .releasing (clearForcedOf b s)) =
          (pathView s).setBay b .releasing ((pathView s).charge b) := by simp
      have hentered : (pathView (enterBay b .releasing (clearForcedOf b s))).Runs r C L := by
        rw [hview]
        exact h.releasing ((h.sound.feeds_alone ht hb).2.2 b)
      exact ⟨startTransfer_runs _ _ hentered (by rw [hview]; exact ht) (by rw [hview]; exact hb) (alternative_ne hy),
        fun hns => absurd rfl hns⟩

theorem turnIntoRelease_runs {b : Bay} (h : (pathView s).Runs r C L) (hn : (pathView s).state b ≠ .charging) :
    (pathView (turnIntoRelease b s)).Runs r C L := by
  have relabel (u : State) :
      pathView (updPpc (fun p => { p with transfer := p.transfer.map fun t => { t with cause := .release } }) u) = pathView u := by
    ext x
    · rfl
    · cases x <;> rfl
    · rfl
    · rfl
    · simp [pathView, Function.comp_def]
  have hcleared := pathView_clearForcedOf b s
  simp only [turnIntoRelease]
  rw [relabel]
  split
  · exact h.congr hcleared
  · rw [pathView_enterBay, hcleared]
    exact h.releasing hn

theorem releaseSupplying_runs {b : Bay} (h : (pathView s).Runs r C L) (hb : (pathView s).state b = .supplying) :
    (pathView (releaseSupplying b s).1).Runs r C L := by
  unfold releaseSupplying
  split
  case isTrue => exact h.congr (pathView_setPending ..)
  case isFalse hnone =>
    have ht : (pathView s).transfer = none := transfer_view_none.2 (Option.not_isSome_iff_eq_none.1 hnone)
    obtain ⟨hruns, -⟩ := seekRelease_runs h ht ((h.sound.fits b).supplies hb)
    split <;> rename_i heq <;> rw [heq] at hruns
    · exact hruns
    · exact hruns.congr (pathView_refuseRelease ..)
    · exact hruns.congr (pathView_refuseRelease ..)

theorem releaseCharging_runs {b : Bay} (h : (pathView s).Runs r C L) (hb : (pathView s).state b = .charging) :
    (pathView (releaseCharging b s)).Runs r C L := by
  have hview (st : BayState) : pathView (enterBay b st (updBay b (fun r => { r with charge := false }) s)) =
      (pathView s).setBay b st false := pathView_openCharge b st s
  unfold releaseCharging goReleased
  rw [pathView_sessionStopped]
  split
  · obtain ⟨hsupply, hcharge⟩ := restState_idle (updBay b (fun r => { r with charge := false }) s) b
    rw [pathView_setPending, hview]
    exact h.openCharge hb hsupply hcharge
  · rw [pathView_raise, hview]
    exact h.openCharge hb (by simp) (by simp)

/-- A bay outside SUPPLYING and RELEASING has its switch open. -/
theorem PathView.Sound.open_of_state {v : PathView} (h : v.Sound) {b : Bay} (hs : v.state b ≠ .supplying)
    (hr : v.state b ≠ .releasing) : v.closed (.bay b) = false :=
  Bool.eq_false_iff.2 fun hc => ((h.fits b).feeds hc).elim hs hr

theorem releaseRequest_runs (b : Bay) (h : (pathView s).Runs r C L) : (pathView (releaseRequest b s).1).Runs r C L := by
  have released {st : BayState} (hst : (pathView s).state b = st) (hs : st ≠ .supplying) (hr : st ≠ .releasing) (hc : st ≠ .charging) :
      (pathView (goReleased b s)).Runs r C L :=
    goReleased_runs h (h.sound.open_of_state (b := b) (hst ▸ hs) (hst ▸ hr)) (hst ▸ hc)
  unfold releaseRequest
  split
  · exact h.congr (pathView_setPending ..)
  · split
    · exact h.congr (pathView_setPending ..)
    · split
      case isTrue hsource =>
        refine turnIntoRelease_runs h fun hc => ?_
        rw [Bool.and_eq_true, show (bayOf s b).state = .charging from hc] at hsource
        exact absurd hsource.2 (by simp [releasableSource])
      case isFalse =>
        split
        case h_1 => exact h
        case h_2 => exact h
        case h_3 hst => exact released hst (by simp) (by simp) (by simp)
        case h_4 hst => exact released hst (by simp) (by simp) (by simp)
        case h_5 hst => exact released hst (by simp) (by simp) (by simp)
        case h_6 hst => exact releaseCharging_runs h hst
        case h_7 hst => exact releaseSupplying_runs h hst
        case h_8 => exact h
        case h_9 => exact h

theorem evaluatePending_runs (b : Bay) (h : (pathView s).Runs r C L) : (pathView (evaluatePending b s)).Runs r C L := by
  unfold evaluatePending
  split
  · exact releaseRequest_runs b (h.congr (pathView_setPending ..))
  · exact h

theorem evaluatePendings_runs (h : (pathView s).Runs r C L) : (pathView (evaluatePendings s)).Runs r C L := by
  have ordered : (pathView (freeOrder s).2).Runs r C L := h
  unfold evaluatePendings
  extract_lets o
  split_ifs
  · exact evaluatePending_runs _ (evaluatePending_runs _ ordered)
  · exact evaluatePending_runs _ (evaluatePending_runs _ ordered)
  · exact evaluatePending_runs _ (evaluatePending_runs _ h)

/-! ### The grace (R40) -/

theorem graceTest_runs (h : (pathView s).Runs r C L) : (pathView (graceTest s)).Runs r C L := by
  unfold graceTest
  split
  case h_1 => exact h
  case h_2 f _ =>
    split
    · split
      · exact h.congr (by rw [pathView_setPending, pathView_clearForced])
      · exact h
    · split
      · split
        case isTrue hsource =>
          refine turnIntoRelease_runs h fun hc => ?_
          rw [show (bayOf s f.bay).state = .charging from hc] at hsource
          simp at hsource
        case isFalse => exact h
      case isFalse hnone =>
        split
        case isTrue hsup =>
          have ht : (pathView s).transfer = none := transfer_view_none.2 (Option.not_isSome_iff_eq_none.1 hnone)
          exact (seekRelease_runs h ht ((h.sound.fits _).supplies hsup)).1
        case isFalse => exact h

theorem graceTestFor_runs (b : Bay) (h : (pathView s).Runs r C L) : (pathView (graceTestFor b s)).Runs r C L := by
  unfold graceTestFor
  repeat' split
  · exact graceTest_runs h
  all_goals exact h

theorem graceLeft_runs (h : (pathView s).Runs r C L) : (pathView (graceLeft s)).Runs r C L := by
  unfold graceLeft
  repeat' split
  · exact h
  · exact releaseRequest_runs _ (h.congr (pathView_clearForced s))
  · exact h

theorem selectSource_runs (h : (pathView s).Runs r C L) : (pathView (selectSource s)).Runs r C L := graceLeft_runs (select_runs h)

theorem becameStandby_runs (b : Bay) (h : (pathView s).Runs r C L) : (pathView (becameStandby b s)).Runs r C L :=
  selectSource_runs (graceTestFor_runs b (h.congr (pathView_arbitrate s)))

/-! ### The end of a transfer -/

/-- A path that is settled but for its transfer's record runs on when that record is cleared. -/
theorem endTransfer_runs (completed : Bool) (h : (pathView s).Settled) (hr : (pathView s).rail = r)
    (hC : ∀ b, (pathView s).state b = .charging → C b) (hL : ∀ b, L b → (pathView s).closed (.bay b) = true) :
    (pathView (endTransfer completed s)).Runs r C L := by
  have hcleared : (pathView (setTransfer none s)).Runs r C L :=
    ⟨(h.setTransfer none).sound rfl, hr, hC, fun b hb => .inl ⟨rfl, hL b hb⟩⟩
  unfold endTransfer
  split
  case h_1 hnone =>
    refine hcleared.congr ?_
    have ht := transfer_view_none.2 hnone
    exact (PathView.ext rfl rfl rfl rfl ht)
  case h_2 t _ =>
    refine graceTest_runs ?_
    have hselected : (pathView (selectSource (arbitrate
        (raise (.transferDone t.source t.target t.method t.cause completed) (setTransfer none s))))).Runs r C L :=
      selectSource_runs (hcleared.congr (by rw [pathView_arbitrate, pathView_raise]))
    split
    · exact hselected
    · exact evaluatePendings_runs hselected

end

end Sys2Proof.Machine
end

section
/-! PROOFS. Losses, removals, the rail and the charger keep the power path's invariant (chapters 2 and 4). -/

namespace Sys2Proof.Machine

theorem PathView.Sound.runs {v : PathView} (h : v.Sound) : v.Runs v.rail (fun _ => True) (fun _ => False) :=
  ⟨h, rfl, fun _ _ => trivial, fun _ hb => hb.elim⟩

/-- A transfer is in flight only while the rail is ON. -/
theorem PathView.Sound.rail_of_transfer {v : PathView} (h : v.Sound) (ht : v.transfer ≠ none) : v.rail = true := by
  cases hr : v.rail with
  | true => rfl
  | false => exact absurd (h.dark hr).2 ht

theorem pathSound_congr {s t : State} (h : t.ppc = s.ppc) (hs : PathSound s) : PathSound t := by
  rw [pathSound_iff] at *
  rwa [pathView_congr h]

section
variable {s : State}

/-! ### A transfer completes (R27, R28, R32, R33) -/

/-- A source bay whose switch is open ends: released, at rest, or as it stood. -/
theorem sourceEnds_settled {x : Option Source} (h : (pathView s).Settled)
    (ho : ∀ b, x = some (.bay b) → (pathView s).closed (.bay b) = false) : (pathView (sourceEnds x s)).Settled := by
  unfold sourceEnds
  split
  case h_2 => exact h
  case h_1 b =>
    have hb := ho b rfl
    have rest {st : BayState} (hn : (pathView s).state b ≠ .charging) (hs : st ≠ .supplying) (hc : st ≠ .charging) :
        ((pathView s).setBay b st ((pathView s).charge b)).Settled :=
      h.setBay (PathView.allows_idle hb hs hc (Bool.eq_false_iff.2 fun hcc => hn ((h.fits b).charge.1 hcc)))
    obtain ⟨hsupply, hcharge⟩ := restState_idle s b
    split_ifs with hr hs
    · have hn : (pathView s).state b ≠ .charging := by
        rw [show (pathView s).state b = .releasing from hr]
        simp
      unfold goReleased
      split
      · rw [pathView_setPending, pathView_enterBay]
        exact rest hn hsupply hcharge
      · rw [pathView_raise, pathView_enterBay]
        exact rest hn (by simp) (by simp)
    · rw [pathView_enterBay]
      refine rest ?_ hsupply hcharge
      rw [show (pathView s).state b = .supplying from hs]
      simp
    · exact h

theorem completeBridge_sound {t : Transfer} (h : (pathView s).Sound) (ht : s.ppc.transfer = some t) (hp : t.phase = .bridge) :
    (pathView (completeBridge t s)).Sound := by
  have hview := transfer_view.2 ⟨t, ht, rfl, rfl, hp⟩
  have hopen := h.bridge _ _ hview
  have hfeeds (y : Source) : (pathView (feed y s)).Settled := by
    rw [pathView_feed]
    exact (h.settled_of_open hopen).feed hopen (h.rail_of_transfer (by rw [hview]; simp)) y
  have ended {u : State} (hu : (pathView u).Settled) : (pathView (endTransfer true u)).Sound :=
    (endTransfer_runs true (C := fun _ => True) (L := fun _ => False) hu rfl (fun _ _ => trivial) (fun _ hb => hb.elim)).sound
  unfold completeBridge
  split
  · rw [pathView_refuseRelease]
    exact ended (hfeeds _)
  · refine ended (sourceEnds_settled (hfeeds _) fun b hb => Bool.eq_false_iff.2 fun hc => ?_)
    rw [pathView_feed, PathView.closed_feed, hopen (.bay b)] at hc
    exact h.apart _ _ _ hview (hb.trans (congrArg some (hc.resolve_right (by simp))))

/-- The source's switch opens at the end of an OVERLAP, and the source ends: the target feeds alone. -/
theorem completeOverlap_sound {t : Transfer} (h : (pathView s).Sound) (ht : s.ppc.transfer = some t) (hp : t.phase = .overlap) :
    (pathView (completeOverlap t s)).Sound := by
  have hview := transfer_view.2 ⟨t, ht, rfl, rfl, hp⟩
  obtain ⟨b, hsource, hclosed⟩ := h.overlap _ _ hview
  have hb : (pathView s).closed (.bay b) = true := (hclosed _).2 (.inl rfl)
  have hcharge : (pathView s).charge b = false := Bool.eq_false_iff.2 fun hc =>
    h.not_charging (by rw [hview]; simp) b ((h.fits b).charge.1 hc)
  have hremoved {st : BayState} (hs : st ≠ .supplying) (hc : st ≠ .charging) : ((pathView s).remove b st).Settled :=
    h.remove_settled (fun x y hxy => .inl (by rw [hview] at hxy; simpa [hsource] using (congrArg Prod.fst (Option.some.inj hxy)).symm)) hs hc
  have hu : pathView (setSwitch (.bay b) false s) = (pathView s).drive (.bay b) false := pathView_setSwitch ..
  have entered (st : BayState) : pathView (enterBay b st (setSwitch (.bay b) false s)) = (pathView s).remove b st := by
    rw [pathView_enterBay, hu]
    exact congrArg _ hcharge
  refine (endTransfer_runs true (C := fun _ => True) (L := fun _ => False) ?_ rfl (fun _ _ => trivial) (fun _ hb => hb.elim)).sound
  rw [hsource]
  obtain ⟨hsupply, hrest⟩ := restState_idle (setSwitch (.bay b) false s) b
  have hstate : (bayOf (setSwitch (.bay b) false s) b).state = (pathView s).state b := congrArg (fun v => v.state b) hu
  simp only [sourceEnds, openSource, hstate]
  split_ifs with hr hs
  · unfold goReleased
    split
    · rw [pathView_setPending, entered]
      exact hremoved hsupply hrest
    · rw [pathView_raise, entered]
      exact hremoved (by simp) (by simp)
  · rw [entered]
    exact hremoved hsupply hrest
  · exact absurd ((h.fits b).feeds hb) (by simp [hr, hs])

/-! ### Losses (R29, R32) -/

/-- A bay taken out of CHARGING; the switches, the transfer and the other bay stay. -/
theorem stopCharging_loose {b : Bay} (h : (pathView s).Loose) :
    (pathView (stopCharging b s)).Loose ∧ (pathView (stopCharging b s)).closed = (pathView s).closed
      ∧ (pathView (stopCharging b s)).transfer = (pathView s).transfer ∧ (pathView (stopCharging b s)).rail = (pathView s).rail
      ∧ (pathView (stopCharging b s)).state b ≠ .charging
      ∧ ∀ c, (pathView (stopCharging b s)).state c ≠ (pathView s).state c → (pathView s).state c = .charging
        ∧ (pathView (stopCharging b s)).state c = .standby := by
  rw [pathView_stopCharging]
  split
  case isFalse hb => exact ⟨h, rfl, rfl, rfl, hb, fun c hc => absurd rfl hc⟩
  case isTrue hb =>
    have ho : (pathView s).closed (.bay b) = false :=
      Bool.eq_false_iff.2 fun hc => by rcases (h.fits b).feeds hc with hs | hs <;> simp [hs] at hb
    refine ⟨h.setBay (PathView.allows_idle ho (by simp) (by simp) rfl), rfl, rfl, rfl, by simp [PathView.setBay], fun c hc => ?_⟩
    by_cases hcb : c = b
    · subst hcb
      exact ⟨hb, by simp [PathView.setBay]⟩
    · exact absurd (by simp [PathView.setBay, hcb]) hc

/-- With both bays out of CHARGING the path is settled. -/
theorem stopAllCharging_settled (h : (pathView s).Loose) :
    (pathView (stopAllCharging s)).Settled ∧ (pathView (stopAllCharging s)).closed = (pathView s).closed
      ∧ (pathView (stopAllCharging s)).transfer = (pathView s).transfer
      ∧ (pathView (stopAllCharging s)).rail = (pathView s).rail
      ∧ (∀ b, (pathView (stopAllCharging s)).state b ≠ .charging)
      ∧ ∀ c, (pathView s).state c ≠ .charging → (pathView (stopAllCharging s)).state c = (pathView s).state c := by
  obtain ⟨hA, hclosedA, htransferA, hrailA, hnA, hsameA⟩ := stopCharging_loose (b := .A) h
  obtain ⟨hB, hclosedB, htransferB, hrailB, hnB, hsameB⟩ := stopCharging_loose (b := .B) hA
  have hn (b : Bay) : (pathView (stopAllCharging s)).state b ≠ .charging := by
    cases b with
    | A =>
      intro hc
      by_cases hs : (pathView (stopAllCharging s)).state .A = (pathView (stopCharging .A s)).state .A
      · exact hnA (hs ▸ hc)
      · exact absurd ((hsameB .A hs).2.symm.trans hc) (by simp)
    | B => exact hnB
  refine ⟨hB.settled hn, hclosedB.trans hclosedA, htransferB.trans htransferA, hrailB.trans hrailA, hn, fun c hc => ?_⟩
  have hfirst : (pathView (stopCharging .A s)).state c = (pathView s).state c := by
    by_contra hne
    exact hc (hsameA c hne).1
  refine Eq.trans ?_ hfirst
  by_contra hne
  exact hc (hfirst ▸ (hsameB c hne).1)

/-- A bay that charges does not, where none does. -/
theorem stopAllCharging_view (hn : ∀ b, (pathView s).state b ≠ .charging) : pathView (stopAllCharging s) = pathView s := by
  have hA : pathView (stopCharging .A s) = pathView s := by rw [pathView_stopCharging, if_neg (hn .A)]
  show pathView (stopCharging .B (stopCharging .A s)) = _
  rw [pathView_stopCharging, hA, if_neg (hn .B)]

theorem lowestBay_ok {ok : Bay → Bool} {b : Bay} (h : lowestBay s ok = some b) : ok b = true := by
  unfold lowestBay at h
  split at h
  case h_1 hA hB =>
    obtain rfl : lowerBay s = b := Option.some.inj h
    unfold lowerBay
    split <;> assumption
  case h_2 hA hB =>
    obtain rfl : Bay.A = b := Option.some.inj h
    exact hA
  case h_3 hA hB =>
    obtain rfl : Bay.B = b := Option.some.inj h
    exact hB
  case h_4 => exact nomatch h

/-- The target of a gap: DC only where it is present, a bay only where it can take the load. -/
theorem gapTarget_cases {y : Source} (h : gapTarget s = some y) :
    (y = .dc ∧ dcPresent s = true) ∨ ∃ b, y = .bay b ∧ eligible s b = true := by
  unfold gapTarget at h
  split_ifs at h with hdc
  · obtain rfl : Source.dc = y := Option.some.inj h
    exact .inl ⟨rfl, by simp_all⟩
  · obtain ⟨b, hb, rfl⟩ := Option.map_eq_some_iff.1 h
    exact .inr ⟨b, rfl, lowestBay_ok hb⟩

theorem not_eligible_of_empty {b : Bay} (h : (pathView s).state b = .empty) : eligible s b = false := by
  simp [eligible, show (bayOf s b).state = .empty from h]

@[simp] theorem stopAllCharging_dc (s : State) : (stopAllCharging s).ppc.dc = s.ppc.dc := by
  have one (b : Bay) (u : State) : (stopCharging b u).ppc.dc = u.ppc.dc := by
    unfold stopCharging
    split <;> simp [openCharge]
  exact (one .B _).trans (one .A s)

@[simp] theorem dropStaleWaiting_dc (s : State) : (dropStaleWaiting s).ppc.dc = s.ppc.dc := by
  unfold dropStaleWaiting
  repeat' split
  all_goals rfl

/-- A lost source is no target of the gap it leaves: DC is absent, or the bay EMPTY. -/
def Lost (x : Source) (s : State) : Prop :=
  match x with
  | .dc => dcPresent s = false
  | .bay b => (pathView s).state b = .empty

theorem gapTarget_ne_lost {x y : Source} (hx : Lost x s) (hy : gapTarget (dropStaleWaiting (stopAllCharging s)) = some y)
    (h : (pathView s).Loose) : some x ≠ some y := by
  intro hxy
  obtain rfl := Option.some.inj hxy
  rcases gapTarget_cases hy with ⟨rfl, hdc⟩ | ⟨b, rfl, hb⟩
  · have hsame : dcPresent (dropStaleWaiting (stopAllCharging s)) = dcPresent s := by simp [dcPresent]
    exact absurd (hsame.symm.trans hdc) (by simpa [Lost] using hx)
  · obtain ⟨-, -, -, -, -, hkept⟩ := stopAllCharging_settled h
    have hempty : (pathView s).state b = .empty := hx
    have hstill : (pathView (dropStaleWaiting (stopAllCharging s))).state b = .empty := by
      rw [pathView_dropStaleWaiting, hkept b (by simp [hempty]), hempty]
    exact absurd hb (by simp [not_eligible_of_empty hstill])

theorem unplannedTransfer_sound {x : Source} (c : Cause) (h : (pathView s).Loose) (ht : (pathView s).transfer = none)
    (hx : Lost x s) : (pathView (unplannedTransfer x c s)).Sound := by
  obtain ⟨hsettled, -, htransfer, -⟩ := stopAllCharging_settled h
  have hview := pathView_dropStaleWaiting (stopAllCharging s)
  have hsound : (pathView (dropStaleWaiting (stopAllCharging s))).Sound := by
    rw [hview]
    exact hsettled.sound (htransfer.trans ht)
  simp only [unplannedTransfer]
  split
  case isTrue => exact (selectSource_runs hsound.runs).sound
  case isFalse hbridging =>
    simp only [Bool.or_eq_true, Bool.not_eq_true', not_or, Bool.not_eq_true, Bool.not_eq_false] at hbridging
    obtain ⟨hfeeding, hrail⟩ := hbridging
    have hopen := (anyFeeding_iff _).1 hfeeding
    split
    case h_1 y hy => exact (hsound.settled_of_open hopen).startGap hopen hrail (gapTarget_ne_lost hx hy h)
    case h_2 =>
      rw [pathView_raise]
      exact hsound

/-- A release sought again from a bay that carries the load (R32). -/
theorem releaseAgain_sound {r : Bool} {C L : Bay → Prop} {b : Bay} (h : (pathView s).Runs r C L) (hC : ¬ C b) (hL : L b) :
    (pathView (releaseAgain b s)).Sound := by
  have hn : (pathView s).state b ≠ .charging := fun hc => hC (h.charging b hc)
  obtain ⟨hsupply, hcharge⟩ := restState_idle s b
  unfold releaseAgain
  split
  · rw [pathView_setPending, pathView_enterBay]
    cases hd : (bayOf s b).discharge with
    | true => exact (h.supplying hd).sound
    | false => exact (h.rest hd hn hsupply hcharge).sound
  · split
    · exact (turnIntoRelease_runs h hn).sound
    case isFalse hnot =>
      have hload : (pathView s).transfer = none ∧ (pathView s).closed (.bay b) = true := by
        refine (h.load b hL).resolve_right ?_
        rintro ⟨y, m, hym⟩
        obtain ⟨t, ht, hsource, -, -⟩ := transfer_view.1 hym
        exact hnot (by simp [isTransferSource, ht, hsource])
      obtain ⟨ht, hb⟩ := hload
      obtain ⟨hruns, hsame⟩ := seekRelease_runs h ht hb
      have back (reason : RefusalReason) : (pathView (refuseRelease b reason (enterBay b .supplying s))).Sound := by
        rw [pathView_refuseRelease, pathView_enterBay]
        exact (h.supplying hb).sound
      split <;> rename_i u heq <;> rw [heq] at hruns hsame
      · exact hruns.sound
      · obtain rfl : u = s := hsame (by simp)
        exact back _
      · obtain rfl : u = s := hsame (by simp)
        exact back _

/-- A transfer has lost its target, whose switch is open: its source alone feeds in an OVERLAP, nothing in a BRIDGE. -/
theorem targetLost_sound (c : Cause) (h : (pathView s).Settled) (hr : (pathView s).transfer ≠ none → (pathView s).rail = true)
    (hbridge : ∀ x y, (pathView s).transfer = some (x, y, .bridge) → (pathView s).Open)
    (hoverlap : ∀ b y, (pathView s).transfer = some (some (.bay b), y, .overlap) → (pathView s).closed (.bay b) = true) :
    (pathView (targetLost c s)).Sound := by
  unfold targetLost
  split
  case h_1 hnone => exact h.sound (transfer_view_none.2 hnone)
  case h_2 t ht =>
    have hview {m : Method} (hm : t.phase = m) : (pathView s).transfer = some (t.source, t.target, m) :=
      transfer_view.2 ⟨t, ht, rfl, rfl, hm⟩
    have hrail := hr (by rw [hview rfl]; simp)
    have aborted {u : State} (hu : (pathView u).Settled) : (pathView (endTransfer false u)).Sound :=
      (endTransfer_runs false (C := fun _ => True) (L := fun _ => False) hu rfl (fun _ _ => trivial) (fun _ hb => hb.elim)).sound
    simp only
    split
    case h_1 hphase =>
      split
      case h_2 => exact aborted h
      case h_1 b _ hsource =>
        have hb := hoverlap b t.target (by rw [hview hphase, hsource])
        refine releaseAgain_sound (C := (· ≠ b)) (L := (· = b))
          (endTransfer_runs false h rfl (fun d hd hdb => ?_) fun d hd => hd ▸ hb) (by simp) rfl
        subst hdb
        rcases (h.fits d).feeds hb with hs | hs <;> simp [hs] at hd
    case h_2 hphase =>
      have hopen := hbridge _ _ (hview hphase)
      have hsame : pathView (dropStaleWaiting (stopAllCharging s)) = pathView s := by
        rw [pathView_dropStaleWaiting, stopAllCharging_view (PathView.not_charging_of_open h.alone hopen)]
      have retargeted (y : Source) (u : State) (hu : pathView u = pathView s) : (pathView (retarget t y c u)).Sound := by
        show ((pathView u).setTransfer (some ((if t.source = some y then none else t.source), y, .bridge))).Sound
        rw [hu]
        refine h.startGap hopen hrail ?_
        split
        · simp
        · assumption
      split
      · exact retargeted _ _ hsame
      · exact retargeted _ _ hsame
      · rw [pathView_raise]
        exact aborted (hsame ▸ h)

/-! ### The rail goes OFF (R31) -/

/-- As the rail goes OFF: no switch is closed, and the charge switches still agree with the states. -/
structure PathView.Darkened (v : PathView) : Prop where
  rail : v.rail = false
  opened : v.Open
  charge : ∀ b, v.charge b = true ↔ v.state b = .charging

/-- A bay neither feeds nor charges. -/
def PathView.DownAt (v : PathView) (b : Bay) : Prop := v.state b ≠ .supplying ∧ v.state b ≠ .charging

theorem PathView.Darkened.setBay {v : PathView} (h : v.Darkened) {b : Bay} {st : BayState} {c : Bool} (hc : c = true ↔ st = .charging) :
    (v.setBay b st c).Darkened := by
  refine ⟨h.rail, h.opened, fun x => ?_⟩
  by_cases hx : x = b
  · subst hx
    simpa [PathView.setBay] using hc
  · simpa [PathView.setBay, hx] using h.charge x

theorem PathView.DownAt.setBay {v : PathView} {x : Bay} (h : v.DownAt x) {b : Bay} {st : BayState} {c : Bool}
    (hs : st ≠ .supplying) (hc : st ≠ .charging) : (v.setBay b st c).DownAt x := by
  by_cases hx : x = b
  · subst hx
    exact ⟨by simpa [PathView.setBay] using hs, by simpa [PathView.setBay] using hc⟩
  · exact ⟨by simpa [PathView.setBay, hx] using h.1, by simpa [PathView.setBay, hx] using h.2⟩

theorem PathView.downAt_setBay (v : PathView) (b : Bay) {st : BayState} (c : Bool) (hs : st ≠ .supplying) (hc : st ≠ .charging) :
    (v.setBay b st c).DownAt b := ⟨by simpa [PathView.setBay] using hs, by simpa [PathView.setBay] using hc⟩

theorem PathView.Darkened.settled {v : PathView} (h : v.Darkened) (hd : ∀ b, v.DownAt b) : v.Settled where
  fits b := ⟨h.charge b, fun hc => absurd hc (by simp [h.opened (.bay b)]), fun hs => absurd hs (hd b).1⟩
  dark _ := h.opened
  one x _ hx := absurd hx (by simp [h.opened x])
  alone b hb := absurd hb (hd b).2

/-- A bay set down is down, and a bay that was down stays so. -/
theorem setDown_down (b : Bay) (h : (pathView s).Darkened) :
    (pathView (setDown b s)).Darkened ∧ (pathView (setDown b s)).DownAt b
      ∧ ∀ x, (pathView s).DownAt x → (pathView (setDown b s)).DownAt x := by
  obtain ⟨hsupply, hcharge⟩ := restState_idle s b
  unfold setDown
  split
  case isTrue hs =>
    have hopen : (pathView s).charge b ≠ true := fun hc => by
      have hstate := (h.charge b).1 hc
      rw [show (pathView s).state b = .supplying from hs] at hstate
      simp at hstate
    rw [pathView_enterBay]
    exact ⟨h.setBay (by simp [hopen, hcharge]), PathView.downAt_setBay _ _ _ hsupply hcharge, fun x hx => hx.setBay hsupply hcharge⟩
  case isFalse hs =>
    rw [pathView_stopCharging]
    split
    · exact ⟨h.setBay (by simp), PathView.downAt_setBay _ _ _ (by simp) (by simp), fun x hx => hx.setBay (by simp) (by simp)⟩
    case isFalse hc => exact ⟨h, ⟨hs, hc⟩, fun x hx => hx⟩

theorem releaseReleasing_down (b : Bay) (h : (pathView s).Darkened) (hd : ∀ x, (pathView s).DownAt x) :
    (pathView (releaseReleasing b s)).Darkened ∧ ∀ x, (pathView (releaseReleasing b s)).DownAt x := by
  obtain ⟨hsupply, hcharge⟩ := restState_idle s b
  have hopen : (pathView s).charge b ≠ true := fun hc => (hd b).2 ((h.charge b).1 hc)
  unfold releaseReleasing goReleased
  split_ifs
  · rw [pathView_setPending, pathView_enterBay]
    exact ⟨h.setBay (by simp [hopen, hcharge]), fun x => (hd x).setBay hsupply hcharge⟩
  · rw [pathView_raise, pathView_enterBay]
    exact ⟨h.setBay (by simp [hopen]), fun x => (hd x).setBay (by simp) (by simp)⟩
  · exact ⟨h, hd⟩

/-- Every switch open, the rail OFF: the states and charge switches stay. -/
theorem railOff_view (r : OffReason) (s : State) :
    pathView (pathChanged s (updPpc (fun p => { p with railOn := false, offReason := r, waiting := none }) (openAllSwitches s))) =
      { pathView s with rail := false, closed := fun _ => false } := by
  rw [pathView_pathChanged]
  ext x
  · rfl
  · cases x with
    | dc => rfl
    | bay b => cases b <;> rfl
  · cases ‹Bay› <;> rfl
  · cases ‹Bay› <;> rfl
  · rfl

/-- The rail goes OFF: no bay feeds or charges, and no transfer is in flight. -/
theorem railOff_runs (reason : OffReason) (h : (pathView s).Sound) :
    (pathView (railOff reason s)).Runs false (fun _ => False) (fun _ => False) := by
  have hoff : (pathView (deliver (.blcRailChange false) (pathChanged s
      (updPpc (fun p => { p with railOn := false, offReason := reason, waiting := none }) (openAllSwitches s))))).Darkened := by
    refine (congrArg PathView.Darkened (railOff_view reason s)).mpr ?_
    exact ⟨rfl, fun _ => rfl, fun b => (h.fits b).charge⟩
  obtain ⟨hA, hdownA, -⟩ := setDown_down .A hoff
  obtain ⟨hB, hdownB, hkept⟩ := setDown_down .B hA
  obtain ⟨hC, hdownC⟩ := releaseReleasing_down .A hB fun x => by
    cases x with
    | A => exact hkept .A hdownA
    | B => exact hdownB
  obtain ⟨hD, hdownD⟩ := releaseReleasing_down .B hC hdownC
  refine PathView.Runs.congr ?_ (pathView_arbitrate _)
  exact endTransfer_runs false (hD.settled hdownD) hD.rail (fun b hb => (hdownD b).2 hb) (fun _ hb => hb.elim)

theorem railOffReleasing_sound (reason : OffReason) (h : (pathView s).Sound) : (pathView (railOffReleasing reason s)).Sound := by
  unfold railOffReleasing
  split
  case h_1 f _ =>
    have hoff := railOff_runs reason (s := clearForced s) (by rwa [pathView_clearForced])
    exact (goReleased_runs hoff ((hoff.sound.dark hoff.rail).1 _) fun hc => hoff.charging _ hc).sound
  case h_2 => exact (railOff_runs reason h).sound

theorem bridgeExpired_sound (h : (pathView s).Sound) : (pathView (bridgeExpired s)).Sound := by
  unfold bridgeExpired
  split
  · exact (graceLeft_runs (railOff_runs _ h)).sound
  · exact h

/-! ### Presence lost (R22) -/

/-- A locked bay's pack is gone: its switches are open and the bay is EMPTY. -/
theorem removed_view (b : Bay) (old : BayState) (s : State) :
    pathView (sessionStopped b none (clearForcedOf b (raise (.forcedRemoval b old)
      (enterBay b .empty (setSwitch (.bay b) false (updBay b (fun r => { r with charge := false }) s)))))) =
      (pathView s).remove b .empty := by
  rw [pathView_sessionStopped, pathView_clearForcedOf, pathView_raise, pathView_enterBay, pathView_setSwitch, pathView_updBay rfl]
  ext x
  · rfl
  · rfl
  · by_cases hx : ‹Bay› = b <;> simp [PathView.remove, PathView.setBay, PathView.drive, hx]
  · by_cases hx : ‹Bay› = b <;> simp [PathView.remove, PathView.setBay, PathView.drive, hx]
  · rfl

theorem PathView.Open.remove {v : PathView} (h : v.Open) (d : Bay) (st : BayState) : (v.remove d st).Open := fun x =>
  Bool.eq_false_iff.2 fun hx => by simpa [h x] using ((PathView.closed_remove ..).1 hx).2

/-- The target of the transfer in flight is gone: its switch is open and the bay in another state (R32). -/
theorem targetRemoved_sound {b : Bay} {u : State} {t : Transfer} (c : Cause) (h : (pathView s).Sound) (ht : s.ppc.transfer = some t)
    (hb : t.target = .bay b) (hu : pathView u = (pathView s).remove b .empty) : (pathView (targetLost c u)).Sound := by
  have hview : (pathView s).transfer = some (t.source, .bay b, t.phase) := transfer_view.2 ⟨t, ht, rfl, hb, rfl⟩
  have hsame : (pathView u).transfer = (pathView s).transfer := by rw [hu]; rfl
  have hrail : (pathView u).rail = (pathView s).rail := by rw [hu]; rfl
  refine targetLost_sound c (hu ▸ h.remove_settled (fun x y hxy => .inr ?_) (by simp) (by simp)) (fun _ => ?_) (fun x y hxy => ?_)
    fun d y hdy => ?_
  · rw [hview] at hxy
    simp_all
  · rw [hrail]
    exact h.rail_of_transfer (by simp [hview])
  · rw [hu]
    exact PathView.Open.remove (h.bridge x y (hsame ▸ hxy)) b _
  · rw [hsame] at hdy
    obtain ⟨c, hc, hclosed⟩ := h.overlap _ _ hdy
    obtain rfl : y = .bay b := by simp_all
    rw [hu]
    refine (PathView.closed_remove ..).2 ⟨fun hsource => h.apart _ _ _ hdy (congrArg some hsource), (hclosed _).2 (.inl ?_)⟩
    simpa using hc

theorem transfer_of_isTransferTarget {b : Bay} (h : isTransferTarget s b = true) :
    ∃ t, s.ppc.transfer = some t ∧ t.target = .bay b := by
  unfold isTransferTarget at h
  split at h
  case h_1 t ht => exact ⟨t, ht, by simpa using h⟩
  case h_2 => simp at h

theorem transfer_of_isTransferSource {b : Bay} (h : isTransferSource s b = true) :
    ∃ t, s.ppc.transfer = some t ∧ t.source = some (.bay b) := by
  unfold isTransferSource at h
  split at h
  case h_1 t ht => exact ⟨t, ht, by simpa using h⟩
  case h_2 => simp at h

theorem forcedRemoval_sound (b : Bay) (h : (pathView s).Sound) : (pathView (forcedRemoval b s)).Sound := by
  have hview := removed_view b (bayOf s b).state s
  simp only [forcedRemoval]
  generalize hu : sessionStopped b none (clearForcedOf b (raise (.forcedRemoval b (bayOf s b).state)
    (enterBay b .empty (setSwitch (.bay b) false (updBay b (fun r => { r with charge := false }) s))))) = u at hview
  have hsame : (pathView u).transfer = (pathView s).transfer := by rw [hview]; rfl
  have hpart (htarget : isTransferTarget s b ≠ true) (hsource : isTransferSource s b ≠ true) (hd : (pathView s).closed (.bay b) = true) :
      (pathView s).transfer = none := by
    by_contra hne
    obtain ⟨⟨x, y, m⟩, hxy⟩ := Option.ne_none_iff_exists'.1 hne
    obtain ⟨t, ht, rfl, rfl, rfl⟩ := transfer_view.1 hxy
    cases hm : t.phase with
    | bridge => exact absurd hd (by simp [h.bridge _ _ (hm ▸ hxy) (.bay b)])
    | overlap =>
      obtain ⟨c, hc, hclosed⟩ := h.overlap _ _ (hm ▸ hxy)
      rcases (hclosed _).1 hd with hb | hb
      · exact hsource (by simp [isTransferSource, ht, hc, hb])
      · exact htarget (by simp [isTransferTarget, ht, hb])
  split_ifs with htarget hsource hd
  · obtain ⟨t, ht, hb⟩ := transfer_of_isTransferTarget htarget
    exact targetRemoved_sound _ h ht hb hview
  · obtain ⟨t, ht, hb⟩ := transfer_of_isTransferSource hsource
    have htview : (pathView s).transfer = some (some (.bay b), t.target, t.phase) := transfer_view.2 ⟨t, ht, hb, rfl, rfl⟩
    split
    case h_2 hnone => exact absurd (transfer_view_none.2 hnone) (by simp [hsame, htview])
    case h_1 t' ht' =>
      have hphase : t'.phase = t.phase := by
        have hview' := transfer_view.2 ⟨t', ht', rfl, rfl, rfl⟩
        rw [hsame, htview] at hview'
        simp_all
      split
      case isTrue hover =>
        refine (endTransfer_runs true (C := fun _ => True) (L := fun _ => False) ?_ rfl (fun _ _ => trivial) fun _ hb => hb.elim).sound
        rw [hview]
        refine h.remove_settled (fun x y hxy => .inl ?_) (by simp) (by simp)
        rw [htview] at hxy
        simp_all
      case isFalse hover =>
        have hbridge : t.phase = .bridge := by cases hp : t.phase <;> simp_all
        rw [hview]
        exact h.remove (h.bridge _ _ (hbridge ▸ htview) _) (by simp) (by simp)
  · have ht := hpart htarget hsource hd
    refine unplannedTransfer_sound _ ?_ (hsame.trans ht) ?_
    · rw [hview]
      exact (h.remove_settled (fun x y hxy => by simp [ht] at hxy) (by simp) (by simp)).toLoose
    · show (pathView u).state b = .empty
      rw [hview]
      simp [PathView.remove, PathView.setBay]
  · rw [hview]
    exact h.remove (Bool.eq_false_iff.2 hd) (by simp) (by simp)

end

end Sys2Proof.Machine
end

section
/-! PROOFS. Every step keeps the power path's invariant: the events of bays and sources, the rail, the charger and the bus (O59). -/

namespace Sys2Proof.Machine

/-- A state in which a bay neither feeds, charges nor is being released. -/
def BayState.idle : BayState → Bool
  | .supplying => false
  | .charging => false
  | .releasing => false
  | _ => true

theorem BayState.idle_ne {st : BayState} (h : st.idle = true) : st ≠ .supplying ∧ st ≠ .charging ∧ st ≠ .releasing := by
  cases st <;> simp_all [BayState.idle]

theorem restState_isIdle (s : State) (b : Bay) : (restState s b).idle = true := by
  unfold restState
  split <;> rfl

/-- The invariant rests on the view alone. -/
theorem PathView.Sound.congr {s t : State} (h : (pathView s).Sound) (hv : pathView t = pathView s) : (pathView t).Sound := hv ▸ h

@[simp] theorem pathView_raiseIf (c : Bool) (n : Notice) (s : State) : pathView (raiseIf c n s) = pathView s := by
  unfold raiseIf
  split
  · exact pathView_raise n s
  · rfl

section
variable {s : State}

/-! ### A bay's insertion, removal and release (R18, R22, R34 to R41) -/

theorem switches_of_idle {b : Bay} (h : (pathView s).Sound) (hb : (bayOf s b).state.idle = true) :
    (pathView s).closed (.bay b) = false ∧ (pathView s).charge b = false := by
  obtain ⟨hsupply, hcharge, hrelease⟩ := BayState.idle_ne hb
  exact ⟨h.open_of_state hsupply hrelease, Bool.eq_false_iff.2 fun hc => hcharge ((h.fits b).charge.1 hc)⟩

theorem enterIdle_sound {b : Bay} {st : BayState} (h : (pathView s).Sound) (hb : (bayOf s b).state.idle = true) (hst : st.idle = true) :
    (pathView (enterBay b st s)).Sound := by
  obtain ⟨hopen, hcharge⟩ := switches_of_idle h hb
  obtain ⟨hs, hc, -⟩ := BayState.idle_ne hst
  rw [pathView_enterBay]
  exact h.setBay (PathView.allows_idle hopen hs hc hcharge)

theorem presRose_sound (b : Bay) (h : (pathView s).Sound) : (pathView (presRose b s)).Sound := by
  unfold presRose
  split
  case isFalse => exact h
  case isTrue hb =>
    have seated := (enterIdle_sound (b := b) (st := .seating) h (by rw [hb]; rfl) rfl).congr (pathView_raise (.bayInserted b) _)
    simp only
    split
    · refine enterIdle_sound seated ?_ rfl
      have hview : (pathView (raise (.bayInserted b) (enterBay b .seating s))).state b = .seating := by
        simp [PathView.setBay]
      rw [show (bayOf (raise (.bayInserted b) (enterBay b .seating s)) b).state = .seating from hview]
      rfl
    · exact seated

theorem returnToStandby_sound {b : Bay} (h : (pathView s).Sound) (hb : (bayOf s b).state.idle = true) :
    (pathView (returnToStandby b s)).Sound := (becameStandby_runs b (enterIdle_sound h hb rfl).runs).sound

theorem latchRose_sound (b : Bay) (h : (pathView s).Sound) : (pathView (latchRose b s)).Sound := by
  unfold latchRose
  split
  case h_1 hb => exact enterIdle_sound h (by rw [hb]; rfl) rfl
  case h_2 hb =>
    split
    · exact h
    · exact returnToStandby_sound h (by rw [hb]; rfl)
  case h_3 => exact h

theorem latchFell_sound (b : Bay) (h : (pathView s).Sound) : (pathView (latchFell b s)).Sound := by
  unfold latchFell
  split_ifs with hlocked hb
  · exact (releaseRequest_runs b (h.congr (pathView_raise (.latchForced b) s)).runs).sound
  · exact enterIdle_sound h (by rw [hb]; rfl) rfl
  · exact h

theorem plainRemoval_sound {b : Bay} (h : (pathView s).Sound) (hb : (bayOf s b).state.idle = true) :
    (pathView (plainRemoval b s)).Sound := by
  obtain ⟨hopen, hcharge⟩ := switches_of_idle h hb
  have hview : pathView (raise (.bayRemoved b) (enterBay b .empty s)) = (pathView s).remove b .empty := by
    have hdrive : (pathView s).drive (.bay b) false = pathView s := hopen ▸ PathView.drive_self _ _
    rw [pathView_raise, pathView_enterBay, PathView.remove, hdrive, hcharge]
  unfold plainRemoval
  simp only
  split
  case isTrue htarget =>
    obtain ⟨t, ht, hb⟩ := transfer_of_isTransferTarget htarget
    exact targetRemoved_sound _ h ht hb hview
  case isFalse =>
    rw [hview]
    exact h.remove hopen (by simp) (by simp)

theorem presFell_sound (b : Bay) (h : (pathView s).Sound) : (pathView (presFell b s)).Sound := by
  unfold presFell
  split
  case h_1 => exact h
  case h_2 hb => exact enterIdle_sound h (by rw [hb]; rfl) rfl
  case h_3 hb => exact enterIdle_sound h (by rw [hb]; rfl) rfl
  case h_4 hb => exact plainRemoval_sound h (by rw [hb]; rfl)
  case h_5 hb => exact plainRemoval_sound h (by rw [hb]; rfl)
  all_goals exact forcedRemoval_sound b h

theorem relRose_sound (b : Bay) (h : (pathView s).Sound) : (pathView (relRose b s)).Sound := by
  unfold relRose runHoldTimer
  split
  · exact (releaseRequest_runs b h.runs).sound.congr (pathView_updBay_same rfl rfl rfl)
  · exact (releaseRequest_runs b h.runs).sound

theorem pathView_endRefusal (b : Bay) (s : State) : pathView (endRefusal b s) = pathView s := pathView_updBay_same rfl rfl rfl

theorem holdExpired_sound (b : Bay) (h : (pathView s).Sound) : (pathView (holdExpired b s)).Sound := by
  unfold holdExpired
  split
  case h_1 => exact h
  case h_2 e _ =>
    have timed := h.congr (pathView_updBay_same (b := b) (f := fun r => { r with holdTimer := some (max e (ms (paramN s 15))) }) rfl rfl rfl)
    simp only
    split
    · refine timed.congr ((pathView_congr rfl).trans ((pathView_raise _ _).trans ?_))
      exact pathView_updPpc rfl rfl rfl rfl
    · exact timed

theorem graceExpired_sound (h : (pathView s).Sound) : (pathView (graceExpired s)).Sound := by
  unfold graceExpired
  split
  · exact railOffReleasing_sound _ h
  · exact h

theorem relock_sound {b : Bay} (h : (pathView s).Sound) (hb : (bayOf s b).state.idle = true) : (pathView (relock b s)).Sound := by
  have locked := (enterIdle_sound h hb (restState_isIdle s b)).congr (pathView_raise (.releaseLapsed b) _)
  unfold relock
  simp only
  split_ifs
  · exact (becameStandby_runs b locked.runs).sound
  · exact locked
  · exact (enterIdle_sound h hb rfl).congr (pathView_raise ..)

theorem lapseExpired_sound (b : Bay) (h : (pathView s).Sound) : (pathView (lapseExpired b s)).Sound := by
  unfold lapseExpired
  split_ifs with hreleased
  · exact h.congr (pathView_updBay_same rfl rfl rfl)
  · exact h.congr (pathView_updBay_same rfl rfl rfl)
  · exact relock_sound h (by rw [hreleased.1]; rfl)
  · exact h

/-! ### The shock hold (R38) -/

theorem pathView_holdRefusal (b : Bay) (s : State) : pathView (holdRefusal b s) = pathView s := by
  unfold holdRefusal
  simp only
  split_ifs
  · rw [pathView_setPending, pathView_endRefusal]
  · exact pathView_endRefusal b s
  · rfl

theorem holdStarted_sound (h : (pathView s).Sound) : (pathView (holdStarted s)).Sound := by
  refine h.congr ?_
  unfold holdStarted
  rw [pathView_holdRefusal, pathView_holdRefusal]
  exact pathView_updPpc rfl rfl rfl rfl

theorem holdEnded_sound (h : (pathView s).Sound) : (pathView (holdEnded s)).Sound :=
  (evaluatePendings_runs (h.congr (pathView_updPpc (f := fun p => { p with hold := false }) rfl rfl rfl rfl)).runs).sound

/-! ### Identification and telemetry (R19 to R21) -/

theorem faultBay_sound {b : Bay} (reason : FaultReason) (h : (pathView s).Sound) (hb : (bayOf s b).state.idle = true) :
    (pathView (faultBay b reason s)).Sound := (enterIdle_sound h hb rfl).congr (pathView_raise ..)

theorem pathView_adoptPack (b : Bay) (id : Identity) (t : Telemetry) (s : State) : pathView (adoptPack b id t s) = pathView s :=
  (pathView_updBay_same rfl rfl rfl).trans (pathView_congr rfl)

theorem identificationEnded_sound (b : Bay) (o : IdOutcome) (h : (pathView s).Sound) :
    (pathView (identificationEnded b o s)).Sound := by
  unfold identificationEnded
  split
  case isFalse => exact h
  case isTrue hb =>
    have hidle : (bayOf s b).state.idle = true := by rw [hb]; rfl
    split
    case h_1 => exact faultBay_sound _ h hidle
    case h_2 id t =>
      split
      · exact faultBay_sound _ h hidle
      · have hview := pathView_adoptPack b id t s
        have packed := h.congr hview
        have hstill : (bayOf (adoptPack b id t s) b).state.idle = true :=
          (congrArg BayState.idle (congrArg (fun v => v.state b) hview)).trans hidle
        unfold identified
        simp only
        split
        · refine (graceTestFor_runs b (faultBay_sound _ (packed.congr (pathView_raise _ _)) ?_).runs).sound
          exact (congrArg BayState.idle (congrArg (fun v => v.state b) (pathView_raise _ (adoptPack b id t s)))).trans hstill
        · exact (becameStandby_runs b ((enterIdle_sound packed hstill rfl).congr (pathView_raise ..)).runs).sound

theorem alarmSet_sound (b : Bay) (h : (pathView s).Sound) : (pathView (alarmSet b s)).Sound := by
  unfold alarmSet
  split
  case h_1 hb => exact faultBay_sound _ h (by rw [hb]; rfl)
  case h_2 hb =>
    refine PathView.Sound.congr ?_ (pathView_raise ..)
    rw [pathView_sessionStopped, pathView_openCharge]
    exact (h.runs.openCharge hb (by simp) (by simp)).sound
  case h_3 => exact h

theorem alarmCleared_sound (b : Bay) (h : (pathView s).Sound) : (pathView (alarmCleared b s)).Sound := by
  unfold alarmCleared
  split
  case h_1 hb =>
    split
    · exact returnToStandby_sound h (by rw [hb]; rfl)
    · exact h
  case h_2 => exact h.congr (pathView_dropStaleWaiting s)
  case h_3 => exact h

theorem takeAlarms_sound (b : Bay) (t : Telemetry) (h : (pathView s).Sound) : (pathView (takeAlarms b t s)).Sound := by
  have hfields (r : BayRecord) : (alarmsAfter r t).discharge = r.discharge ∧ (alarmsAfter r t).state = r.state
      ∧ (alarmsAfter r t).charge = r.charge := by
    unfold alarmsAfter
    split <;> exact ⟨rfl, rfl, rfl⟩
  have stored := h.congr (pathView_updBay_same (b := b) (f := fun r => alarmsAfter { r with telemetry := some t } t)
    (hfields _).1 (hfields _).2.1 (hfields _).2.2)
  have raised (c : Bool) (n : Notice) := stored.congr (pathView_raiseIf c n _)
  simp only [takeAlarms]
  split_ifs
  · exact alarmSet_sound b (raised _ _)
  · exact alarmCleared_sound b (raised _ _)
  · exact raised _ _

theorem pathTelemetry_sound (b : Bay) (t : Telemetry) (h : (pathView s).Sound) : (pathView (pathTelemetry b t s)).Sound := by
  have taken := takeAlarms_sound b t h
  unfold pathTelemetry
  split
  case h_4 =>
    refine (graceTestFor_runs b (PathView.Sound.runs ?_)).sound
    split
    · exact (selectSource_runs taken.runs).sound
    · exact taken
  all_goals exact h

/-! ### Source readings (R12, R14) -/

theorem reserveReady_sound (h : (pathView s).Sound) : (pathView (reserveReady s)).Sound := by
  refine (graceTest_runs (PathView.Sound.runs ?_)).sound
  split
  · exact (selectSource_runs h.runs).sound
  · exact h

theorem PathView.closed_drive_false (v : PathView) (x z : Source) : (v.drive x false).closed z = true ↔ z ≠ x ∧ v.closed z = true := by
  by_cases hz : z = x <;> simp [PathView.drive, hz]

/-- DC's switch opens: at most one source feeds, unless an OVERLAP between the bays is in flight. -/
theorem PathView.Sound.dropDc {v : PathView} (h : v.Sound) (hpart : ∀ x y, v.transfer = some (x, y, .overlap) → y = .dc) :
    (v.drive .dc false).Loose where
  fits b := ⟨(h.fits b).charge, fun hc => (h.fits b).feeds ((closed_drive_false ..).1 hc).2,
    fun hs => (closed_drive_false ..).2 ⟨by simp, (h.fits b).supplies hs⟩⟩
  dark hr x := Bool.eq_false_iff.2 fun hx => by simpa [(h.dark hr).1 x] using ((closed_drive_false ..).1 hx).2
  one x z hx hz := by
    obtain ⟨hxd, hxc⟩ := (closed_drive_false ..).1 hx
    obtain ⟨hzd, hzc⟩ := (closed_drive_false ..).1 hz
    rcases ht : v.transfer with _ | ⟨a, y, m⟩
    · exact h.one ht x z hxc hzc
    · cases m with
      | bridge => exact absurd hxc (by simp [h.bridge a y ht x])
      | overlap =>
        obtain ⟨b, -, hclosed⟩ := h.overlap a y ht
        obtain rfl := hpart a y ht
        rw [((hclosed x).1 hxc).resolve_right hxd, ((hclosed z).1 hzc).resolve_right hzd]

theorem setSwitch_dcPresent (c : Bool) (s : State) : dcPresent (setSwitch .dc c s) = dcPresent s := by
  simp [dcPresent, setSwitch, pathChanged, driveSwitch, updPpc]

/-- DC's switch opens as the transfer towards DC loses it (R32). -/
theorem dcTargetLost_sound {t : Transfer} (c : Cause) (h : (pathView s).Sound) (ht : s.ppc.transfer = some t) (hdc : t.target = .dc) :
    (pathView (targetLost c (stopAllCharging (setSwitch .dc false s)))).Sound := by
  have hview : (pathView s).transfer = some (t.source, .dc, t.phase) := transfer_view.2 ⟨t, ht, rfl, hdc, rfl⟩
  have hn := h.not_charging (by rw [hview]; simp)
  have hdropped : pathView (stopAllCharging (setSwitch .dc false s)) = (pathView s).drive .dc false := by
    rw [stopAllCharging_view, pathView_setSwitch]
    rw [pathView_setSwitch]
    exact hn
  have hloose : ((pathView s).drive .dc false).Loose := h.dropDc fun x y hxy => by
    rw [hview] at hxy
    simp_all
  have hsame : ((pathView s).drive .dc false).transfer = (pathView s).transfer := rfl
  have hsettled := hloose.settled hn
  refine targetLost_sound c (hdropped ▸ hsettled) (fun _ => ?_) (fun x y hxy => ?_) fun b y hby => ?_
  · rw [hdropped]
    exact h.rail_of_transfer (by simp [hview])
  · rw [hdropped] at hxy ⊢
    exact fun z => Bool.eq_false_iff.2 fun hz => by
      simpa [h.bridge x y hxy z] using ((PathView.closed_drive_false ..).1 hz).2
  · rw [hdropped] at hby ⊢
    obtain ⟨d, hd, hclosed⟩ := h.overlap _ _ (hsame ▸ hby)
    exact (PathView.closed_drive_false ..).2 ⟨by simp, (hclosed _).2 (.inl (by simpa using hd))⟩

theorem dcGone_sound (h : (pathView s).Sound) (hdc : dcPresent s = false) : (pathView (dcGone s)).Sound := by
  unfold dcGone
  extract_lets s1 s2 u target feeding s4
  have hview : pathView u = pathView s ∧ dcPresent u = dcPresent s := by
    have hlost : u.ppc = s2.ppc := by simp [u]
    have hs2 : pathView s2 = pathView s1 ∧ dcPresent s2 = dcPresent s1 := by
      unfold s2
      split
      · exact ⟨pathView_setWaiting .., rfl⟩
      · exact ⟨rfl, rfl⟩
    refine ⟨(pathView_congr hlost).trans (hs2.1.trans (pathView_raise ..)), ?_⟩
    calc dcPresent u = dcPresent s2 := by simp [dcPresent, hlost]
      _ = dcPresent s1 := hs2.2
      _ = dcPresent s := by simp [dcPresent, s1]
  obtain ⟨hsame, hpresent⟩ := hview
  have hsound := h.congr hsame
  have dcTarget (x : Option Source) (y : Source) (hxy : (pathView u).transfer = some (x, y, .overlap))
      (hclosed : (pathView u).closed .dc = true) : y = .dc := by
    obtain ⟨b, -, hall⟩ := hsound.overlap x y hxy
    exact (((hall .dc).1 hclosed).resolve_left (by simp)).symm
  have hnone (htarget : target ≠ true) (hfeeding : (pathView u).closed .dc = true) : (pathView u).transfer = none := by
    by_contra hne
    obtain ⟨⟨x, y, m⟩, hxy⟩ := Option.ne_none_iff_exists'.1 hne
    obtain ⟨t, ht, -, rfl, -⟩ := transfer_view.1 hxy
    cases m with
    | bridge => exact absurd hfeeding (Bool.eq_false_iff.1 (hsound.bridge _ _ hxy .dc))
    | overlap => exact htarget (by simp [target, ht, dcTarget _ _ hxy hfeeding])
  split_ifs with htarget hfeeding
  · unfold target at htarget
    split at htarget
    case h_1 t ht => exact dcTargetLost_sound _ hsound ht (by simpa using htarget)
    case h_2 => simp at htarget
  · have ht := hnone htarget hfeeding
    refine unplannedTransfer_sound _ ?_ ?_ ((setSwitch_dcPresent false u).trans (hpresent.trans hdc))
    · rw [pathView_setSwitch]
      exact hsound.dropDc fun x y hxy => by simp [ht] at hxy
    · rw [pathView_setSwitch]
      exact ht
  · have hopen : (pathView u).closed .dc = false := Bool.eq_false_iff.2 hfeeding
    have hdropped : pathView (setSwitch .dc false u) = pathView u := by
      rw [pathView_setSwitch, ← hopen, PathView.drive_self]
    exact (selectSource_runs (stopCharging_runs .B (stopCharging_runs .A (hsound.congr hdropped).runs))).sound

theorem takePresence_sound (h : (pathView s).Sound) : (pathView (takePresence s)).Sound := by
  have stored := h.congr (pathView_updPpc (f := fun p => { p with dc := nextPresence p.dc (decide (paramN s 39 ≤ s.ppc.vdc)) }) rfl rfl rfl rfl)
  simp only [takePresence]
  split_ifs with harrived hgone
  · exact (selectSource_runs (graceTest_runs (stored.congr (pathView_raise ..)).runs)).sound
  · exact dcGone_sound stored (by simpa using (Bool.and_eq_true_iff.1 hgone).2)
  · exact stored

theorem monitorReading_sound (vdc va vb vres : Nat) (h : (pathView s).Sound) :
    (pathView (monitorReading vdc va vb vres s)).Sound := by
  have stored : (pathView (storeReadings vdc va vb vres s)).Sound := h.congr (pathView_updPpc rfl rfl rfl rfl)
  refine takePresence_sound ?_
  split
  · exact reserveReady_sound stored
  · exact stored

theorem overlapEnds_sound (h : (pathView s).Sound) : (pathView (overlapEnds s)).Sound := by
  unfold overlapEnds
  split
  case h_2 => exact h
  case h_1 t ht =>
    split
    case isTrue hp => exact completeOverlap_sound h ht hp
    case isFalse => exact h

theorem bridgeCloses_sound (h : (pathView s).Sound) : (pathView (bridgeCloses s)).Sound := by
  unfold bridgeCloses
  split
  case h_2 => exact h
  case h_1 t ht =>
    split
    case isTrue hp => exact completeBridge_sound h ht hp
    case isFalse => exact h

/-! ### The RAIL request (R43, R44) -/

theorem PathView.setRail_feed (v : PathView) (y : Source) : (v.feed y).setRail true = (v.setRail true).feed y := by
  cases y <;> rfl

/-- The rail turns on, and one source feeds it. -/
theorem railOn_sound (h : (pathView s).Sound) : (pathView (railOn s).state).Sound := by
  unfold railOn
  split
  case isTrue => exact h
  case isFalse hoff =>
    obtain ⟨hopen, hnone⟩ := h.dark (Bool.eq_false_iff.2 hoff)
    split
    case h_1 => exact h
    case h_2 y low _ =>
      have hwarned : pathView (warnLow y low s) = pathView s := by
        unfold warnLow
        split
        · exact pathView_raiseIf ..
        · rfl
      have hview : pathView (enableRail (feed y (warnLow y low s))) = ((pathView s).setRail true).feed y := by
        rw [← PathView.setRail_feed, ← hwarned, ← pathView_feed]
        unfold enableRail
        rw [pathView_arbitrate]
        exact pathView_pathChanged _ (updPpc (fun p => { p with railOn := true, offReason := .none }) (feed y (warnLow y low s)))
      have hsettled : ((pathView s).setRail true).Settled :=
        ⟨⟨fun b => ⟨(h.fits b).charge, (h.fits b).feeds, (h.fits b).supplies⟩, fun _ => hopen, h.one hnone⟩, h.alone⟩
      show (pathView (enableRail (feed y (warnLow y low s)))).Sound
      rw [hview]
      exact (hsettled.feed hopen rfl y).sound ((PathView.feed_transfer ..).trans hnone)

theorem railOffRequest_sound (h : (pathView s).Sound) : (pathView (railOffRequest s).state).Sound := by
  unfold railOffRequest answer
  simp only
  split
  · exact railOffReleasing_sound _ h
  · exact h

/-! ### The charge switch (R17, R82, R87) -/

/-- A bay's charge switch closes while DC feeds alone. -/
theorem closeCharge_sound (b : Bay) (i : Nat) (v : Recorded) (h : (pathView s).Sound) (hdc : dcFeedsAlone s = true) :
    (pathView (closeCharge b i v s)).Sound := by
  have halone := (dcFeedsAlone_iff s).1 hdc
  have hview : pathView (closeCharge b i v s) = (pathView s).setBay b .charging true := by
    refine (pathView_congr (t := closeCharge b i v s)
      (s := enterBay b .charging (updBay b (fun r => { r with charge := true }) s)) (by simp [closeCharge, setSession])).trans ?_
    rw [pathView_enterBay, pathView_updBay rfl]
    simp [PathView.setBay]
  rw [hview]
  exact h.setBay ⟨by simp, fun hc => absurd hc (by simp [halone.2 b]), fun hs => (by cases hs), fun _ => halone⟩

theorem startDone_sound (h : (pathView s).Sound) : (pathView (startDone s)).Sound := by
  have counted := h.congr (pathView_congr (t := { s with cc := { s.cc with failedLists := 0 } }) rfl)
  simp only [startDone]
  split
  case h_1 b i v _ =>
    split
    case isTrue hok =>
      refine closeCharge_sound b i v counted ?_
      simp only [chargeable, Bool.and_eq_true] at hok
      obtain ⟨⟨⟨⟨⟨⟨-, hdc⟩, -⟩, -⟩, -⟩, -⟩, -⟩ := hok
      exact hdc
    case isFalse => exact counted.congr (pathView_congr (by simp))
  case h_2 => exact counted

theorem listDone_sound (kind : ListKind) (h : (pathView s).Sound) : (pathView (listDone kind s)).Sound := by
  refine PathView.Sound.congr ?_ (pathView_arbitrate _)
  split
  · exact startDone_sound h
  · exact h.congr (pathView_congr rfl)

theorem openChargeForCc_sound (b : Bay) (h : (pathView s).Sound) : (pathView (openChargeForCc b s)).Sound := by
  unfold openChargeForCc
  split
  case isTrue hb =>
    rw [pathView_openCharge]
    exact (h.runs.openCharge hb (by simp) (by simp)).sound
  case isFalse => exact h

theorem pathView_endSession (s : State) : pathView (endSession s) = pathView s := pathView_congr (by simp)

theorem stopSession_sound (b : Bay) (r : HeldReason) (h : (pathView s).Sound) : (pathView (stopSession b r s)).Sound :=
  (openChargeForCc_sound b h).congr ((pathView_endSession _).trans (pathView_raise ..))

theorem sessionDone_sound (b : Bay) (charge : Nat) (h : (pathView s).Sound) : (pathView (sessionDone b charge s)).Sound :=
  (openChargeForCc_sound b h).congr ((pathView_endSession _).trans ((pathView_raise ..).trans (pathView_congr (by simp))))

theorem sessionTelemetry_sound (b : Bay) (t : Telemetry) (h : (pathView s).Sound) : (pathView (sessionTelemetry b t s)).Sound := by
  unfold sessionTelemetry
  repeat' split
  · exact stopSession_sound b _ h
  · exact sessionDone_sound b _ h
  all_goals exact h

theorem chargeTelemetry_sound (b : Bay) (t : Telemetry) (h : (pathView s).Sound) : (pathView (chargeTelemetry b t s)).Sound := by
  unfold chargeTelemetry
  split
  · refine PathView.Sound.congr ?_ (pathView_arbitrate _)
    exact sessionTelemetry_sound b t (h.congr (pathView_congr rfl))
  · exact h

theorem loseTelemetry_sound (b : Bay) (h : (pathView s).Sound) : (pathView (loseTelemetry b s)).Sound := by
  have lost : (pathView (tellBudget (raise (.telemetryLost b) (updBay b (fun r => { r with telemetryLost := true }) s)))).Sound :=
    h.congr ((pathView_congr rfl).trans ((pathView_raise ..).trans (pathView_updBay_same rfl rfl rfl)))
  simp only [loseTelemetry]
  split
  · exact stopSession_sound b _ lost
  · exact lost

theorem pathView_rematch (b : Bay) (s : State) : pathView (rematch b s) = pathView s := by
  unfold rematch
  split
  · rw [pathView_tellBudgetIf]
    exact pathView_updBay_same rfl rfl rfl
  · rfl

theorem rematchAll_sound (h : (pathView s).Sound) : (pathView (rematchAll s)).Sound := by
  have matched : (pathView (rematch .B (rematch .A s))).Sound := h.congr ((pathView_rematch ..).trans (pathView_rematch ..))
  refine PathView.Sound.congr ?_ (pathView_arbitrate _)
  split
  · split
    · exact stopSession_sound _ _ matched
    · exact matched
  · split
    · exact matched.congr (pathView_congr (by simp))
    · exact matched
  · exact matched

theorem markSerials_ppc (seq : Option Nat) (serials : List Nat) (s : State) : (serials.foldl (markSerial seq) s).ppc = s.ppc := by
  induction serials generalizing s with
  | nil => rfl
  | cons n rest ih => exact ih _

theorem markPacks_sound (serials : List Nat) (seq : Option Nat) (h : (pathView s).Sound) : (pathView (markPacks serials seq s)).Sound := by
  have marked := h.congr (pathView_congr (markSerials_ppc seq serials s))
  simp only [markPacks]
  split
  · split
    · exact stopSession_sound _ _ marked
    · exact marked.congr (pathView_congr (by simp))
    · exact marked
  · exact marked

end

end Sys2Proof.Machine
end

section
/-! PROOFS. Every step keeps the power path's invariant (O59), and the invariants hold at reset (O60). -/

namespace Sys2Proof.Machine

section
variable {s : State}

/-! ### The bus's results and the shock monitor's events -/

theorem pathView_clearLost (b : Bay) (s : State) : pathView (clearLost b s) = pathView s := by
  unfold clearLost
  rw [pathView_tellBudgetIf]
  exact (pathView_congr (s := updBay b (fun r => { r with telemetryLost := false }) s) rfl).trans (pathView_updBay_same rfl rfl rfl)

theorem pathView_attemptFailed (b : Bay) (q : IdSequence) (r : TxResult) (s : State) : pathView (attemptFailed b q r s) = pathView s := by
  unfold attemptFailed
  split <;> exact pathView_congr rfl

theorem pathView_sequencePassed (b : Bay) (id : Identity) (t : Telemetry) (block : List Byte) (s : State) :
    pathView (sequencePassed b id t block s) = pathView s :=
  (pathView_congr (s := clearLost b (setSequence b none s)) (by simp [sequencePassed])).trans
    ((pathView_clearLost b _).trans (pathView_congr rfl))

theorem pathView_pollDelivered (b : Bay) (t : Telemetry) (block : List Byte) (s : State) :
    pathView (pollDelivered b t block s) = pathView s :=
  (pathView_congr (s := clearLost b s) (by simp [pollDelivered])).trans (pathView_clearLost b s)

theorem pathView_identifyEnded (b : Bay) (e : Ended) (s : State) : pathView (identifyEnded b e s) = pathView s := by
  simp only [identifyEnded, sequenceStep]
  repeat' split
  · rfl
  · exact pathView_congr rfl
  · exact pathView_attemptFailed ..
  · exact pathView_sequencePassed ..
  · exact pathView_attemptFailed ..
  · rfl

theorem pollEnded_sound (b : Bay) (e : Ended) (h : (pathView s).Sound) : (pathView (pollEnded b e s)).Sound := by
  simp only [pollEnded, pollFailed]
  split
  · exact h.congr (pathView_pollDelivered ..)
  · split_ifs
    · exact h
    · exact loseTelemetry_sound b (h.congr (pathView_congr rfl))
    · exact h.congr (pathView_congr rfl)

theorem chargerEnded_sound (e : Ended) (h : (pathView s).Sound) : (pathView (chargerEnded e s)).Sound := by
  unfold chargerEnded
  split
  · exact h
  · simp only
    split_ifs
    · exact h.congr (pathView_congr rfl)
    · exact listDone_sound _ (h.congr (pathView_congr rfl))
    · exact h.congr (pathView_congr rfl)
    · exact h.congr (pathView_congr (by simp))

theorem endWith_sound (t : Transaction) (e : Ended) (h : (pathView s).Sound) : (pathView (endWith t e s)).Sound := by
  have freed : (pathView (freeBus s)).Sound := h.congr (pathView_congr rfl)
  unfold endWith routeResult
  split
  · exact freed.congr (pathView_identifyEnded ..)
  · exact chargerEnded_sound e freed
  · exact freed.congr (pathView_congr rfl)
  · exact freed.congr (pathView_congr (by simp))
  · exact pollEnded_sound _ e freed

theorem transactionReply_sound (r : BusReply) (h : (pathView s).Sound) : (pathView (transactionReply r s)).Sound := by
  unfold transactionReply
  repeat' split
  · exact endWith_sound _ _ h
  all_goals exact h

theorem transactionTimedOut_sound (h : (pathView s).Sound) : (pathView (transactionTimedOut s)).Sound := by
  unfold transactionTimedOut
  split
  · exact endWith_sound _ _ h
  · exact h

theorem segmentRemoved_sound (b : Bay) (h : (pathView s).Sound) : (pathView (segmentRemoved b s)).Sound := by
  have stopped : (pathView (stopOnSegment (segmentOf b) s)).Sound := by
    unfold stopOnSegment
    repeat' split
    · exact endWith_sound _ _ h
    all_goals exact h
  exact stopped.congr (pathView_congr (by simp [segmentRemoved]))

theorem takeEvent_sound (e : HandOver) (h : (pathView s).Sound) : (pathView (takeEvent e s).1).Sound := by
  have stored : (pathView (storeEvent e (classify s e) s)).Sound := h.congr (pathView_congr (by simp))
  simp only [takeEvent, markEvent]
  split
  · exact markPacks_sound _ _ stored
  · exact stored

theorem pathView_tick (s : State) : pathView (tick s) = pathView s := by
  ext x
  · rfl
  · rcases x with _ | b
    · rfl
    · cases b <;> rfl
  · cases ‹Bay› <;> rfl
  · cases ‹Bay› <;> rfl
  · simp [pathView, tick, tickPpc, Function.comp_def]

end

theorem pathSound_inner : Inner PathSound := fun _ _ hppc _ _ _ _ _ => pathSound_congr hppc

theorem pathSound_shm : ShmKeeps PathSound where
  shm _ _ := pathSound_congr rfl
  deliver _ _ := pathSound_congr rfl
  raise _ _ := pathSound_congr (by simp)
  hand _ _ := pathSound_congr (by simp)
  event e s h := (pathSound_iff _).2 (takeEvent_sound e ((pathSound_iff s).1 h))
  close _ _ := pathSound_congr (by simp)
  classes _ := pathSound_congr (by simp)

theorem owner_pathSound (code : Nat) (args : List Byte) (s : State) (h : PathSound s) : PathSound (ownerOf code args s).state := by
  have hs := (pathSound_iff s).1 h
  unfold ownerOf
  split
  case h_5 => exact pathSound_congr (by simp) h
  case h_10 =>
    refine (pathSound_iff _).2 ?_
    unfold bayReleaseAnswer
    repeat' split
    · exact (releaseRequest_runs _ hs.runs).sound
    all_goals exact hs
  case h_11 =>
    refine (pathSound_iff _).2 ?_
    unfold railAnswer
    repeat' split
    · exact railOffRequest_sound hs
    · exact railOn_sound hs
    all_goals exact hs
  case h_26 => exact h
  all_goals exact pathSound_congr (by simp) h

theorem pathSound_reset : PathSound State.reset := by
  refine ⟨fun b => by cases b <;> decide, fun _ => by decide, fun _ x y hx => ?_, fun t ht => by cases ht⟩
  rcases x with _ | b
  · cases hx
  · cases b <;> cases hx

theorem effect_pathSound (i : Instr) (s : State) (hi : Instr.fromReceiver i = false) (h : PathSound s) : PathSound (effect i s) := by
  have of {t : State} (ht : (pathView t).Sound) : PathSound t := (pathSound_iff t).2 ht
  have hs := (pathSound_iff s).1 h
  have taken (e : Instr) : (pathView (take e s)).Sound := hs.congr (pathView_congr rfl)
  cases i
  case powerOnReset => exact pathSound_congr (s := State.reset) rfl pathSound_reset
  case ppcPresRising b => exact of (presRose_sound b (taken _))
  case ppcPresFalling b => exact of (presFell_sound b (taken _))
  case ppcLatchRising b => exact of (latchRose_sound b (taken _))
  case ppcLatchFalling b => exact of (latchFell_sound b (taken _))
  case ppcRelRising b => exact of (relRose_sound b (taken _))
  case ppcRelFalling b => exact of ((taken (.ppcRelFalling b)).congr (pathView_endRefusal b _))
  case bbcPresFalling b => exact of (segmentRemoved_sound b (taken _))
  case sourceMonitorReading => exact afterSettle_keeps (fun hu => of (monitorReading_sound _ _ _ _ ((pathSound_iff _).1 hu))) h
  case overlapComplete => exact of (overlapEnds_sound hs)
  case bridgeTargetClose => exact of (bridgeCloses_sound hs)
  case bridgeTimerExpiry => exact of (bridgeExpired_sound hs)
  case releaseHoldTimerExpiry b => exact of (holdExpired_sound b hs)
  case graceExpiry => exact of (graceExpired_sound hs)
  case releaseLapseExpiry b => exact of (lapseExpired_sound b hs)
  case ppcShockHoldStart => exact of (holdStarted_sound (taken _))
  case ppcShockHoldEnd => exact of (holdEnded_sound (taken _))
  case ppcIdentificationOutcome b o => exact of (identificationEnded_sound b o (taken _))
  case ppcTelemetry b t => exact of (pathTelemetry_sound b t (taken _))
  case ccTelemetry b t => exact of (chargeTelemetry_sound b t (taken _))
  case transactionEnd => exact of (transactionReply_sound _ hs)
  case transactionTimeout => exact of (transactionTimedOut_sound hs)
  case accelSample => exact afterSettle_keeps (pathSound_shm.acceptSample _ _ _) h
  case settleTimeout => exact pathSound_shm.settleExpired h
  case sampleSilenceTimeout => exact pathSound_shm.samplesSilent h
  case table0SwapDelivery block changed =>
    cases block
    case shm => exact pathSound_shm.meetSettleLimit h
    case ppc =>
      show PathSound (meetBridgeLimit _)
      unfold meetBridgeLimit
      repeat' split
      · exact of (bridgeExpired_sound (taken _))
      all_goals exact h
    all_goals exact pathSound_congr (by simp [effect, takeParams]) h
  case table3SwapDelivery block =>
    cases block
    case cc => exact of (rematchAll_sound (taken _))
    all_goals exact pathSound_congr (by simp [effect, takeProfiles]) h
  all_goals first
    | exact absurd hi Bool.false_ne_true.symm
    | exact pathSound_congr (by simp [effect]) h

/-- Settles O59. -/
theorem stepsKeepPathSound : Obligations.StepsKeepPathSound := by
  intro s t h hst
  exact pathSound_inner.step owner_pathSound (fun u hu => (pathSound_iff _).2 (((pathSound_iff u).1 hu).congr (pathView_tick u))) effect_pathSound h hst

/-- Settles O60, each invariant at reset by its own lemma. -/
theorem invariantsHoldAtReset : Obligations.InvariantsHoldAtReset :=
  ⟨logSound_reset, ⟨Nat.zero_le _, Nat.zero_le _⟩, ⟨List.nodup_nil, fun _ he => absurd he List.not_mem_nil⟩, Nat.zero_le _,
    stackSound_reset, quiesceSound_reset, blankedDark_reset, memorySound_reset, tablesSound_reset, pathSound_reset⟩

end Sys2Proof.Machine
end

section
/-! PROOFS. The line, the notices and the traffic (chapter 10), the bus's grant (chapter 3), and the backlight's recomputation and ramp (chapter 6). -/

namespace Sys2Proof.Machine

/-! ### What a step leaves unchanged, part by part -/

theorem keeps_iff (changed : List Part) (s t : State) : KeepsAllBut changed s t ↔
    (.settling ∈ changed ∨ t.settling = s.settling) ∧ (.icu ∈ changed ∨ t.icu = s.icu) ∧ (.ppc ∈ changed ∨ t.ppc = s.ppc)
      ∧ (.bbc ∈ changed ∨ t.bbc = s.bbc) ∧ (.cc ∈ changed ∨ t.cc = s.cc) ∧ (.bu ∈ changed ∨ t.bu = s.bu)
      ∧ (.blc ∈ changed ∨ t.blc = s.blc) ∧ (.shm ∈ changed ∨ t.shm = s.shm) ∧ (.dl ∈ changed ∨ t.dl = s.dl)
      ∧ (.ts ∈ changed ∨ t.ts = s.ts) ∧ (.lu ∈ changed ∨ t.lu = s.lu) ∧ (.delivered ∈ changed ∨ t.delivered = s.delivered)
      ∧ (.freeIndex ∈ changed ∨ t.freeIndex = s.freeIndex) ∧ (.pending ∈ changed ∨ t.pending = s.pending) := by
  have parts : KeepsAllBut changed s t ↔ ∀ p : Part, p ∈ changed ∨ p.Same s t := forall_congr' fun p => or_iff_not_imp_left.symm
  rw [parts]
  constructor
  · intro h
    exact ⟨h .settling, h .icu, h .ppc, h .bbc, h .cc, h .bu, h .blc, h .shm, h .dl, h .ts, h .lu, h .delivered, h .freeIndex, h .pending⟩
  · rintro ⟨h1, h2, h3, h4, h5, h6, h7, h8, h9, h10, h11, h12, h13, h14⟩ p
    cases p <;> assumption

/-! ### The backlight's recomputation (R112, R115, R118 to R122) -/

theorem clampInt_eq (v : Int) : clampInt 0 1000 v = max 0 (min 1000 v) := by
  unfold clampInt
  split_ifs <;> omega

/-- A recomputation with the lid as the backlight holds it. -/
theorem recomputeHeld_recomputes (closed : Bool) (s : State) :
    TargetRecomputedWith closed s (recomputeHeld (updBlc (fun c => { c with lidClosed := closed }) s)) := by
  have hblank (s : State) : blanked s = true ↔ s.blc.railOn = false ∨ s.blc.lidClosed = true := by simp [blanked]
  simp only [TargetRecomputedWith, recomputeHeld, targetOf, demandOf, outputAfter, hblank, userLevel, heldWithOffset, clampInt_eq,
    effectiveCap, ceiling, publication, updBlc_blc]
  rfl

theorem recomputeTarget_recomputes (s : State) : TargetRecomputed s (recomputeTarget s) :=
  recomputeHeld_recomputes (filtered s .lid) s

/-- Settles O35. -/
theorem rampTickStepsTowardsTarget : Obligations.RampTickStepsTowardsTarget := by
  intro e s h
  rw [exec_effect (by simp)]
  simp [effect, tickRamp, h, updBlc, rampNext]

/-! ### The line falls free, and the link falls silent (R115, R185, R187, R189) -/

/-- Settles O50. -/
theorem lineFreeAndLinkSilence : Obligations.LineFreeAndLinkSilence := by
  intro s
  refine ⟨fun f hf => ?_, fun e he => ?_⟩
  · rw [exec_effect (by simp)]
    have hfree : effect .upstreamLineFree s = { s with
        lu := { s.lu with line := none },
        delivered := s.delivered ++ (if f.resetResponse = true ∧ s.lu.resetPending = true then [.managementReset] else []) } := by
      cases hr : f.resetResponse <;> cases hp : s.lu.resetPending <;> simp [effect, lineFree, hf, hr, hp, updLu, deliver]
    rw [hfree]
  · have hsilent : effect .linkSilenceTimeout s =
        emptyStack (updLu (fun l => { l with traffic := [], silence := true, silenceTimer := none }) s) := by
      simp [effect, silenceBegins, he]
    refine ⟨fun hempty => ?_, fun hstack => ⟨_, exec_effect (by simp) s, ?_⟩⟩
    · rw [exec_effect (by simp), hsilent]
      simp [emptyStack, hempty, updLu]
    · rw [hsilent, emptyStack, if_neg (by simpa using hstack)]
      exact recomputeTarget_recomputes _

/-! ### The next frame (R181, R187) -/

theorem nextNotice_mem {q : List PendingNotice} {n : PendingNotice} (h : nextNotice q = some n) : n ∈ q := by
  induction q generalizing n with
  | nil => simp [nextNotice] at h
  | cons e rest ih =>
    unfold nextNotice at h
    split at h
    · obtain rfl : e = n := Option.some.inj h
      exact List.mem_cons_self
    · split at h
      · obtain rfl : e = n := Option.some.inj h
        exact List.mem_cons_self
      · rename_i best hbest _
        obtain rfl : best = n := Option.some.inj h
        exact List.mem_cons_of_mem _ (ih hbest)

/-- An entry that outranks every other one, by its level or by its kind at the same level, is the next notice. -/
theorem nextNotice_eq {q : List PendingNotice} {n : PendingNotice} (hn : n ∈ q)
    (h : ∀ e ∈ q, e = n ∨ e.level < n.level ∨ (e.level = n.level ∧ n.notice.kind < e.notice.kind)) : nextNotice q = some n := by
  induction q with
  | nil => exact absurd hn List.not_mem_nil
  | cons e rest ih =>
    obtain ⟨he, hrest⟩ := List.forall_mem_cons.1 h
    unfold nextNotice
    rcases List.mem_cons.1 hn with rfl | hn
    · split
      · rfl
      · rename_i best hbest
        rcases hrest best (nextNotice_mem hbest) with rfl | hlower | ⟨heq, hkind⟩
        · simp
        · simp [hlower]
        · simp [heq, hkind]
    · rw [ih hn hrest]
      rcases he with rfl | hlower | ⟨heq, hkind⟩
      · simp
      · have hnot : ¬ n.level < e.level ∧ n.level ≠ e.level := by omega
        simp [hnot]
      · have hnot : ¬ e.notice.kind < n.notice.kind := by omega
        simp [heq, hnot]

/-- Settles O5. -/
theorem lineTakesNextFrame : Obligations.LineTakesNextFrame := by
  intro s
  refine ⟨by simp [keeps_iff], fun h => by simp [startLine, h], ?_, ?_, ?_, ?_⟩
  · intro r rest hline hresponses
    simp [startLine, hline, chooseFrame, hresponses, lineFrame, frameTicks, Response.isReset]
  · intro n hline hresponses hsilence hn hbest
    simp [startLine, hline, chooseFrame, hresponses, hsilence, nextNotice_eq hn hbest, lineFrame, frameTicks]
  all_goals
    intros
    rename_i hnotices htraffic
    have hnone : (if s.lu.silence then none else nextNotice s.lu.notices) = none := by
      rcases hnotices with h | h <;> simp [h, nextNotice]
    simp [startLine, *, chooseFrame, lineFrame, frameTicks]

/-! ### Notices join the pending set (R186) -/

theorem raise_of_level_zero {n : Notice} {s : State} (h : noticeLevel s n.kind = 0) : raise n s = s := by simp [raise, h]

theorem raise_of_level {n : Notice} {s : State} (h : noticeLevel s n.kind ≠ 0) :
    raise n s = { s with lu := { s.lu with notices := foldNotice n (noticeLevel s n.kind) s.lu.notices } } := by simp [raise, h]

/-- Entries of other kinds are passed over. -/
theorem foldNotice_append {n : Notice} {level : Nat} {before : List PendingNotice} (rest : List PendingNotice)
    (h : ∀ x ∈ before, x.notice.kind ≠ n.kind) : foldNotice n level (before ++ rest) = before ++ foldNotice n level rest := by
  induction before with
  | nil => rfl
  | cons x xs ih =>
    obtain ⟨hx, hxs⟩ := List.forall_mem_cons.1 h
    rw [List.cons_append, foldNotice, if_neg hx, ih hxs, List.cons_append]

theorem joinTraffic_eq (f : TrafficFrame) (q : List TrafficFrame) :
    joinTraffic f q = (if q.length < 16 then q else q.drop 1) ++ [f] := by
  unfold joinTraffic
  by_cases h : 16 ≤ q.length <;> simp [h]

/-- Settles O6: the kind's entry is searched, and a frame is discarded or joins by its kind. -/
theorem noticesAndTrafficJoinTheirQueues : Obligations.NoticesAndTrafficJoinTheirQueues := by
  refine ⟨?_, fun s => ⟨?_, ?_, ?_, ?_⟩⟩
  · rintro n level s (rfl : level = noticeLevel s n.kind)
    refine ⟨raise_of_level_zero, fun hlevel hnew => ?_, fun before after e hlevel hq hkind hbefore => ?_⟩
    · rw [raise_of_level hlevel, ← List.append_nil s.lu.notices, foldNotice_append [] hnew]
      simp [foldNotice]
    · have hcount : min (e.count + 1) 255 = if e.count < 255 then e.count + 1 else 255 := by split <;> omega
      rw [raise_of_level hlevel, hq, foldNotice_append _ hbefore, foldNotice, if_pos hkind, hcount]
  · intro t hsilence
    simp [handTraffic, trafficDiscarded, hsilence]
  · intro src f r l tc tgt c out hsilence
    refine ⟨fun h => ?_, fun h => ?_⟩
    · simp [handTraffic, trafficDiscarded, h]
    · simp [handTraffic, trafficDiscarded, hsilence, h, countTraffic, trafficSequence, joinTraffic_eq]
  · intro b block hsilence
    refine ⟨fun h => ?_, fun h => ?_⟩
    · simp [handTraffic, trafficDiscarded, h]
    · simp [handTraffic, trafficDiscarded, hsilence, h, countTraffic, trafficSequence, joinTraffic_eq]
  · intro x y z
    refine ⟨fun h => ?_, fun h => ?_, fun h hreached hsilence => ?_, fun h hreached hsilence => ?_⟩
    · simp [forwardMotion, h, updShm]
    · have hnonzero : paramN s 36 ≠ 0 := by omega
      simp [forwardMotion, hnonzero, Nat.not_le.2 h, updShm]
    · simp [forwardMotion, h, hreached, updShm, handTraffic, trafficDiscarded, hsilence]
    · simp [forwardMotion, h, hreached, updShm, handTraffic, trafficDiscarded, hsilence, countTraffic, trafficSequence, joinTraffic_eq]

/-! ### The grant (R47, R53, R54) -/

theorem grantBus_of_offer {s : State} {o : Offer} (hfree : s.bbc.inFlight = none) (ho : bestOffer s = some o) :
    grantBus s = beginTransaction o s := by simp [grantBus, hfree, ho]

theorem identifyOffer_none {s : State} {b : Bay} (h : (busOf s b).sequence = none) : identifyOffer s b = none := by
  simp [identifyOffer, h]

theorem pollOffer_none {s : State} {b : Bay} (h : (busOf s b).pollDue = false) : pollOffer s b = none := by simp [pollOffer, h]

/-- With no sequence and no list, the field access is granted unless a poll comes before it and is due. -/
theorem bestOffer_field {s : State} {o : Offer} (hA : (busOf s .A).sequence = none) (hB : (busOf s .B).sequence = none)
    (hlists : s.bbc.lists = []) (hfield : offer s .field = some o)
    (hpoll : paramN s 37 ≠ 1 ∨ (busOf s .A).pollDue = false ∧ (busOf s .B).pollDue = false) : bestOffer s = some o := by
  have hidentify : offer s .identify = none := by simp [offer, identifyOffer_none hA, identifyOffer_none hB]
  have hcharger : offer s .charger = none := by simp [offer, chargerOffer, hlists]
  unfold bestOffer requesterOrder
  split
  case isTrue h =>
    obtain ⟨hpa, hpb⟩ := hpoll.resolve_left (not_not.2 h)
    have hnone : offer s .poll = none := by simp [offer, pollOffer_none hpa, pollOffer_none hpb]
    simp [List.findSome?, hidentify, hcharger, hnone, hfield]
  case isFalse => simp [List.findSome?, hidentify, hcharger, hfield]

/-- Settles O4, rank by rank. -/
theorem grantByRank : Obligations.GrantByRank := by
  intro s
  refine ⟨by simp [keeps_iff], fun h => by simp [grantBus, h], ?_, ?_, ?_, ?_, ?_⟩
  · intro b q hfree hq hfirst
    have hoffer : offer s .identify = some ⟨.identify b, segmentOf b, sequenceRead q⟩ := by
      cases b with
      | A => simp [offer, identifyOffer, hq]
      | B => simp [offer, identifyOffer, hq, hfirst rfl]
    have hbest : bestOffer s = some ⟨.identify b, segmentOf b, sequenceRead q⟩ := by
      unfold bestOffer requesterOrder
      split <;> simp [List.findSome?, hoffer]
    rw [grantBus_of_offer hfree hbest]
    rfl
  · intro l rest w hfree hA hB hlists hw
    have hidentify : offer s .identify = none := by simp [offer, identifyOffer_none hA, identifyOffer_none hB]
    have hcharger : offer s .charger = some ⟨.charger, .C, .write w.1 w.2⟩ := by simp [offer, chargerOffer, hlists, hw]
    have hbest : bestOffer s = some ⟨.charger, .C, .write w.1 w.2⟩ := by
      unfold bestOffer requesterOrder
      split <;> simp [List.findSome?, hidentify, hcharger]
    rw [grantBus_of_offer hfree hbest]
    rfl
  · intro w rest hfree hA hB hlists hdeferred hposted hpoll
    have hfield : offer s .field = some ⟨.posted, w.segment, .write w.command w.value⟩ := by
      simp [offer, deferredOffer, hdeferred, postedOffer, hposted]
    rw [grantBus_of_offer hfree (bestOffer_field hA hB hlists hfield hpoll)]
    rfl
  · intro d hfree hA hB hlists hdeferred hwaiting hclear hpoll
    have hfield : offer s .field = some ⟨.deferred, d.segment, .read d.code d.length⟩ := by
      simp only [offer, deferredOffer, hdeferred]
      rw [if_pos ⟨hwaiting, by simpa using hclear⟩]
      rfl
    rw [grantBus_of_offer hfree (bestOffer_field hA hB hlists hfield hpoll)]
    simp [beginTransaction, granted, hdeferred]
  · intro b hfree hA hB hlists hfield hdue hfirst
    have hidentify : offer s .identify = none := by simp [offer, identifyOffer_none hA, identifyOffer_none hB]
    have hcharger : offer s .charger = none := by simp [offer, chargerOffer, hlists]
    have hpoll : offer s .poll = some ⟨.poll b, segmentOf b, telemetryRead⟩ := by
      cases b with
      | A => simp [offer, pollOffer, hdue]
      | B => simp [offer, pollOffer, hdue, hfirst rfl]
    have hbest : bestOffer s = some ⟨.poll b, segmentOf b, telemetryRead⟩ := by
      unfold bestOffer requesterOrder
      split
      case isTrue => simp [List.findSome?, hidentify, hcharger, hpoll]
      case isFalse h =>
        obtain ⟨hdeferred, hposted⟩ := hfield.resolve_left h
        have hnone : offer s .field = none := by simp [offer, deferredOffer, hdeferred, postedOffer, hposted]
        simp [List.findSome?, hidentify, hcharger, hnone, hpoll]
    rw [grantBus_of_offer hfree hbest]
    rfl

end Sys2Proof.Machine
end

section
/-! PROOFS. What the host's requests on the backlight, the shock monitor, the log and the pack slots answer. -/

namespace Sys2Proof.Machine

/-! ### A request that the link hands to its owner -/

/-- With the link open a request is its owner's answer, joined to the response queue. -/
theorem exec_request {c : Instr} {tag code : Byte} {owner : State → Answer} {s v : State} {st : Status} {r : List Byte}
    (h : LinkOpen s) (hc : c ≠ .powerOnReset) (heffect : effect c s = handleRequest tag code owner (take c s))
    (howner : owner (acceptFrame (take c s)) = answer st r v) : exec c s = .next (finish (respond tag code st r v)) := by
  rw [exec_effect hc, heffect, handleRequest_open (linkOpen_take c h), howner]
  rfl

/-! ### Backlight (chapter 6) -/

/-- Settles O31. -/
theorem capsRailAndLidMoveTarget : Obligations.CapsRailAndLidMoveTarget := fun s =>
  ⟨fun _ _ => ⟨_, exec_effect (by simp) s, recomputeTarget_recomputes _⟩,
   fun _ => ⟨_, exec_effect (by simp) s, recomputeTarget_recomputes _⟩,
   fun closed => ⟨_, exec_effect (by simp) s, recomputeHeld_recomputes closed _⟩⟩

theorem clampInt_offset (v : Int) : clampInt (-500) 500 v = max (-500) (min 500 v) := by
  unfold clampInt
  split_ifs <;> omega

/-- Settles O32. -/
theorem offsetAndOverridesMoveTarget : Obligations.OffsetAndOverridesMoveTarget := by
  rintro tag lo hi v s hlink rfl
  refine ⟨⟨_, exec_request hlink (by simp) rfl ?_, recomputeTarget_recomputes _⟩, fun hfull => exec_request hlink (by simp) rfl ?_,
    fun hroom => ⟨_, exec_request hlink (by simp) rfl ?_, recomputeTarget_recomputes _⟩, fun hempty => exec_request hlink (by simp) rfl ?_,
    fun top rest hstack => ⟨_, exec_request hlink (by simp) rfl ?_, recomputeTarget_recomputes _⟩⟩
  · simp only [offsetSetAnswer, setOffset, clampInt_offset]
    rfl
  · exact if_pos hfull
  · simp only [overridePushAnswer, pushLevel, clampInt_eq]
    exact if_neg (Nat.not_le.2 hroom)
  · simp only [overridePopAnswer, popLevel, acceptFrame_blc, take_blc, hempty]
    rfl
  · simp only [overridePopAnswer, popLevel, acceptFrame_blc, take_blc, hstack]
    rfl

/-! ### Arming and the quiesce line (R143, R146) -/

/-- Entering a quiet state with no pending swap of table 2 changes the state and the qualification count alone. -/
theorem enterQuiet_eq {s : State} (h : s.ts.t2.pending = false) (st : ShmState) :
    enterQuiet st s = { s with shm := { s.shm with state := st, qualify := 0 } } := by
  simp only [enterQuiet, swapClasses, updShm_ts, h]
  rfl

/-- Arming with the samples present leaves the monitor IDLE. -/
theorem armMonitor_present {s : State} (h : s.ts.t2.pending = false) (hsamples : ∀ e, s.shm.silence = some e → e < ms 50) :
    armMonitor s = { s with shm := { s.shm with state := .idle, qualify := 0 } } := by
  have hpresent : samplesLost { s with shm := { s.shm with state := .idle, qualify := 0 } } = false := by
    cases hs : s.shm.silence with
    | none => simp [samplesLost, hs]
    | some e =>
      have hbefore : e < sampleSilenceLimit := hsamples e hs
      simp [samplesLost, hs, hbefore]
  simp [armMonitor, enterQuiet_eq h, hpresent]

/-- The monitor answers a disarming BUSY where it is neither disarmed nor idle. -/
theorem disarmMonitor_busy {s : State} (hd : s.shm.state ≠ .disarmed) (hi : s.shm.state ≠ .idle) :
    disarmMonitor s = answer .busy [] s := by
  unfold disarmMonitor
  split
  case h_1 h => exact absurd h hd
  case h_2 h => exact absurd h hi
  all_goals rfl

/-- Settles O41. -/
theorem armDisarmAndQuiesceRequests : Obligations.ArmDisarmAndQuiesceRequests := by
  intro tag s hlink hswap
  refine ⟨fun hd hsamples => exec_request hlink (by simp) rfl ?_, fun hd => exec_request hlink (by simp) rfl (if_neg hd),
    fun hd => exec_request hlink (by simp) rfl ?_, fun hi => exec_request hlink (by simp) rfl ?_,
    fun hd hi => exec_request hlink (by simp) rfl (disarmMonitor_busy hd hi), fun hk => exec_request hlink (by simp) rfl ?_,
    fun hk he => exec_request hlink (by simp) rfl ?_, fun hk he => exec_request hlink (by simp) rfl ?_⟩
  · simp only [shockArmAnswer, acceptFrame_shm, take_shm, hd, if_true]
    rw [armMonitor_present (by exact hswap) (by exact hsamples)]
    rfl
  · simp only [shockDisarmAnswer, disarmMonitor, acceptFrame_shm, take_shm, hd]
    rfl
  · simp only [shockDisarmAnswer, disarmMonitor, acceptFrame_shm, take_shm, hi]
    rw [enterQuiet_eq (by exact hswap)]
    rfl
  · simp only [quiesceReleaseAnswer, releaseQuiesce, acceptFrame_shm, take_shm, hk]
    rfl
  · simp only [quiesceReleaseAnswer, releaseQuiesce, acceptFrame_shm, take_shm, hk, updShm, he]
    rfl
  · simp only [quiesceReleaseAnswer, releaseQuiesce, acceptFrame_shm, take_shm, hk, updShm, he]
    rfl

/-! ### The log and the clock (R160 to R165) -/

theorem logCounts_eq (d : Dl) :
    logCounts d = byte1 d.log.length ++ byte1 (d.log.filter DropRecord.preserved).length ++ byte4 d.nextSequence := by
  simp only [logCounts, preservedCount, List.countP_eq_length_filter]

/-- Settles O42. -/
theorem logAndClockRequestsAnswer : Obligations.LogAndClockRequestsAnswer := by
  refine ⟨fun tag s hlink => ⟨fun p older newer r hlog hp => exec_request hlink (by simp) rfl ?_,
    fun p hp => exec_request hlink (by simp) rfl ?_, fun kept hkept => exec_request hlink (by simp) rfl ?_,
    fun hlock => ⟨exec_request hlink (by simp) rfl (if_pos hlock), exec_request hlink (by simp) rfl (if_pos hlock)⟩,
    fun hlock => ⟨exec_request hlink (by simp) rfl (if_neg ?_), exec_request hlink (by simp) rfl (if_neg ?_)⟩⟩,
    fun s => ⟨fun e he => ?_, fun tag b0 b1 b2 b3 hlink => exec_request hlink (by simp) rfl ?_⟩⟩
  · have hfound : s.dl.log.reverse[p.toNat]? = some r := by simp [hlog, ← hp]
    simp only [logReadAnswer, acceptFrame_dl, take_dl, hfound, logCounts_eq]
    rfl
  · have hnone : s.dl.log.reverse[p.toNat]? = none := List.getElem?_eq_none (by simpa using hp)
    simp only [logReadAnswer, acceptFrame_dl, take_dl, hnone, logCounts_eq]
    rfl
  · subst hkept
    rfl
  · exact Bool.not_eq_true _ ▸ hlock
  · exact Bool.not_eq_true _ ▸ hlock
  · rw [exec_effect (by simp)]
    have hwrap : (s.dl.clock + 1) % 4294967296 = if s.dl.clock = 4294967295 then 0 else (s.dl.clock + 1) % 4294967296 := by
      split_ifs <;> omega
    rw [← hwrap]
    simp [effect, advanceClock, he, updDl]
  · simp only [timeSetAnswer, le4]
    rfl

/-! ### Host reads and writes on the bay bus (R61, R63) -/

theorem requestSegment_eq {seg : Byte} {g : Segment} (h : g = .A ∧ seg = 0 ∨ g = .B ∧ seg = 1 ∨ g = .C ∧ seg = 2) :
    requestSegment seg = some g := by
  rcases h with ⟨rfl, rfl⟩ | ⟨rfl, rfl⟩ | ⟨rfl, rfl⟩ <;> rfl

theorem requestSegment_none {seg : Byte} (h : 2 < seg.toNat) : requestSegment seg = none := by
  unfold requestSegment
  split_ifs with h0 h1 h2
  · simp [h0] at h
  · simp [h1] at h
  · simp [h2] at h
  · rfl

theorem noPackAt_iff (s : State) (g : Segment) :
    noPackAt s g = true ↔ ∃ b, bayOfSegment g = some b ∧ ((bayOf s b).state = .empty ∨ (bayOf s b).state = .seating) := by
  unfold noPackAt
  split
  case h_1 b hb => simp [hb]
  case h_2 hb => simp [hb]

/-- PACK_READ with its segment and length in range is the read request of R61. -/
theorem packReadAnswer_eq {seg code len : Byte} {g : Segment} (hseg : requestSegment seg = some g) (h1 : 1 ≤ len.toNat)
    (h32 : len.toNat ≤ 32) (s : State) : packReadAnswer [seg, code, len] s = readRequest g code.toNat len.toNat s := by
  simp only [packReadAnswer, hseg]
  exact if_pos ⟨h1, h32⟩

/-- Settles O24. -/
theorem packReadUsesDeferredSlot : Obligations.PackReadUsesDeferredSlot := by
  intro tag code len seg g s hlink hg h1 h32
  have hseg := requestSegment_eq hg
  have hread := fun t => packReadAnswer_eq (code := code) hseg h1 h32 t
  refine ⟨fun r bytes e hd => exec_request hlink (by simp) rfl ((hread _).trans ?_),
    fun hd => exec_request hlink (by simp) rfl ((hread _).trans ?_),
    fun d hd hother => exec_request hlink (by simp) rfl ((hread _).trans ?_),
    fun hd => ⟨fun b hb hempty => exec_request hlink (by simp) rfl ((hread _).trans ?_),
      fun hpack => exec_request hlink (by simp) rfl ((hread _).trans ?_)⟩,
    fun v hv => exec_request hlink (by simp) rfl ?_, fun n hn => exec_request hlink (by simp) rfl ?_⟩
  · simp [readRequest, hd, resultBytes, byte1]
    rfl
  · rcases hd with hd | hd <;> simp [readRequest, hd] <;> rfl
  · have hne : ¬(d.segment = g ∧ d.code = code.toNat ∧ d.length = len.toNat) := by tauto
    simp only [readRequest, acceptFrame_bbc, take_bbc, hd, if_neg hne]
    rfl
  · have hnone : noPackAt (acceptFrame (take (.packRead tag [seg, code, len]) s)) g = true := (noPackAt_iff _ g).2 ⟨b, hb, hempty⟩
    simp only [readRequest, acceptFrame_bbc, take_bbc, hd, hnone]
    rfl
  · have hsome : ¬noPackAt (acceptFrame (take (.packRead tag [seg, code, len]) s)) g = true := by
      rw [noPackAt_iff]
      rintro ⟨b, hb, hempty⟩
      exact hempty.elim (hpack b hb).1 (hpack b hb).2
    simp only [readRequest, acceptFrame_bbc, take_bbc, hd, if_neg hsome]
    rfl
  · simp only [packReadAnswer, requestSegment_none hv]
    rfl
  · have hrange : ¬(1 ≤ n.toNat ∧ n.toNat ≤ 32) := by
      rintro ⟨hlow, hhigh⟩
      rcases hn with rfl | hn
      · simp at hlow
      · omega
    simp only [packReadAnswer, hseg, if_neg hrange]
    rfl

/-- Settles O25. -/
theorem packWriteJoinsPostedQueue : Obligations.PackWriteJoinsPostedQueue := by
  intro tag seg command v0 v1 s hlink
  have hbay (b : Bay) : requestSegment (if b = .A then 0 else 1) = some (segmentOf b) := by cases b <;> rfl
  have hnotC (b : Bay) : segmentOf b ≠ .C := by cases b <;> decide
  have hback (b : Bay) : bayOfSegment (segmentOf b) = some b := by cases b <;> rfl
  refine ⟨fun hv => exec_request hlink (by simp) rfl ?_, fun hv => exec_request hlink (by simp) rfl ?_, fun b hv =>
    ⟨fun hempty => exec_request hlink (by simp) rfl ?_, fun he hs => ⟨fun hfull => exec_request hlink (by simp) rfl ?_,
      fun hroom => exec_request hlink (by simp) rfl ?_⟩⟩⟩
  · simp only [packWriteAnswer, requestSegment_none hv]
    rfl
  · subst hv
    rfl
  · subst hv
    have hnone : noPackAt (acceptFrame (take (.packWrite tag [if b = .A then 0 else 1, command, v0, v1]) s)) (segmentOf b) = true :=
      (noPackAt_iff _ _).2 ⟨b, hback b, hempty⟩
    simp only [packWriteAnswer, hbay, writeRequest, hnotC, hnone]
    rfl
  all_goals
    subst hv
    have hsome : ¬noPackAt (acceptFrame (take (.packWrite tag [if b = .A then 0 else 1, command, v0, v1]) s)) (segmentOf b) = true := by
      rw [noPackAt_iff]
      rintro ⟨x, hx, hempty⟩
      obtain rfl : b = x := Option.some.inj ((hback b).symm.trans hx)
      exact hempty.elim he hs
    simp only [packWriteAnswer, hbay, writeRequest, hnotC, if_neg hsome]
  · exact if_pos hfull
  · exact if_neg (Nat.not_le.2 hroom)

/-! ### Tables discarded and read (R177, R178) -/

/-- A change of the tables that leaves the parameters in force does not touch the link's silence timer. -/
theorem acceptFrame_tables {s : State} {ts : TableStore} (h : ts.t0.active = s.ts.t0.active) :
    { acceptFrame s with ts := ts } = acceptFrame { s with ts := ts } := by
  have htimer : restartedSilence s = restartedSilence { s with ts := ts } := by
    simp only [restartedSilence, paramN, param, h]
    rfl
  simp [acceptFrame, htimer]

theorem discardStaging_params (table : Nat) (ts : TableStore) : (discardStaging table ts).t0.active = ts.t0.active := by
  unfold discardStaging
  split <;> rfl

/-- Settles O45. -/
theorem tableDiscardAndReadAnswer : Obligations.TableDiscardAndReadAnswer := by
  intro tag table index copy s hlink
  have hcopy : (copy.toNat == 1) = (copy == 1) := by
    rw [Bool.eq_iff_iff, beq_iff_eq, beq_iff_eq]
    exact ⟨fun h => BitVec.eq_of_toNat_eq h, fun h => h ▸ rfl⟩
  refine ⟨fun ht => exec_request hlink (by simp) rfl ?_, fun ht hp => exec_request hlink (by simp) rfl ?_,
    fun ht hp => ⟨discardStaging table.toNat s.ts, exec_request hlink (by simp) rfl ?_, fun h => ?_, fun h => ?_, fun h => ?_, fun h => ?_,
      fun h => ?_⟩,
    fun h => exec_request hlink (by simp) rfl (if_pos h), fun ht hc hi => exec_request hlink (by simp) rfl ?_,
    fun ht hc hi => exec_request hlink (by simp) rfl ?_⟩
  · exact if_pos ht
  · simp only [tableDiscardAnswer, discardTable, if_neg (Nat.not_lt.2 ht), acceptFrame_ts, take_ts, hp]
    rfl
  · simp only [tableDiscardAnswer, discardTable, if_neg (Nat.not_lt.2 ht), acceptFrame_ts, take_ts, hp]
    exact congrArg (answer .ok []) (acceptFrame_tables (s := take (.tableDiscard tag [table]) s) (discardStaging_params _ _))
  iterate 5
    · subst h
      rfl
  · have hread : ¬(4 < table.toNat ∨ 1 < copy.toNat) := by omega
    simp only [tableReadAnswer, readTable, if_neg hread, if_pos hi]
    rfl
  · have hread : ¬(4 < table.toNat ∨ 1 < copy.toNat) := by omega
    simp only [tableReadAnswer, readTable, if_neg hread, if_neg (Nat.not_le.2 hi), hcopy]
    rfl

end Sys2Proof.Machine
end

section
/-! PROOFS. The discrete inputs (chapter 1). -/

namespace Sys2Proof.Machine

/-! ### Raw levels and stability timers (R2, R3, R7) -/

/-- Settles O7. -/
theorem inputFilterFollowsItsTimer : Obligations.InputFilterFollowsItsTimer := by
  refine ⟨fun i level s => ⟨fun hs => ?_, fun hs => ?_⟩, fun i e s he => ?_, fun i s he => ?_, fun b => ?_, fun closed => ⟨rfl, ?_⟩⟩
  · rw [exec_effect (by simp)]
    cases htimer : (inputOf s.icu i).timer <;> simp [effect, rawLevel, hs, updIcu, takeRaw, htimer]
  · rw [exec_effect (by simp)]
    simp [effect, rawLevel, hs, updIcu]
  · rw [exec_effect (by simp)]
    simp [effect, stabilityExpired, he, acceptInput, updIcu, deliverAll]
  · rw [exec_effect (by simp)]
    simp [effect, stabilityExpired, he]
  · cases b <;> exact ⟨rfl, rfl, rfl, rfl, rfl, rfl⟩
  · cases closed <;> rfl

/-! ### A change of filter length (R4 to R6) -/

/-- An input's filter length has changed to one that its running timer has reached. -/
def meetsLength (old c : Icu) (i : Input) : Bool := decide (filterLength c i ≠ filterLength old i) && timerReached c i

/-- An input with its change accepted. -/
def InputState.accepted (r : InputState) : InputState := ⟨r.raw, r.raw, none⟩

theorem meetLength_eq (old : Icu) (s : State) (i : Input) :
    meetLength old s i = if meetsLength old s.icu i then acceptInput i s else s := by
  simp [meetLength, meetsLength]

theorem acceptInput_inputOf (i x : Input) (s : State) :
    inputOf (acceptInput i s).icu x = if x = i then (inputOf s.icu i).accepted else inputOf s.icu x :=
  inputOf_setInput _ _ _ _

theorem acceptInput_length (i x : Input) (s : State) : filterLength (acceptInput i s).icu x = filterLength s.icu x := by
  obtain ⟨-, hbay, hhousing⟩ := setInput_lengths s.icu i ⟨(inputOf s.icu i).raw, (inputOf s.icu i).raw, none⟩
  simp only [filterLength, acceptInput, updIcu, deliverAll, hbay, hhousing]

/-- One input accepted leaves what another one meets. -/
theorem meetsLength_acceptInput (old : Icu) (s : State) {i x : Input} (h : x ≠ i) :
    meetsLength old (acceptInput i s).icu x = meetsLength old s.icu x := by
  simp only [meetsLength, timerReached, acceptInput_length, acceptInput_inputOf, if_neg h]

/-- What the inputs of a list come to that meet new filter lengths, one after the other. -/
structure LengthsMet (old : Icu) (l : List Input) (s u : State) : Prop where
  frame : KeepsAllBut [.icu, .delivered] s u
  lengths : u.icu.hold = s.icu.hold ∧ u.icu.bayLength = s.icu.bayLength ∧ u.icu.housingLength = s.icu.housingLength
  inputs : ∀ i, inputOf u.icu i =
    if i ∈ l ∧ meetsLength old s.icu i = true then (inputOf s.icu i).accepted else inputOf s.icu i
  edges : u.delivered = s.delivered ++ l.flatMap fun i =>
    if meetsLength old s.icu i then edgesOf i (inputOf s.icu i).raw else []

theorem lengthsMet_one (old : Icu) (i : Input) (s : State) : LengthsMet old [i] s (meetLength old s i) := by
  rw [meetLength_eq]
  cases hm : meetsLength old s.icu i
  · exact ⟨keeps_refl _ _, ⟨rfl, rfl, rfl⟩, fun x => (if_neg (by rintro ⟨hx, hmet⟩; simp_all)).symm, by simp [hm]⟩
  · refine ⟨by simp [keeps_iff, acceptInput, deliverAll, updIcu], setInput_lengths _ _ _, fun x => ?_, by simp [hm, acceptInput, deliverAll, updIcu]⟩
    rw [if_pos rfl, acceptInput_inputOf]
    by_cases hx : x = i
    · simp [hx, hm]
    · simp [hx]

theorem foldl_meetLength (old : Icu) (l : List Input) (hl : l.Nodup) (s : State) :
    LengthsMet old l s (l.foldl (meetLength old) s) := by
  induction l generalizing s with
  | nil => exact ⟨keeps_refl _ _, ⟨rfl, rfl, rfl⟩, fun i => by simp, by simp⟩
  | cons i rest ih =>
    obtain ⟨hi, hrest⟩ := List.nodup_cons.1 hl
    have hfirst := lengthsMet_one old i s
    have hthen := ih hrest (meetLength old s i)
    have hne {x : Input} (hx : x ∈ rest) : x ≠ i := fun h => hi (h ▸ hx)
    have hsame {x : Input} (hx : x ∈ rest) : inputOf (meetLength old s i).icu x = inputOf s.icu x := by
      rw [hfirst.inputs x, if_neg (by simp [hne hx])]
    have hmeets {x : Input} (hx : x ∈ rest) : meetsLength old (meetLength old s i).icu x = meetsLength old s.icu x := by
      rw [meetLength_eq]
      split
      · exact meetsLength_acceptInput old s (hne hx)
      · rfl
    refine ⟨keeps_mono (keeps_trans hfirst.frame hthen.frame) (by decide), ?_, fun x => ?_, ?_⟩
    · obtain ⟨h1, h2, h3⟩ := hfirst.lengths
      obtain ⟨h4, h5, h6⟩ := hthen.lengths
      exact ⟨h4.trans h1, h5.trans h2, h6.trans h3⟩
    · rw [List.foldl_cons, hthen.inputs x]
      by_cases hx : x ∈ rest
      · simp [hx, hmeets hx, hsame hx]
      · simp [hx, hfirst.inputs x]
    · rw [List.foldl_cons, hthen.edges, hfirst.edges, List.flatMap_cons, List.append_assoc]
      congr 1
      rw [List.flatMap_cons, List.flatMap_nil, List.append_nil]
      congr 1
      exact List.flatMap_congr fun x hx => by rw [hmeets hx, hsame hx]

theorem meetsLength_stopped {old c : Icu} {i : Input} (h : (inputOf c i).timer = none) : meetsLength old c i = false := by
  simp [meetsLength, timerReached, h]

theorem meetsLength_running {old c : Icu} {i : Input} {e : Nat} (h : (inputOf c i).timer = some e) :
    meetsLength old c i = true ↔ filterLength c i ≠ filterLength old i ∧ filterLength c i * 200 ≤ e := by
  rw [meetsLength, Bool.and_eq_true, decide_eq_true_iff, timerReached, h]
  exact and_congr_right fun _ => decide_eq_true_iff

theorem newLengths_inputOf (s : State) (cause : LengthCause) (c : Icu) (i : Input) :
    inputOf (newLengths s cause c) i = inputOf c i := by
  cases cause <;> cases i <;> rfl

/-- Settles O8. -/
theorem filterLengthChangeJudgesRunningTimers : Obligations.FilterLengthChangeJudgesRunningTimers := by
  intro cause s
  let c := newLengths s cause s.icu
  let t : State := { take (.filterLengthChange cause) s with icu := c }
  let u := allInputs.foldl (meetLength s.icu) t
  have hmet : LengthsMet s.icu allInputs t u := foldl_meetLength _ _ (by decide) _
  obtain ⟨hhold, hbay, hhousing⟩ := hmet.lengths
  have hlength (i : Input) : filterLength u.icu i = filterLength c i := by simp only [filterLength, hbay, hhousing]; rfl
  have hinput (i : Input) : inputOf c i = inputOf s.icu i := newLengths_inputOf s cause s.icu i
  have hall (i : Input) : i ∈ allInputs := by cases i <;> decide
  refine ⟨u, exec_effect (by simp) s, ?_, ?_, ?_, ?_, fun i => ?_, ?_⟩
  · exact keeps_mono (keeps_trans (show KeepsAllBut [.icu, .delivered] s t by simp [keeps_iff, t]) hmet.frame) (by decide)
  · rintro rfl
    exact ⟨hhold, hbay, hhousing⟩
  · rintro rfl
    exact ⟨hhold, hbay, hhousing⟩
  · rintro rfl
    exact ⟨hhold, hbay, hhousing⟩
  · rw [hmet.inputs i, hlength]
    cases htimer : (inputOf s.icu i).timer with
    | none =>
      have hstopped : ¬(i ∈ allInputs ∧ meetsLength s.icu c i = true) := by
        simp [meetsLength_stopped ((congrArg InputState.timer (hinput i)).trans htimer)]
      rw [if_neg hstopped]
      exact hinput i
    | some e =>
      exact if_congr ((and_iff_right (hall i)).trans (meetsLength_running ((congrArg InputState.timer (hinput i)).trans htimer)))
        (congrArg InputState.accepted (hinput i)) (hinput i)
  · rw [hmet.edges]
    refine congrArg _ (List.flatMap_congr fun i _ => ?_)
    rw [hlength]
    cases htimer : (inputOf s.icu i).timer with
    | none => exact if_neg (Bool.eq_false_iff.1 (meetsLength_stopped ((congrArg InputState.timer (hinput i)).trans htimer)))
    | some e =>
      exact if_congr (meetsLength_running ((congrArg InputState.timer (hinput i)).trans htimer))
        (congrArg (edgesOf i ·.raw) (hinput i)) rfl

end Sys2Proof.Machine
end

section
/-! PROOFS. The shock monitor's samples and the end of an event (chapters 7 and 8). -/

namespace Sys2Proof.Machine

/-! ### A sample taken (R128, R129) -/

/-- The state as a sample reaches the monitor's rules: the silence timer has restarted. -/
def sampled (s : State) : State := { s with shm := { s.shm with silence := some 0 } }

theorem exec_accelSample {x y z : Int} {m2 : Nat} {s : State} (hs : s.settling = none) (hm : m2 = (x * x + y * y + z * z).toNat) :
    exec (.accelSample x y z) s = .next (finish (forwardMotion x y z (takeSample m2 (sampled s)))) := by
  subst hm
  rw [exec_effect (by simp)]
  simp only [effect, afterSettle, hs]
  rfl

theorem bandOf_freeFall {s : State} {m2 : Nat} (h : m2 < paramN s 0 ^ 2) : bandOf s m2 = .freeFall := if_pos h

theorem bandOf_middle {s : State} {m2 : Nat} (h : paramN s 0 ^ 2 ≤ m2) (h3 : m2 < paramN s 3 ^ 2) : bandOf s m2 = .middle := by
  rw [bandOf, if_neg (Nat.not_lt.2 h), if_pos h3]

theorem bandOf_impact {s : State} {m2 : Nat} (h : paramN s 0 ^ 2 ≤ m2) (h3 : paramN s 3 ^ 2 ≤ m2) : bandOf s m2 = .impact := by
  rw [bandOf, if_neg (Nat.not_lt.2 h), if_neg (Nat.not_lt.2 h3)]

theorem bandOf_impact_iff (s : State) (m2 : Nat) : bandOf s m2 = .impact ↔ paramN s 0 ^ 2 ≤ m2 ∧ paramN s 3 ^ 2 ≤ m2 := by
  unfold bandOf
  split_ifs with h h3
  · simp [h]
  · simp [h3]
  · simpa using ⟨Nat.not_lt.1 h, Nat.not_lt.1 h3⟩

theorem testWindow_running {s : State} (h : s.shm.window < paramN s 4) : testWindow s = s := if_neg (Nat.not_le.2 h)

/-- A sample in IMPACT is counted before the window is tested. -/
theorem sampleImpact_counted (m2 : Nat) (s : State) : sampleImpact m2 s = testWindow { s with
    shm := { s.shm with
      window := s.shm.window + 1, peakM2 := max s.shm.peakM2 m2,
      impacts := if paramN s 0 ^ 2 ≤ m2 ∧ paramN s 3 ^ 2 ≤ m2 then s.shm.impacts + 1 else s.shm.impacts } } := by
  have hhit : (bandOf s m2 == .impact) = true ↔ paramN s 0 ^ 2 ≤ m2 ∧ paramN s 3 ^ 2 ≤ m2 := by
    rw [beq_iff_eq, bandOf_impact_iff]
  simp only [sampleImpact, updShm, hhit]

/-- An event that begins outside another one delivers the hold's start. -/
theorem deliverHoldStart_quiet {s : State} (h : s.shm.state.isEvent = false) :
    deliverHoldStart s = { s with delivered := s.delivered ++ [.filterLengthChange .holdStart, .ppcShockHoldStart] } := by
  simp [deliverHoldStart, shockHold, h, deliver]

/-- Settles O36. -/
theorem accelSamplesWatchAndMeasure : Obligations.AccelSamplesWatchAndMeasure := by
  refine ⟨fun x y z m2 s hs hm => ?_, fun x y z m2 s hs hm => ?_⟩
  · have answers {v : State} (h : takeSample m2 (sampled s) = v) :
        exec (.accelSample x y z) s = .next (finish (forwardMotion x y z v)) := h ▸ exec_accelSample hs hm
    refine ⟨fun hd => answers (by simp [takeSample, sampled, hd]), fun hi => ?_⟩
    have hidle : takeSample m2 (sampled s) = sampleIdle m2 (sampled s) := by simp [takeSample, sampled, hi]
    have hquiet : (sampled s).shm.state.isEvent = false := by simp [sampled, hi, ShmState.isEvent]
    refine ⟨fun h0 hq => answers (hidle.trans ?_), fun h0 h3 => answers (hidle.trans ?_), fun h0 hq => answers (hidle.trans ?_),
      fun h0 h3 hw => answers (hidle.trans ?_)⟩
    · simp only [sampleIdle, bandOf_freeFall (s := sampled s) h0]
      exact if_neg (Nat.not_le.2 hq)
    · simp only [sampleIdle, bandOf_middle (s := sampled s) h0 h3]
      rfl
    · simp only [sampleIdle, bandOf_freeFall (s := sampled s) h0]
      rw [if_pos (by exact hq)]
      simp only [beginEvent, deliverHoldStart_quiet hquiet]
      rfl
    · simp only [sampleIdle, bandOf_impact (s := sampled s) h0 h3]
      have hbegin : beginEvent .impact 0 m2 (sampled s) = updShm (beginRecord .impact 0 m2 (takeSnapshot s))
          { sampled s with delivered := s.delivered ++ [.filterLengthChange .holdStart, .ppcShockHoldStart] } := by
        simp only [beginEvent, deliverHoldStart_quiet hquiet]
        rfl
      rw [hbegin, testWindow_running (by exact hw)]
      rfl
  · have answers {m : Shm} (h : takeSample m2 (sampled s) = { s with shm := m }) :
        exec (.accelSample x y z) s = .next (finish (forwardMotion x y z { s with shm := m })) := h ▸ exec_accelSample hs hm
    refine ⟨fun hf => ?_, fun hi hw => answers ?_⟩
    · have hfall : takeSample m2 (sampled s) = sampleFalling m2 (sampled s) := by simp [takeSample, sampled, hf]
      refine ⟨fun h0 => answers (hfall.trans ?_), fun h0 h3 hg => answers (hfall.trans ?_), fun h0 h3 hw => answers (hfall.trans ?_)⟩
      · simp only [sampleFalling, bandOf_freeFall (s := updShm _ (sampled s)) h0]
        rfl
      · simp only [sampleFalling, bandOf_middle (s := updShm _ (sampled s)) h0 h3]
        exact if_neg (Nat.not_lt.2 hg)
      · simp only [sampleFalling, bandOf_impact (s := updShm _ (sampled s)) h0 h3]
        exact testWindow_running (by exact hw)
    · have himpact : takeSample m2 (sampled s) = sampleImpact m2 (sampled s) := by simp [takeSample, sampled, hi]
      rw [himpact, sampleImpact_counted, testWindow_running (by exact hw)]
      rfl

/-! ### The window's end (R136 to R138, R153, R157) -/

/-- With no valid entry an event is class 255 and its class asks for the log alone. -/
theorem classify_default {s : State} (h : ∀ e ∈ s.ts.t2.active, e.valid = false) (o : HandOver) :
    classify s o = ⟨255, 0, true, false, false, false⟩ := by
  have hsearch (i : Nat) (l : List ClassEntry) (hl : ∀ e ∈ l, e.valid = false) : classifyFrom o i l = ⟨255, 0, true, false, false, false⟩ := by
    induction l generalizing i with
    | nil => rfl
    | cons e rest ih =>
      obtain ⟨he, hrest⟩ := List.forall_mem_cons.1 hl
      simp [classifyFrom, ClassEntry.accepts, he, ih (i + 1) hrest]
  exact hsearch 0 _ h

/-- With no valid entry an event is stored and nothing else is done. -/
theorem takeEvent_default {s : State} (h : ∀ e ∈ s.ts.t2.active, e.valid = false) (hseq : s.dl.nextSequence < sequenceLimit)
    (o : HandOver) : takeEvent o s = (keepRecord (newRecord s o ⟨255, 0, true, false, false, false⟩) s, false) := by
  have hstore : storeEvent o ⟨255, 0, true, false, false, false⟩ s = keepRecord (newRecord s o ⟨255, 0, true, false, false, false⟩) s :=
    if_pos (by simpa using hseq)
  simp only [takeEvent, classify_default h, hstore]
  rfl

/-- A record that is not preserved joins a log with room at its end. -/
theorem storeRecord_room {r : DropRecord} {log : List DropRecord} (hr : r.preserved = false) (h : log.length < 32) :
    storeRecord r log = log ++ [r] := by
  simp [storeRecord, hr, Nat.not_le.2 h]

/-- A raise reads the link and the tables alone, and changes the link alone. -/
theorem raise_change (n : Notice) {s t : State} (hlu : t.lu = s.lu) (hts : t.ts = s.ts) :
    raise n t = { t with lu := (raise n s).lu } := by
  rw [raise_eq n t, raise_lu_congr n hlu (by rw [hts])]

theorem updShm_raise (n : Notice) (f : Shm → Shm) (s : State) : updShm f (raise n s) = raise n (updShm f s) := by
  rw [raise_eq n s, raise_change n (s := s) (t := updShm f s) rfl rfl]
  rfl

/-- Settles O37. -/
theorem windowEndRecordsEvent : Obligations.WindowEndRecordsEvent := by
  intro x y z m2 c o s hs hm hi hw hc ho hclass hseq hroom impacts record
  have himpact : takeSample m2 (sampled s) = sampleImpact m2 (sampled s) := by simp [takeSample, sampled, hi]
  let counted : State := { s with shm := { s.shm with
    silence := some 0, window := s.shm.window + 1, peakM2 := max s.shm.peakM2 m2, impacts := impacts } }
  have hcounted : sampleImpact m2 (sampled s) = windowEnd counted := by
    rw [sampleImpact_counted]
    exact if_pos hw
  have hrecord : newRecord counted (handOverOf counted o impacts false) ⟨255, 0, true, false, false, false⟩ = record := by
    simp only [newRecord, handOverOf, eventSnapshot, counted, hc]
    rfl
  have htaken : takeEvent (handOverOf counted o impacts false) counted = (raise (.dropRecorded record) { counted with
      dl := { s.dl with
        log := s.dl.log ++ [record], nextSequence := s.dl.nextSequence + 1, openReference := some s.dl.nextSequence } }, false) := by
    have hstore : storeRecord record s.dl.log = s.dl.log ++ [record] := storeRecord_room rfl hroom
    rw [takeEvent_default (s := counted) hclass hseq, hrecord, keepRecord, ← hstore]
    rfl
  have hwindow : windowEnd counted = enterSettling (updShm (fun m => { m with handedOver := true, quiesceKept := m.quiesceKept || false })
      (raise (.dropRecorded record) { counted with
        dl := { s.dl with
          log := s.dl.log ++ [record], nextSequence := s.dl.nextSequence + 1, openReference := some s.dl.nextSequence } })) := by
    rw [windowEnd, show counted.shm.outcome = some o from ho, Option.getD_some, handOver, htaken]
  rw [exec_accelSample hs hm, himpact, hcounted, hwindow, enterSettling, updShm_raise, updShm_raise]
  simp only [updShm, Bool.or_false]
  rfl

/-! ### The log's limits (R155) -/

theorem giveUpOldest_append {before after : List DropRecord} {x : DropRecord} (hb : ∀ y ∈ before, y.preserved = false)
    (hx : x.preserved = true) : giveUpOldest (before ++ x :: after) = before ++ { x with preserved := false } :: after := by
  induction before with
  | nil => simp [giveUpOldest, hx]
  | cons y rest ih =>
    obtain ⟨hy, hrest⟩ := List.forall_mem_cons.1 hb
    simp [giveUpOldest, hy, ih hrest]

theorem evictOldest_append {before after : List DropRecord} {x : DropRecord} (hb : ∀ y ∈ before, y.preserved = true)
    (hx : x.preserved = false) : evictOldest (before ++ x :: after) = before ++ after := by
  induction before with
  | nil => simp [evictOldest, hx]
  | cons y rest ih =>
    obtain ⟨hy, hrest⟩ := List.forall_mem_cons.1 hb
    simp [evictOldest, hy, ih hrest]

/-- With fewer than 16 preserved records, or none to add, no record loses the flag. -/
theorem storeRecord_within {r : DropRecord} {log : List DropRecord} (h : r.preserved = false ∨ log.countP DropRecord.preserved < 16) :
    storeRecord r log = (if 32 ≤ log.length then evictOldest log else log) ++ [r] := by
  have hkeep : ¬(r.preserved && decide (16 ≤ preservedCount log)) = true := by
    rcases h with h | h
    · simp [h]
    · simp [preservedCount, Nat.not_le.2 h]
  simp only [storeRecord, if_neg hkeep]

/-- With 16 preserved records the oldest of them loses the flag first. -/
theorem storeRecord_beyond {r : DropRecord} {log : List DropRecord} (hr : r.preserved = true)
    (h : 16 ≤ log.countP DropRecord.preserved) :
    storeRecord r log = (if 32 ≤ (giveUpOldest log).length then evictOldest (giveUpOldest log) else giveUpOldest log) ++ [r] := by
  have hgive : (r.preserved && decide (16 ≤ preservedCount log)) = true := by simp [hr, preservedCount, h]
  simp only [storeRecord, if_pos hgive]

/-! ### The close (R139, R140, R159) -/

/-- The end of an event, with no pending swap of table 2 (R140). -/
theorem leaveEvent_eq {s : State} (h : s.ts.t2.pending = false) (e : Ending) (st : ShmState) :
    leaveEvent e st s = raise (.shockHoldEnd e s.shm.outcome s.shm.quiesceKept) { s with
      shm := { s.shm with
        state := st, qualify := 0, settleTimer := none, outcome := none, quiesceLine := s.shm.quiesceKept },
      delivered := s.delivered ++ [.filterLengthChange .holdDrop, .ppcShockHoldEnd] } := by
  rw [leaveEvent, enterQuiet_eq (by exact h)]
  simp only [dropHold, updShm_raise]
  simp [updShm, deliver]

theorem closeRecord_none {s : State} (h : s.dl.openReference = none) (e : Ending) : closeRecord e s = s := by
  simp [closeRecord, h]

theorem effect_settleTimeout {s : State} (h : s.shm.state = .settling) :
    exec .settleTimeout s = .next (finish (leaveEvent .unsettled .idle (closeRecord .unsettled s))) := by
  rw [exec_effect (by simp)]
  simp [effect, settleExpired, h, closeEvent]

/-- Settles O38. -/
theorem dropLogKeepsLimitsAndCompletes : Obligations.DropLogKeepsLimitsAndCompletes := by
  refine ⟨fun r log => ⟨fun hwithin => ⟨fun hroom => ?_, fun before after x hfull hlog hx hb => ?_⟩,
    fun before after x hr hkept hlog hx hb => ?_⟩, fun n s hs hn hswap => ?_⟩
  · rw [storeRecord_within hwithin, if_neg (Nat.not_le.2 hroom)]
  · rw [storeRecord_within hwithin, if_pos hfull, hlog, evictOldest_append hb hx]
  · have hgiven : giveUpOldest log = before ++ { x with preserved := false } :: after := hlog ▸ giveUpOldest_append hb hx
    rw [storeRecord_beyond hr hkept, length_giveUpOldest, hgiven]
    refine ⟨fun hroom => ?_, fun hfull hne => ?_, fun hfull hempty => ?_⟩
    · rw [if_neg (Nat.not_le.2 hroom)]
    · obtain ⟨y, rest, rfl⟩ := List.exists_cons_of_ne_nil hne
      obtain ⟨hy, -⟩ := List.forall_mem_cons.1 hb
      simp [hfull, evictOldest, hy]
    · subst hempty
      simp [hfull, evictOldest]
  · rw [effect_settleTimeout hs, leaveEvent_eq]
    · simp [closeRecord, hn, updDl, completedRecord]
    · simpa [closeRecord, hn] using hswap

/-- Settles O39. -/
theorem eventsCloseOrSensorIsLost : Obligations.EventsCloseOrSensorIsLost := by
  refine ⟨fun s hs hopen hswap => ⟨?_, fun x y z m2 hsettle hm hband hlow hhigh hrest => ?_⟩, fun e s he hswap => ⟨fun hd => ?_, fun hi => ?_, fun hf => ?_⟩⟩
  · rw [effect_settleTimeout hs, closeRecord_none hopen, leaveEvent_eq hswap]
  · have hisRest : isRest (sampled s) m2 = true := by
      have h6 : paramN (sampled s) 5 ^ 2 ≤ m2 ∧ m2 ≤ paramN (sampled s) 6 ^ 2 := ⟨hlow, hhigh⟩
      simp [isRest, h6]
    have hsample : takeSample m2 (sampled s) = closeEvent .settled .idle (updShm (fun m => { m with rest := m.rest + 1 }) (sampled s)) := by
      have hend : paramN (sampled s) 7 ≤ (sampled s).shm.rest + 1 := hrest
      simp [takeSample, sampleSettling, hisRest, hend, show (sampled s).shm.state = .settling from hs, updShm]
    rw [exec_accelSample hsettle hm, hsample, closeEvent, closeRecord_none (by exact hopen), leaveEvent_eq (by exact hswap)]
    rfl
  all_goals
    have hsilent : exec .sampleSilenceTimeout s = .next (finish (sensorLost { s with
        shm := { s.shm with silence := some (max e (ms 50)) } })) := by
      rw [exec_effect (by simp)]
      simp only [effect, samplesSilent, he]
      rfl
    rw [hsilent]
  · rcases hd with hd | hd <;> simp [sensorLost, hd]
  · simp only [sensorLost, hi]
    rw [enterQuiet_eq (by exact hswap)]
  · simp only [sensorLost, hf]
    rw [leaveEvent_eq (by exact hswap)]

end Sys2Proof.Machine
end

section
/-! PROOFS. How the bay bus's transactions end, its timers, and a bay's removal (chapter 3). -/

namespace Sys2Proof.Machine

/-! ### Writes discarded (R65) -/

/-- Discarding writes reads the link and the tables alone, and changes the link alone. -/
theorem discardWrites_change (l : List PostedWrite) {s t : State} (hlu : t.lu = s.lu) (hts : t.ts = s.ts) :
    l.foldl discardWrite t = { t with lu := (l.foldl discardWrite s).lu } := by
  induction l generalizing s t with
  | nil => simp [← hlu]
  | cons w rest ih =>
    have hraise := raise_change (.writeDiscarded w.segment w.command) hlu hts
    simp only [List.foldl_cons, discardWrite]
    rw [ih (s := raise (.writeDiscarded w.segment w.command) s) (raise_lu_congr _ hlu (by rw [hts])) (by simp [hts]), hraise]

/-- A removal once nothing is in flight on the segment (R65). -/
theorem discardWrites_eq (g : Segment) (s : State) :
    discardWrites g s = { s with
      bbc := { s.bbc with posted := s.bbc.posted.filter fun w => w.segment != g },
      lu := ((s.bbc.posted.filter fun w => w.segment == g).foldl discardWrite s).lu } := by
  simp only [discardWrites]
  exact discardWrites_change (s := s) (t := updBbc _ s) _ rfl rfl

theorem removeWaiting_eq (g : Segment) (d : DeferredRead) :
    removeWaiting g d = if d.segment = g ∧ d.state = .waiting then { d with state := .done .removed [] 0 } else d := rfl

/-- What is left of a removal once the transaction in flight on the segment has ended (R65). -/
theorem segmentRemoved_eq (b : Bay) (s : State) : segmentRemoved b s =
    let t := stopOnSegment (segmentOf b) s
    { t with
      bbc := { t.bbc with
        bays := t.bbc.bays.set b { busOf t b with sequence := none, pollTimer := none, pollDue := false },
        deferred := t.bbc.deferred.map (removeWaiting (segmentOf b)),
        posted := t.bbc.posted.filter fun w => w.segment != segmentOf b },
      lu := ((t.bbc.posted.filter fun w => w.segment == segmentOf b).foldl discardWrite t).lu } := by
  simp only [segmentRemoved, discardWrites_eq]
  rw [discardWrites_change (s := stopOnSegment (segmentOf b) s)]
  · rfl
  · rfl
  · rfl

theorem stopOnSegment_other {g : Segment} {s : State} (h : ∀ t, s.bbc.inFlight = some t → t.segment ≠ g) : stopOnSegment g s = s := by
  unfold stopOnSegment
  split
  case h_1 t ht => exact if_neg (h t ht)
  case h_2 => rfl

/-- What a removal leaves when it has stopped a transaction of the segment. -/
theorem stopOnSegment_owner {g : Segment} {t : Transaction} {s : State} (ht : s.bbc.inFlight = some t) (hseg : t.segment = g) :
    stopOnSegment g s = routeResult t.owner ⟨.removed, []⟩ (freeBus s) := by
  simp [stopOnSegment, ht, hseg, endWith]

/-- Settles O21. -/
theorem removalClearsSegment : Obligations.RemovalClearsSegment := by
  intro b s
  let taken := take (.bbcPresFalling b) s
  refine ⟨fun hfree => ⟨_, exec_effect (by simp) s, ?_⟩, fun t d ht hseg howner hd hstate => ⟨_, exec_effect (by simp) s, ?_⟩,
    fun t w ht hseg howner hw => ⟨_, exec_effect (by simp) s, ?_⟩⟩
  · have hstop : stopOnSegment (segmentOf b) taken = taken := stopOnSegment_other hfree
    simp only [effect, segmentRemoved_eq]
    rw [hstop]
    refine ⟨by simp [keeps_iff, taken], rfl, rfl, ?_⟩
    rw [show (taken.bbc.posted.filter fun w => w.segment == segmentOf b).foldl discardWrite taken = _ from
      discardWrites_change (s := s) _ rfl rfl]
    rfl
  · have hstop : stopOnSegment (segmentOf b) taken = { taken with
        bbc := { s.bbc with inFlight := none, deferred := some { d with state := .done .removed [] 0 } } } := by
      rw [stopOnSegment_owner (s := taken) ht hseg, howner]
      simp [routeResult, deferredEnded, freeBus, updBbc, readDone, taken, hd]
    simp only [effect, segmentRemoved_eq]
    rw [hstop]
    exact ⟨by simp [keeps_iff, taken], by simp [removeWaiting, busOf]⟩
  · have hstop : stopOnSegment (segmentOf b) taken = { taken with
        bbc := { s.bbc with inFlight := none, posted := [] },
        lu := (raise (.writeFailed w.segment w.command .removed) s).lu } := by
      have hended : postedEnded ⟨.removed, []⟩ (freeBus taken) = raise (.writeFailed w.segment w.command .removed) { taken with
          bbc := { s.bbc with inFlight := none, posted := [] } } := by
        simp [postedEnded, freeBus, updBbc, raiseIf, taken, hw]
      rw [stopOnSegment_owner (s := taken) ht hseg, howner]
      exact hended.trans (raise_change (s := s) _ rfl rfl)
    simp only [effect, segmentRemoved_eq]
    rw [hstop]
    exact ⟨by simp [keeps_iff, taken], rfl, rfl⟩

/-! ### The end of a transaction (R48, R49, R55, R58, R59, R62, R64) -/

theorem exec_transactionEnd {t : Transaction} {reply : BusReply} {e : Ended} {s : State} (ht : s.bbc.inFlight = some t)
    (he : replyResult t.op reply = some e) :
    exec (.transactionEnd reply) s = .next (finish (routeResult t.owner e (freeBus s))) := by
  rw [exec_effect (by simp)]
  simp [effect, transactionReply, ht, he, endWith]

theorem exec_transactionTimeout {t : Transaction} {s : State} (ht : s.bbc.inFlight = some t) :
    exec .transactionTimeout s = .next (finish (routeResult t.owner ⟨.timeout, []⟩ (freeBus s))) := by
  rw [exec_effect (by simp)]
  simp [effect, transactionTimedOut, ht, endWith]

/-- A read whose bytes sum to 0 ends DONE with them. -/
theorem replyResult_good {op : BusOp} {code : Nat} {bytes : List Byte} (hop : op = .read code bytes.length) (h : byteSum bytes = 0) :
    replyResult op (.accepted bytes) = some ⟨.done, bytes⟩ := by
  simp [hop, replyResult, h]

theorem replyResult_bad {op : BusOp} {code : Nat} {bytes : List Byte} (hop : op = .read code bytes.length) (h : byteSum bytes ≠ 0) :
    replyResult op (.accepted bytes) = some ⟨.badCheck, []⟩ := by
  simpa [hop, replyResult] using h

theorem replyResult_refused (op : BusOp) : replyResult op .refused = some ⟨.nak, []⟩ := by cases op <;> rfl

theorem deferredEnded_eq {d : DeferredRead} {s : State} (hd : s.bbc.deferred = some d) (e : Ended) :
    deferredEnded e (freeBus s) = { s with
      bbc := { s.bbc with inFlight := none, deferred := some { d with state := .done e.result e.bytes 0 } } } := by
  simp [deferredEnded, freeBus, updBbc, readDone, hd]

@[simp] theorem bayOf_updBbc (f : Bbc → Bbc) (s : State) (b : Bay) : bayOf (updBbc f s) b = bayOf s b := rfl

/-- A traffic frame reads the link and the tables alone, and changes the link alone. -/
theorem handTraffic_change (f : Traffic) {s t : State} (hlu : t.lu = s.lu) (hts : t.ts = s.ts) :
    handTraffic f t = { t with lu := (handTraffic f s).lu } := by
  have hsame : trafficDiscarded f t = trafficDiscarded f s := by
    unfold trafficDiscarded
    rw [hlu]
    split <;> simp only [paramN_congr hts]
  simp only [handTraffic, hsame]
  split
  · rw [← hlu]
  · rw [hlu]

/-- Settles O22. -/
theorem transactionResultsReachTheirRequesters : Obligations.TransactionResultsReachTheirRequesters := by
  refine ⟨⟨fun t d code reply bytes s ht howner hop hd hreply => ?_, fun t w rest command value bytes s ht howner hop hw => ⟨?_, ?_⟩⟩,
    ⟨fun b t code bytes tel s ht howner hop hsum htel => ?_, fun b t q code bytes id s ht howner hop hsum hq hcand hid => ?_⟩⟩
  · rcases hreply with rfl | rfl
    · rw [exec_transactionEnd ht (replyResult_refused _), howner]
      simp [routeResult, deferredEnded_eq hd]
    · by_cases hsum : byteSum bytes = 0
      · rw [exec_transactionEnd ht (replyResult_good hop hsum), howner]
        simp [routeResult, deferredEnded_eq hd, hsum]
      · rw [exec_transactionEnd ht (replyResult_bad hop hsum), howner]
        simp only [routeResult, deferredEnded_eq hd, reduceCtorEq, if_false, if_neg hsum]
  · rw [exec_transactionEnd ht (e := ⟨.done, []⟩) (by simp [hop, replyResult]), howner]
    simp [routeResult, postedEnded, freeBus, updBbc, hw, raiseIf]
  · rw [exec_transactionEnd ht (replyResult_refused _), howner]
    simp [routeResult, postedEnded, freeBus, updBbc, hw, raiseIf]
  · refine ⟨_, exec_transactionEnd ht (replyResult_good hop hsum), ?_⟩
    rw [howner]
    simp only [routeResult, pollEnded, htel, if_true, pollDelivered, clearLost]
    rw [handTraffic_change (s := s) _ (by simp [tellBudget, freeBus]) (by simp [tellBudget, freeBus])]
    refine ⟨by simp [keeps_iff, tellBudget, freeBus], ?_, by simp [tellBudget, freeBus, busOf], by simp [OnlyBayRecord, tellBudget, freeBus, bayOf],
      by simp [tellBudget, freeBus, bayOf], rfl⟩
    cases hlost : (bayOf s b).telemetryLost <;> simp [tellBudget, tellBudgetIf, freeBus, hlost]
  · rw [exec_transactionEnd ht (replyResult_good hop hsum), howner]
    have hseq : (s.bbc.bays.get b).sequence = some q := hq
    simp [routeResult, identifyEnded, hseq, sequenceStep, hcand, hid, setSequence, updBus, freeBus, updBbc, busOf]

/-! ### Timers (R48, R55, R57, R59, R62) -/

/-- A failed attempt is followed by the next one, or after the third by the outcome for the PPC. -/
theorem attemptFailed_eq (b : Bay) (q : IdSequence) (r : TxResult) (s : State) : attemptFailed b q r s = { s with
    bbc := { s.bbc with
      bays := s.bbc.bays.set b { busOf s b with sequence := if q.attempt < 3 then some ⟨q.attempt + 1, none⟩ else none } },
    delivered := if q.attempt < 3 then s.delivered else s.delivered ++ [.ppcIdentificationOutcome b (.failed r)] } := by
  by_cases h : q.attempt < 3
  · simp [attemptFailed, h, Nat.not_le.2 h, setSequence, updBus, busOf]
  · simp [attemptFailed, h, Nat.not_lt.1 h, setSequence, updBus, busOf, deliver]

theorem sequenceStep_timeout (b : Bay) (q : IdSequence) (s : State) :
    sequenceStep b q ⟨.timeout, []⟩ s = attemptFailed b q .timeout s := by
  cases h : q.candidate <;> simp [sequenceStep, h, checkedResult]

theorem pollEnded_timeout (b : Bay) (s : State) : pollEnded b ⟨.timeout, []⟩ s = pollFailed b s := by simp [pollEnded]

/-- The third failed poll of a bay with no active session (R59). -/
theorem loseTelemetry_idle {b : Bay} {s : State} (h : sessionActive s b = false) : loseTelemetry b s =
    tellBudget (raise (.telemetryLost b) (updBay b (fun r => { r with telemetryLost := true }) s)) := by
  have hidle : sessionActive (tellBudget (raise (.telemetryLost b) (updBay b (fun r => { r with telemetryLost := true }) s))) b = false := by
    rw [← h]
    exact sessionActive_congr (by simp [tellBudget]) b
  simp [loseTelemetry, hidle]

/-- Settles O23. -/
theorem busTimersExpire : Obligations.BusTimersExpire := by
  refine ⟨fun t s ht => ⟨fun d howner hd => ?_, fun b q howner hq => ?_, fun b howner hpolls hidle => ?_⟩,
    fun b e s he => ?_, fun g code length r bytes e s hd => ?_, fun g code length s hd => ?_⟩
  · rw [exec_transactionTimeout ht, howner]
    simp only [routeResult, deferredEnded_eq hd]
  · have hseq : (busOf (freeBus s) b).sequence = some q := hq
    rw [exec_transactionTimeout ht, howner]
    simp only [routeResult, identifyEnded, hseq, reduceCtorEq, if_false, sequenceStep_timeout, attemptFailed_eq]
    rfl
  · refine ⟨_, exec_transactionTimeout ht, ?_⟩
    rw [howner]
    simp only [routeResult, pollEnded_timeout, pollFailed]
    have hfailed : (busOf (freeBus s) b).failedPolls = (busOf s b).failedPolls := rfl
    by_cases h2 : (busOf s b).failedPolls = 2
    · rw [hfailed, if_pos h2, loseTelemetry_idle (by exact hidle)]
      refine ⟨by simp [tellBudget, freeBus, busOf], fun _ => ⟨by simp [keeps_iff, tellBudget, freeBus], ?_, ?_, ?_, ?_⟩,
        fun h => absurd h2 h⟩
      · simp [OnlyBayRecord, tellBudget, freeBus, bayOf]
      · simp [tellBudget, freeBus, bayOf]
      · exact raise_lu_congr _ rfl rfl
      · simp [tellBudget, freeBus]
    · rw [hfailed, if_neg h2]
      exact ⟨rfl, fun h => absurd h h2, fun _ => by simp [keeps_iff, freeBus]⟩
  · rw [exec_effect (by simp)]
    simp only [effect, pollExpired, he]
    rfl
  · rw [exec_effect (by simp)]
    simp [effect, deferredExpired, hd, updBbc]
  · rw [exec_effect (by simp)]
    rcases hd with hd | hd <;> simp [effect, deferredExpired, hd]

end Sys2Proof.Machine
end

section
/-! PROOFS. Tables written, applied and swapped (chapter 9). -/

namespace Sys2Proof.Machine

/-! ### Numbers read from bytes and written back (R181, R183) -/

theorem byte1_toNat (b : Byte) : byte1 b.toNat = [b] := by simp [byte1]

theorem le2_lt (b0 b1 : Byte) : le2 b0 b1 < 65536 := by
  unfold le2
  omega

theorem byte2_le2 (b0 b1 : Byte) : byte2 (le2 b0 b1) = [b0, b1] := by
  have h0 : BitVec.ofNat 8 (le2 b0 b1) = b0 := by
    unfold le2
    bv_omega
  have h1 : BitVec.ofNat 8 (le2 b0 b1 / 256) = b1 := by
    unfold le2
    bv_omega
  rw [byte2, h0, h1]

theorem byte4_le4 (b0 b1 b2 b3 : Byte) : byte4 (le4 b0 b1 b2 b3) = [b0, b1, b2, b3] := by
  have hlow : byte2 (le4 b0 b1 b2 b3) = byte2 (le2 b0 b1) := by
    unfold byte2 le4
    refine congrArg₂ (fun x y => [x, y]) ?_ ?_ <;> bv_omega
  have hhigh : le4 b0 b1 b2 b3 / 65536 = le2 b2 b3 := by
    have := le2_lt b0 b1
    unfold le4
    omega
  rw [byte4, hlow, hhigh, byte2_le2, byte2_le2]
  rfl

theorem byte2s_signed16 (b0 b1 : Byte) : byte2s (signed16 (le2 b0 b1)) = [b0, b1] := by
  have hback : (signed16 (le2 b0 b1) % 65536).toNat = le2 b0 b1 := by
    have := le2_lt b0 b1
    unfold signed16
    split <;> omega
  rw [byte2s, hback, byte2_le2]

theorem markByte_of_readYesNo {b : Byte} {v : Bool} (h : readYesNo b = some v) : markByte v = [b] := by
  unfold readYesNo at h
  split_ifs at h with h0 h1
  · cases h
    rw [h0]
    rfl
  · cases h
    rw [h1]
    rfl

theorem byte1_of_readTernary {b : Byte} {c : Ternary} (h : readTernary b = some c) : byte1 c.code = [b] := by
  unfold readTernary at h
  split_ifs at h with h0 h1 h2
  all_goals cases h
  · rw [h0]
    rfl
  · rw [h1]
    rfl
  · rw [h2]
    rfl

/-- A byte below 16 is the set byte of its four low bits. -/
theorem setByte_low {b : Byte} (h : b.toNat < 16) : setByte [b.getLsbD 0, b.getLsbD 1, b.getLsbD 2, b.getLsbD 3] = [b] := by
  obtain ⟨n, hn, rfl⟩ : ∃ n < 16, b = BitVec.ofNat 8 n := ⟨b.toNat, h, (BitVec.ofNat_toNat 8 b).symm.trans (by simp)⟩
  interval_cases n <;> rfl

/-! ### Entries read and written back (R171, R190) -/

theorem pointBytes_of_readPoint {bytes : List Byte} {p : Nat × Nat} (h : readPoint bytes = some p) : pointBytes p = bytes := by
  unfold readPoint at h
  split at h
  case h_1 b0 b1 b2 b3 l0 l1 =>
    simp only at h
    split_ifs at h
    cases h
    rw [pointBytes, byte4_le4, byte2_le2]
    rfl
  case h_2 => cases h

theorem countBytes_of_readCount {bytes : List Byte} {n : Nat} (h : readCount bytes = some n) : byte4 n ++ byte2 0 = bytes := by
  unfold readCount at h
  split at h
  case h_1 b0 b1 b2 b3 l0 l1 =>
    split_ifs at h with hr
    cases h
    rw [byte4_le4, ← hr.2, byte2_le2]
    rfl
  case h_2 => cases h

theorem readConditions_some {f l d c a b : Byte} {f' l' d' c' a' b' : Ternary}
    (h : readConditions f l d c a b = some (f', l', d', c', a', b')) : readTernary f = some f' ∧ readTernary l = some l'
      ∧ readTernary d = some d' ∧ readTernary c = some c' ∧ readTernary a = some a' ∧ readTernary b = some b' := by
  simp only [readConditions, bind, Option.bind_eq_some_iff, pure] at h
  obtain ⟨f', hf, l', hl, d', hd, c', hc, a', ha, b', hb, hx⟩ := h
  cases hx
  exact ⟨hf, hl, hd, hc, ha, hb⟩

theorem classBytes_of_readClass {bytes : List Byte} {e : ClassEntry} (h : readClass bytes = some e) : classBytes e = bytes := by
  unfold readClass at h
  split at h
  case h_2 => cases h
  split at h
  case h_2 => cases h
  case h_1 hv hx =>
    simp only at h
    split_ifs at h with hr
    cases h
    obtain ⟨hf, hl, hd, hc, ha, hb⟩ := readConditions_some hx
    simp only [classBytes, ClassEntry.actionByte, markByte_of_readYesNo hv, byte2_le2, byte1_of_readTernary hf, byte1_of_readTernary hl,
      byte1_of_readTernary hd, byte1_of_readTernary hc, byte1_of_readTernary ha, byte1_of_readTernary hb, byte1_toNat, setByte_low hr.2]
    rfl

theorem profileBytes_of_readProfile {bytes : List Byte} {p : Profile} (h : readProfile bytes = some p) : profileBytes p = bytes := by
  unfold readProfile at h
  split at h
  case h_2 => cases h
  split at h
  case h_2 => cases h
  case h_1 hv =>
    simp only at h
    split_ifs at h with hr
    cases h
    simp only [profileBytes, markByte_of_readYesNo hv, byte1_toNat, byte2_le2, byte2s_signed16]
    rfl

theorem levelBytes_of_readLevel {index v : Nat} {bytes : List Byte} (h : readLevel index bytes = some v) : byte1 v = bytes := by
  unfold readLevel at h
  split at h
  case h_2 => cases h
  split_ifs at h
  cases h
  exact byte1_toNat _

/-! ### Which entries may be staged (R76, R108, R152, R171) -/

theorem readYesNo_isSome (b : Byte) : (readYesNo b).isSome ↔ b.toNat ≤ 1 := by
  unfold readYesNo
  split_ifs with h0 h1
  · simp [h0]
  · simp [h1]
  · simp only [Option.isSome_none, Bool.false_eq_true, false_iff]
    bv_omega

theorem readTernary_isSome (b : Byte) : (readTernary b).isSome ↔ b.toNat ≤ 2 := by
  unfold readTernary
  split_ifs with h0 h1 h2
  · simp [h0]
  · simp [h1]
  · simp [h2]
  · simp only [Option.isSome_none, Bool.false_eq_true, false_iff]
    bv_omega

theorem readConditions_isSome (f l d c a b : Byte) :
    (readConditions f l d c a b).isSome ↔ ∀ x ∈ [f, l, d, c, a, b], x.toNat ≤ 2 := by
  simp only [List.forall_mem_cons, List.not_mem_nil, false_imp_iff, implies_true, and_true, ← readTernary_isSome, readConditions, bind,
    pure, Option.isSome_iff_exists, Option.bind_eq_some_iff]
  constructor
  · rintro ⟨-, f', hf, l', hl, d', hd, c', hc, a', ha, b', hb, -⟩
    exact ⟨⟨f', hf⟩, ⟨l', hl⟩, ⟨d', hd⟩, ⟨c', hc⟩, ⟨a', ha⟩, ⟨b', hb⟩⟩
  · rintro ⟨⟨f', hf⟩, ⟨l', hl⟩, ⟨d', hd⟩, ⟨c', hc⟩, ⟨a', ha⟩, ⟨b', hb⟩⟩
    exact ⟨_, f', hf, l', hl, d', hd, c', hc, a', ha, b', hb, rfl⟩

/-- A point or the count of table 1 that may be staged (R108). -/
theorem readCurve_isSome (ts : TableStore) (index : Nat) (b0 b1 b2 b3 l0 l1 : Byte) :
    (stageEntry ts 1 index [b0, b1, b2, b3, l0, l1]).isSome ↔ EntryInRange 1 index [b0, b1, b2, b3, l0, l1] := by
  unfold stageEntry EntryInRange
  by_cases h : index = 16
  · simp [h, readCount, countInRange, and_assoc]
  · simp [h, readPoint, pointInRange]

theorem readClass_isSome (v h0 h1 g0 g1 p0 p1 q0 q1 f l d c a b severity actions : Byte) :
    (readClass [v, h0, h1, g0, g1, p0, p1, q0, q1, f, l, d, c, a, b, severity, actions]).isSome ↔
      v.toNat ≤ 1 ∧ (∀ x ∈ [f, l, d, c, a, b], x.toNat ≤ 2) ∧ severity.toNat ≤ 3 ∧ actions.toNat ≤ 15 := by
  rw [← readYesNo_isSome, ← readConditions_isSome]
  have hle (x y : Byte) : le2 x y ≤ 65535 := Nat.le_of_lt_succ (le2_lt x y)
  cases hv : readYesNo v with
  | none => simp [readClass, hv]
  | some valid =>
    cases hx : readConditions f l d c a b with
    | none => simp [readClass, hv, hx]
    | some x =>
      simp [readClass, hv, hx, classInRange, hle]
      omega

theorem readProfile_isSome (v chemistry a0 a1 b0 b1 c0 c1 d0 d1 v0 v1 w0 w1 e0 e1 l0 l1 h0 h1 m0 m1 : Byte) :
    (readProfile [v, chemistry, a0, a1, b0, b1, c0, c1, d0, d1, v0, v1, w0, w1, e0, e1, l0, l1, h0, h1, m0, m1]).isSome ↔
      EntryInRange 3 0 [v, chemistry, a0, a1, b0, b1, c0, c1, d0, d1, v0, v1, w0, w1, e0, e1, l0, l1, h0, h1, m0, m1] := by
  change _ ↔ v.toNat ≤ 1 ∧ _
  rw [← readYesNo_isSome]
  have hle (x y : Byte) : le2 x y ≤ 65535 := Nat.le_of_lt_succ (le2_lt x y)
  cases hv : readYesNo v with
  | none => simp [readProfile, hv]
  | some valid => simp [readProfile, hv, profileInRange, hle, and_assoc]

/-- An entry of tables 1 to 4 is staged exactly where its fields are in range. -/
theorem stageEntry_isSome {table index : Nat} {entry : List Byte} (ts : TableStore) (h1 : 1 ≤ table) (h4 : table ≤ 4)
    (hlen : entry.length = entryLength table) : (stageEntry ts table index entry).isSome ↔ EntryInRange table index entry := by
  obtain rfl | rfl | rfl | rfl : table = 1 ∨ table = 2 ∨ table = 3 ∨ table = 4 := by omega
  · match entry, hlen with
    | [b0, b1, b2, b3, l0, l1], _ => exact readCurve_isSome ts index b0 b1 b2 b3 l0 l1
  · match entry, hlen with
    | [v, h0, h1, g0, g1, p0, p1, q0, q1, f, l, d, c, a, b, severity, actions], _ =>
      rw [stageEntry, Option.isSome_map]
      exact readClass_isSome v h0 h1 g0 g1 p0 p1 q0 q1 f l d c a b severity actions
  · match entry, hlen with
    | [v, chemistry, a0, a1, b0, b1, c0, c1, d0, d1, v0, v1, w0, w1, e0, e1, l0, l1, h0, h1, m0, m1], _ =>
      rw [stageEntry, Option.isSome_map]
      exact readProfile_isSome v chemistry a0 a1 b0 b1 c0 c1 d0 d1 v0 v1 w0 w1 e0 e1 l0 l1 h0 h1 m0 m1
  · match entry, hlen with
    | [level], _ => simp [stageEntry, readLevel, levelInRange, EntryInRange]

/-! ### What a staged entry leaves (R170, R178) -/

/-- A write of one entry into staging: the entry reads back as written, and every other entry and mark is as it was. -/
structure Staged (ts u : TableStore) (table index : Nat) (entry : List Byte) : Prop where
  readsBack : entryBytes u table index true = entry
  keeps : ∀ t i : Nat, t ≤ 4 → entryBytes u t i false = entryBytes ts t i false ∧ pendingMark u t = pendingMark ts t
  others : ∀ t i : Nat, t ≤ 4 → i < entryCount t → (t ≠ table ∨ i ≠ index) → entryBytes u t i true = entryBytes ts t i true
  params : u.t0.active = ts.t0.active

theorem getD_set_self {α : Type} {l : List α} {i : Nat} (h : i < l.length) (v d : α) : (l.set i v).getD i d = v := by
  simp [List.getD, h]

theorem getD_set_other {α : Type} (l : List α) {i j : Nat} (h : j ≠ i) (v d : α) : (l.set i v).getD j d = l.getD j d := by
  simp [List.getD, List.getElem?_set_ne h.symm]

theorem stageEntry_staged {s : State} (hs : TablesSound s) {table index : Nat} {entry : List Byte} {u : TableStore} (h1 : 1 ≤ table)
    (h4 : table ≤ 4) (hi : index < entryCount table) (h : stageEntry s.ts table index entry = some u) :
    Staged s.ts u table index entry := by
  obtain ⟨-, hlevels, -, hpoints, -, -, hclasses, -, -, -, hprofiles, -⟩ := hs
  obtain rfl | rfl | rfl | rfl : table = 1 ∨ table = 2 ∨ table = 3 ∨ table = 4 := by omega
  · by_cases h16 : index = 16
    · rw [stageEntry, if_pos h16] at h
      obtain ⟨n, hn, rfl⟩ := Option.map_eq_some_iff.1 h
      refine ⟨?_, fun t i ht => ⟨?_, ?_⟩, fun t i ht hit hne => ?_, rfl⟩
      · exact (if_pos h16).trans (countBytes_of_readCount hn)
      · unfold entryBytes; split <;> rfl
      · unfold pendingMark; split <;> rfl
      · unfold entryBytes
        split
        case h_2 =>
          have hi16 : i ≠ 16 := h16 ▸ hne.resolve_left (· rfl)
          simp only [curveEntryBytes, if_neg hi16]
          rfl
        all_goals rfl
    · rw [stageEntry, if_neg h16] at h
      obtain ⟨p, hp, rfl⟩ := Option.map_eq_some_iff.1 h
      have hlt : index < s.ts.t1.staging.points.length := by
        have : index < 17 := hi
        omega
      refine ⟨?_, fun t i ht => ⟨?_, ?_⟩, fun t i ht hit hne => ?_, rfl⟩
      · exact (if_neg h16).trans ((congrArg pointBytes (getD_set_self hlt p _)).trans (pointBytes_of_readPoint hp))
      · unfold entryBytes; split <;> rfl
      · unfold pendingMark; split <;> rfl
      · unfold entryBytes
        split
        case h_2 => exact if_congr Iff.rfl rfl (congrArg pointBytes (getD_set_other _ (hne.resolve_left (· rfl)) p _))
        all_goals rfl
  · obtain ⟨e, he, rfl⟩ := Option.map_eq_some_iff.1 h
    refine ⟨?_, fun t i ht => ⟨?_, ?_⟩, fun t i ht hit hne => ?_, rfl⟩
    · exact (congrArg classBytes (getD_set_self (hclasses ▸ hi) e _)).trans (classBytes_of_readClass he)
    · unfold entryBytes; split <;> rfl
    · unfold pendingMark; split <;> rfl
    · unfold entryBytes
      split
      case h_3 => exact congrArg classBytes (getD_set_other _ (hne.resolve_left (· rfl)) e _)
      all_goals rfl
  · obtain ⟨p, hp, rfl⟩ := Option.map_eq_some_iff.1 h
    refine ⟨?_, fun t i ht => ⟨?_, ?_⟩, fun t i ht hit hne => ?_, rfl⟩
    · exact (congrArg profileBytes (getD_set_self (hprofiles ▸ hi) p _)).trans (profileBytes_of_readProfile hp)
    · unfold entryBytes; split <;> rfl
    · unfold pendingMark; split <;> rfl
    · unfold entryBytes
      split
      case h_4 => exact congrArg profileBytes (getD_set_other _ (hne.resolve_left (· rfl)) p _)
      all_goals rfl
  · obtain ⟨v, hv, rfl⟩ := Option.map_eq_some_iff.1 h
    obtain ⟨hlen, -⟩ := hlevels _ (Or.inr rfl)
    refine ⟨?_, fun t i ht => ⟨?_, ?_⟩, fun t i ht hit hne => ?_, rfl⟩
    · exact (congrArg byte1 (getD_set_self (hlen ▸ hi) v _)).trans (levelBytes_of_readLevel hv)
    · unfold entryBytes; split <;> rfl
    · unfold pendingMark; split <;> rfl
    · rcases Nat.lt_or_eq_of_le ht with hless | rfl
      · interval_cases t <;> rfl
      · exact congrArg byte1 (getD_set_other _ (hne.resolve_left (· rfl)) v _)

/-! ### TABLE_WRITE (R170) -/

section
variable {table index : Nat} {entry : List Byte} {s : State}

theorem writeEntry_badIndex (ht : table ≤ 4) (hi : entryCount table ≤ index) : writeEntry table index entry s = answer .badIndex [] s := by
  rw [writeEntry, if_neg (Nat.not_lt.2 ht), if_pos hi]

theorem writeEntry_badLength (ht : table ≤ 4) (hi : index < entryCount table) (hlen : entry.length ≠ entryLength table) :
    writeEntry table index entry s = answer .badLength [] s := by
  rw [writeEntry, if_neg (Nat.not_lt.2 ht), if_neg (Nat.not_le.2 hi), if_pos hlen]

theorem writeEntry_busy (ht : table ≤ 4) (hi : index < entryCount table) (hlen : entry.length = entryLength table)
    (hp : pendingMark s.ts table = true) : writeEntry table index entry s = answer .busy [] s := by
  rw [writeEntry, if_neg (Nat.not_lt.2 ht), if_neg (Nat.not_le.2 hi), if_neg (not_not.2 hlen), if_pos hp]

theorem writeEntry_outOfRange (ht : table ≤ 4) (hi : index < entryCount table) (hlen : entry.length = entryLength table)
    (hp : pendingMark s.ts table = false) (h : stageEntry s.ts table index entry = none) :
    writeEntry table index entry s = answer .badValue [] s := by
  rw [writeEntry, if_neg (Nat.not_lt.2 ht), if_neg (Nat.not_le.2 hi), if_neg (not_not.2 hlen), if_neg (Bool.eq_false_iff.1 hp), h]

theorem writeEntry_stored (ht : table ≤ 4) (hi : index < entryCount table) (hlen : entry.length = entryLength table)
    (hp : pendingMark s.ts table = false) {u : TableStore} (h : stageEntry s.ts table index entry = some u) :
    writeEntry table index entry s = answer .ok (entryBytes u table index true) { s with ts := u } := by
  rw [writeEntry, if_neg (Nat.not_lt.2 ht), if_neg (Nat.not_le.2 hi), if_neg (not_not.2 hlen), if_neg (Bool.eq_false_iff.1 hp), h]

end

/-- The value a write of table 0 stores, where no limit of P23 is met. -/
theorem readParam_plain {index : Nat} {b0 b1 b2 b3 : Byte} (h : index ≠ 23 ∨ signed32 (le4 b0 b1 b2 b3) ≤ 16) :
    readParam index [b0, b1, b2, b3] =
      if paramInRange index (signed32 (le4 b0 b1 b2 b3)) then some (signed32 (le4 b0 b1 b2 b3)) else none := by
  have hplain : ¬(index = 23 ∧ 16 < signed32 (le4 b0 b1 b2 b3)) := by omega
  simp only [readParam, if_neg hplain]

/-- A write of P23 above 16 stores 16 (R171). -/
theorem readParam_limited {b0 b1 b2 b3 : Byte} (h : 16 < signed32 (le4 b0 b1 b2 b3)) : readParam 23 [b0, b1, b2, b3] = some 16 := by
  simp only [readParam, true_and, if_pos h]
  rfl

/-- Settles O43. -/
theorem tableWriteStagesEntry : Obligations.TableWriteStagesEntry := by
  intro tag table index entry s hlink c received
  have request {st : Status} {r : List Byte} {v : State}
      (h : writeEntry table.toNat index.toNat entry (acceptFrame received) = answer st r v) :
      exec c s = .next (finish (respond tag 0x10 st r v)) := exec_request hlink (by simp [c]) rfl h
  refine ⟨fun ht => request (if_pos ht), fun ht hi => request (writeEntry_badIndex ht hi), fun ht hi =>
    ⟨fun hlen => request (writeEntry_badLength ht hi hlen), fun hlen => ⟨fun hp => request (writeEntry_busy ht hi hlen hp), fun hp => ?_⟩⟩⟩
  have outOfRange (h : stageEntry s.ts table.toNat index.toNat entry = none) :
      exec c s = .next (finish (answered tag 0x10 .badValue [] received)) :=
    request (writeEntry_outOfRange (s := acceptFrame received) ht hi hlen hp h)
  have stored {u : TableStore} (h : stageEntry s.ts table.toNat index.toNat entry = some u) (hparams : u.t0.active = s.ts.t0.active) :
      exec c s = .next (finish (answered tag 0x10 .ok (entryBytes u table.toNat index.toNat true) { received with ts := u })) := by
    have hrequest := request (writeEntry_stored (s := acceptFrame received) ht hi hlen hp h)
    rw [acceptFrame_tables (s := received) hparams] at hrequest
    exact hrequest
  refine ⟨fun b0 b1 b2 b3 v htable hentry hv => ⟨fun hv16 => ⟨fun hbad => ?_, fun hgood => ?_⟩, fun h23 hbig hlength => ?_⟩,
    fun htable hbad => ?_, fun htable hgood hsound => ?_⟩
  · subst htable hentry hv
    exact outOfRange (by simp [stageEntry, readParam_plain hv16, hbad])
  · subst htable hentry hv
    have hstage : stageEntry s.ts 0 index.toNat [b0, b1, b2, b3] =
        some { s.ts with t0 := s.ts.t0.stage fun l => l.set index.toNat (signed32 (le4 b0 b1 b2 b3)) } := by
      simp [stageEntry, readParam_plain hv16, hgood]
    exact stored hstage rfl
  · subst htable hentry hv
    have hstage : stageEntry s.ts 0 index.toNat [b0, b1, b2, b3] = some { s.ts with t0 := s.ts.t0.stage fun l => l.set 23 16 } := by
      simp [stageEntry, h23, readParam_limited hbig]
    have hbytes : entryBytes { s.ts with t0 := s.ts.t0.stage fun l => l.set 23 16 } 0 index.toNat true = byte4s 16 :=
      h23 ▸ congrArg byte4s (getD_set_self (by omega) 16 0)
    exact hbytes ▸ stored hstage rfl
  · have hsome := stageEntry_isSome (index := index.toNat) s.ts (show 1 ≤ table.toNat by bv_omega) ht hlen
    exact outOfRange (Option.not_isSome_iff_eq_none.1 fun h => hbad (hsome.1 h))
  · have h1 : 1 ≤ table.toNat := by bv_omega
    obtain ⟨u, hu⟩ := Option.isSome_iff_exists.1 ((stageEntry_isSome (index := index.toNat) s.ts h1 ht hlen).2 hgood)
    obtain ⟨hback, hkeeps, hothers, hparams⟩ := stageEntry_staged hsound h1 ht hi hu
    exact ⟨u, hback ▸ stored hu hparams, hback, hkeeps, hothers⟩

end Sys2Proof.Machine
end

section
/-! PROOFS. Applying a table (chapter 9): the first entry that fails validation, and the swap of each table. -/

namespace Sys2Proof.Machine

/-! ### The first bad entry (R172) -/

section
variable {α : Type} {good : Nat → α → Bool}

theorem firstBad_at {k i : Nat} {l : List α} (d : α) (hi : i < l.length) (hbad : good (k + i) (l.getD i d) = false)
    (hbefore : ∀ j < i, good (k + j) (l.getD j d) = true) : firstBad good k l = some (k + i) := by
  induction l generalizing k i with
  | nil => exact absurd hi (Nat.not_lt_zero i)
  | cons x rest ih =>
    cases i with
    | zero =>
      have hx : good k x = false := hbad
      simp [firstBad, hx]
    | succ i =>
      have hx : good k x = true := hbefore 0 i.succ_pos
      have hrest : firstBad good (k + 1) rest = some (k + 1 + i) := by
        refine ih (Nat.lt_of_succ_lt_succ hi) ?_ fun j hj => ?_
        · rw [Nat.add_right_comm]
          exact hbad
        · rw [Nat.add_right_comm]
          exact hbefore (j + 1) (Nat.succ_lt_succ hj)
      rw [firstBad, hx, hrest, Nat.add_right_comm]
      rfl

theorem firstBad_good {k : Nat} {l : List α} (d : α) (h : ∀ j < l.length, good (k + j) (l.getD j d) = true) :
    firstBad good k l = none := by
  induction l generalizing k with
  | nil => rfl
  | cons x rest ih =>
    have hx : good k x = true := h 0 rest.length.succ_pos
    rw [firstBad, hx]
    refine ih fun j hj => ?_
    rw [Nat.add_right_comm]
    exact h (j + 1) (Nat.succ_lt_succ hj)

end

section
variable {α : Type} {good : α → Bool}

theorem firstBad_append {before after : List α} {x : α} (hb : ∀ y ∈ before, good y = true) (hx : good x = false) (k : Nat) :
    firstBad (fun _ => good) k (before ++ x :: after) = some (k + before.length) := by
  induction before generalizing k with
  | nil => simp [firstBad, hx]
  | cons y rest ih =>
    obtain ⟨hy, hrest⟩ := List.forall_mem_cons.1 hb
    simp only [List.cons_append, firstBad, hy, ih hrest, if_true, List.length_cons, Option.some.injEq]
    omega

theorem firstBad_all {l : List α} (h : ∀ y ∈ l, good y = true) (k : Nat) : firstBad (fun _ => good) k l = none := by
  induction l generalizing k with
  | nil => rfl
  | cons y rest ih =>
    obtain ⟨hy, hrest⟩ := List.forall_mem_cons.1 h
    simp [firstBad, hy, ih hrest]

end

/-! ### The curve's points (R108, R172) -/

/-- Points in range that rise from the one before pass, and the search goes on behind them. -/
theorem badPoint_append {l rest : List (Nat × Nat)} (i : Nat) (previous : Option (Nat × Nat)) (hrange : ∀ p ∈ l, p.1 ≤ 131071 ∧ p.2 ≤ 1000)
    (hfirst : ∀ p ∈ l.head?, ∀ q ∈ previous, q.1 < p.1 ∧ q.2 ≤ p.2) (hlux : (l.map Prod.fst).Pairwise (· < ·))
    (hlevel : (l.map Prod.snd).Pairwise (· ≤ ·)) :
    badPoint i previous (l ++ rest) = badPoint (i + l.length) (l.getLast?.or previous) rest := by
  induction l generalizing i previous with
  | nil => rfl
  | cons p l ih =>
    obtain ⟨hp, hrest⟩ := List.forall_mem_cons.1 hrange
    obtain ⟨hpl, hlux⟩ := List.pairwise_cons.1 hlux
    obtain ⟨hpv, hlevel⟩ := List.pairwise_cons.1 hlevel
    have hnext : ∀ x ∈ l.head?, ∀ q ∈ some p, q.1 < x.1 ∧ q.2 ≤ x.2 := by
      intro x hx q hq
      obtain rfl : p = q := Option.some.inj hq
      have hmem : x ∈ l := List.mem_of_mem_head? hx
      exact ⟨hpl _ (List.mem_map_of_mem hmem), hpv _ (List.mem_map_of_mem hmem)⟩
    have hgood : pointInRange p = true := by simp [pointInRange, hp]
    have hlast : ((p :: l).getLast?.or previous) = (l.getLast?.or (some p)) := by
      rw [List.getLast?_cons]
      cases l.getLast? <;> rfl
    have hstep : badPoint i previous (p :: (l ++ rest)) = badPoint (i + 1) (some p) (l ++ rest) := by
      cases previous with
      | none => simp [badPoint, hgood]
      | some q => simp [badPoint, hgood, hfirst p (by simp) q rfl]
    rw [List.cons_append, hstep, ih (i + 1) (some p) hrest hnext hlux hlevel, hlast, List.length_cons, Nat.add_right_comm, Nat.add_assoc]

theorem badCurve_count {c : Curve} (h : c.count = 0 ∨ 16 < c.count) : badCurve c = some 16 := by
  have hcount : countInRange c.count = false := by
    simp only [countInRange, Bool.and_eq_false_iff, decide_eq_false_iff_not]
    omega
  simp [badCurve, hcount]

theorem badCurve_sound {c : Curve} (h : CurveSound c) : badCurve c = none := by
  obtain ⟨-, h1, h16, hrange, hlux, hlevel⟩ := h
  have hall := badPoint_append (rest := []) 0 none hrange (by simp) hlux hlevel
  rw [List.append_nil] at hall
  simp [badCurve, countInRange, h1, h16, hall, badPoint]

/-- The first point that does not follow the point before it. -/
theorem badCurve_point {c : Curve} {before after : List (Nat × Nat)} {p q : Nat × Nat} (h1 : 1 ≤ c.count) (h16 : c.count ≤ 16)
    (hused : c.used = before ++ p :: q :: after) (hrange : ∀ x ∈ before ++ [p, q], x.1 ≤ 131071 ∧ x.2 ≤ 1000)
    (hlux : ((before ++ [p]).map Prod.fst).Pairwise (· < ·)) (hlevel : ((before ++ [p]).map Prod.snd).Pairwise (· ≤ ·))
    (hbad : q.1 ≤ p.1 ∨ q.2 < p.2) : badCurve c = some (before.length + 1) := by
  have hgood : ∀ x ∈ before ++ [p], x.1 ≤ 131071 ∧ x.2 ≤ 1000 := fun x hx => hrange x (by
    simp only [List.mem_append, List.mem_cons, List.not_mem_nil] at hx ⊢
    tauto)
  have hpoints : badPoint 0 none c.used = badPoint (0 + (before ++ [p]).length) ((before ++ [p]).getLast?.or none) (q :: after) := by
    rw [hused, ← badPoint_append 0 none hgood (by simp) hlux hlevel, List.append_assoc]
    rfl
  have hfollows : ¬(p.1 < q.1 ∧ p.2 ≤ q.2) := by omega
  simp [badCurve, countInRange, h1, h16, hpoints, badPoint, hfollows]

/-! ### TABLE_APPLY (R172 to R176) -/

section
variable {table : Nat} {s : State}

theorem applyTable_busy (ht : table ≤ 4) (hp : pendingMark s.ts table = true) : applyTable table s = answer .busy [] s := by
  rw [applyTable, if_neg (Nat.not_lt.2 ht), if_pos hp]

theorem applyTable_bad (ht : table ≤ 4) (hp : pendingMark s.ts table = false) {i : Nat} (h : firstBadEntry s.ts table = some i) :
    applyTable table s = answer .badTable (byte1 i) s := by
  rw [applyTable, if_neg (Nat.not_lt.2 ht), if_neg (Bool.eq_false_iff.1 hp), h]

theorem applyTable_good (ht : table ≤ 4) (hp : pendingMark s.ts table = false) (h : firstBadEntry s.ts table = none) :
    applyTable table s = answer .ok [] (applied table s) := by
  rw [applyTable, if_neg (Nat.not_lt.2 ht), if_neg (Bool.eq_false_iff.1 hp), h]

end

theorem deliverAll_raise (es : List Instr) (n : Notice) (s : State) : deliverAll es (raise n s) = raise n (deliverAll es s) := by
  rw [raise_eq n s, raise_change n (s := s) (t := deliverAll es s) rfl rfl]
  rfl

/-- A marked table 2 outside an event is swapped at once. -/
theorem applied_classes_quiet {s : State} (h : s.shm.state.isEvent = false) : applied 2 s =
    raise (.tableApplied 2) { s with ts := { s.ts with t2 := ⟨s.ts.t2.staging, s.ts.t2.staging, false⟩ } } := by
  simp only [applied, updTs_shm, h, swapClasses]
  rfl

theorem applied_classes_event {s : State} (h : s.shm.state.isEvent = true) : applied 2 s =
    { s with ts := { s.ts with t2 := { s.ts.t2 with pending := true } } } := by
  simp only [applied, updTs_shm, h]
  rfl

theorem applied_params (s : State) : applied 0 s = raise (.tableApplied 0) { s with
    ts := { s.ts with t0 := ⟨s.ts.t0.staging, s.ts.t0.staging, false⟩ },
    delivered := s.delivered ++ parameterBlocks.map fun b => .table0SwapDelivery b (changedParams s) } := by
  simp only [applied, swapParams, deliverAll_raise]
  rfl

theorem applied_profiles (s : State) : applied 3 s = raise (.tableApplied 3) { s with
    ts := { s.ts with t3 := ⟨s.ts.t3.staging, s.ts.t3.staging, false⟩ },
    delivered := s.delivered ++ [.table3SwapDelivery .cc, .table3SwapDelivery .bu] } := by
  simp only [applied, swapProfiles, deliverAll_raise]
  rfl

/-- Settles O44. -/
theorem tableApplySwapsOrWaits : Obligations.TableApplySwapsOrWaits := by
  intro tag table s hlink c taken answers
  have request {st : Status} {r : List Byte} {v : State} (h : applyTable table.toNat taken = answer st r v) : answers st r v :=
    exec_request hlink (by simp [c]) rfl h
  have bad {i : Nat} (ht : table.toNat ≤ 4) (hp : pendingMark s.ts table.toNat = false) (h : firstBadEntry s.ts table.toNat = some i) :
      answers .badTable (byte1 i) taken := request (applyTable_bad (s := taken) ht hp h)
  have good (ht : table.toNat ≤ 4) (hp : pendingMark s.ts table.toNat = false) (h : firstBadEntry s.ts table.toNat = none) :
      answers .ok [] (applied table.toNat taken) := request (applyTable_good (s := taken) ht hp h)
  refine ⟨fun ht => request (if_pos ht), fun ht hp => request (applyTable_busy (s := taken) ht hp), fun ht hp => ?_, fun ht hp => ?_,
    fun ht hp => ?_, fun ht hp => ?_, fun ht hp => ?_⟩
  all_goals subst ht
  · refine ⟨fun i hi hbad hbefore => bad (by decide) hp ?_, fun hgood => ⟨changedParams taken, fun i => ?_, ?_⟩⟩
    · exact (firstBad_at 0 hi (by simpa using hbad) (by simpa using hbefore)).trans (by simp)
    · simp [changedParams, taken]
    · exact applied_params taken ▸ good (by decide) hp (firstBad_good 0 (by simpa using hgood))
  · refine ⟨fun hcount => bad (by decide) hp (badCurve_count hcount), fun hsound => good (by decide) hp (badCurve_sound hsound),
      fun before after p q h1 h16 hused hrange hlux hlevel hbad => bad (by decide) hp ?_⟩
    exact badCurve_point h1 h16 hused hrange hlux hlevel hbad
  · refine ⟨fun before after e hstaging hb hvalid hpreserve hlog => bad (by decide) hp ?_, fun hgood => ⟨fun he => ?_, fun he => ?_⟩⟩
    · have hunsound : classSound e = false := by simp [classSound, hvalid, hpreserve, hlog]
      exact (congrArg (firstBad _ 0) hstaging).trans ((firstBad_append hb hunsound 0).trans (by simp))
    · exact applied_classes_event (s := taken) he ▸ good (by decide) hp (firstBad_all hgood 0)
    · exact applied_classes_quiet (s := taken) he ▸ good (by decide) hp (firstBad_all hgood 0)
  · refine ⟨fun before after p hstaging hb hvalid hcurrent => bad (by decide) hp ?_, fun hgood => ?_⟩
    · have hunsound : profileSound p = false := by simp [profileSound, hvalid, Nat.not_lt.2 hcurrent]
      exact (congrArg (firstBad _ 0) hstaging).trans ((firstBad_append hb hunsound 0).trans (by simp))
    · exact applied_profiles taken ▸ good (by decide) hp (firstBad_all hgood 0)
  · refine ⟨fun i hi hbad hbefore => bad (by decide) hp ?_, fun hgood => ?_⟩
    · exact (firstBad_at 0 hi (by simpa using hbad) (by simpa using hbefore)).trans (by simp)
    · exact good (by decide) hp (firstBad_good 0 (by simpa using hgood))

end Sys2Proof.Machine
end

section
/-! PROOFS. The power budget (chapter 5), and the samples and silences of the light and temperature sensors (chapter 6). -/

namespace Sys2Proof.Machine

/-! ### The case and the budget (R92 to R95) -/

theorem budgetCase_railOff {s : State} (h : s.ppc.railOn = false) : budgetCase s = .railOff := by simp [budgetCase, h]

theorem budgetCase_bridging {s : State} (h : s.ppc.railOn = true) (hf : anyFeeding s = false) : budgetCase s = .bridging := by
  simp [budgetCase, h, bridging, hf]

theorem budgetCase_dc {s : State} (h : s.ppc.railOn = true) (hdc : dcFeedsAlone s = true) : budgetCase s = .dc := by
  obtain ⟨⟨hswitch, hA⟩, hB⟩ : (s.ppc.dcSwitch = true ∧ (bayOf s .A).discharge = false) ∧ (bayOf s .B).discharge = false := by
    simpa [dcFeedsAlone] using hdc
  simp [budgetCase, h, bridging, anyFeeding, hswitch, hA, hB]

theorem budgetCase_bay {s : State} {b : Bay} (h : s.ppc.railOn = true) (hswitch : s.ppc.dcSwitch = false)
    (hb : (bayOf s b).discharge = true) (ho : (bayOf s b.other).discharge = false) :
    budgetCase s = if b = .A then .bayA else .bayB := by
  cases b
  · have hB : (bayOf s .B).discharge = false := ho
    simp [budgetCase, h, bridging, anyFeeding, hswitch, hb, hB]
  · have hA : (bayOf s .A).discharge = false := ho
    simp [budgetCase, h, bridging, anyFeeding, hswitch, hb, hA]

/-- A bay's allowance where its telemetry stands (R94). -/
theorem allowance_eq {s : State} {b : Bay} {t : Telemetry} (ht : (bayOf s b).telemetry = some t) : allowance s b =
    let base := t.voltage * ((bayProfile s b).map Profile.maxDischarge).getD 1000 / 1000
    let low := if t.charge < paramN s 31 then base / 2 else base
    if (bayOf s b).telemetryLost then low / 2 else low := by
  simp [allowance, lowCharge, chargeOf, dischargeCurrent, ht]

/-- The three conditions of the swap flag (R97). -/
theorem swapFlagOf_iff (s : State) :
    swapFlagOf s = true ↔ (∃ b, (bayOf s b).state = .releasing) ∨ bridging s = true ∨ s.ppc.forced.isSome := by
  have hbays : (∃ b, (bayOf s b).state = .releasing) ↔ (bayOf s .A).state = .releasing ∨ (bayOf s .B).state = .releasing :=
    ⟨fun ⟨b, h⟩ => match b with
      | .A => .inl h
      | .B => .inr h, fun h => h.elim (⟨_, ·⟩) (⟨_, ·⟩)⟩
  simp [swapFlagOf, swapConditions, hbays]

/-! ### A recomputation (R91, R96 to R99) -/

theorem publishIfChanged_eq (s : State) : publishIfChanged s = { s with
    bu := { s.bu with publishedCap := s.bu.powerCap, publishedSwap := s.bu.swapFlag },
    delivered := s.delivered ++
      (if s.bu.powerCap = s.bu.publishedCap ∧ s.bu.swapFlag = s.bu.publishedSwap then []
        else [.blcPublication s.bu.powerCap s.bu.swapFlag]) } := by
  by_cases h : s.bu.powerCap = s.bu.publishedCap ∧ s.bu.swapFlag = s.bu.publishedSwap
  · have hsame : { s.bu with publishedCap := s.bu.powerCap, publishedSwap := s.bu.swapFlag } = s.bu :=
      congrArg₂ (fun cap swap => { s.bu with publishedCap := cap, publishedSwap := swap }) h.1 h.2
    rw [publishIfChanged, if_pos h, if_pos h, hsame, List.append_nil]
  · rw [publishIfChanged, if_neg h, if_neg h]
    rfl

/-- The capped mark follows the comparison, and a changed mark is raised (R99). -/
theorem evaluateCapped_eq (s : State) : evaluateCapped s =
    raiseIf (decide (budgetCeiling s < s.bu.demand) != s.bu.capped)
      (.backlightCapped (decide (budgetCeiling s < s.bu.demand)) s.bu.demand s.bu.powerCap s.bu.swapFlag)
      { s with bu := { s.bu with capped := decide (budgetCeiling s < s.bu.demand) } } := rfl

theorem raiseIf_eq (c : Bool) (n : Notice) (s : State) : raiseIf c n s = { s with lu := (raiseIf c n s).lu } := by
  cases c
  · rfl
  · exact raise_eq n s

/-- The record and the deliveries after a recomputation. -/
theorem recomputeBudget_eq (s : State) : ∃ lu : Lu, recomputeBudget s = { s with
    bu := { s.bu with
      case := budgetCase s, budget := budgetOf s, derating := ⟨deratingField s .A, deratingField s .B⟩,
      powerCap := powerCapOf s (budgetOf s), swapFlag := swapFlagOf s,
      publishedCap := powerCapOf s (budgetOf s), publishedSwap := swapFlagOf s,
      capped := decide (max (paramN s 20) (if swapFlagOf s then min (powerCapOf s (budgetOf s)) (paramN s 21)
        else powerCapOf s (budgetOf s)) < s.bu.demand) },
    delivered := s.delivered ++
      (if powerCapOf s (budgetOf s) = s.bu.publishedCap ∧ swapFlagOf s = s.bu.publishedSwap then []
        else [.blcPublication (powerCapOf s (budgetOf s)) (swapFlagOf s)]),
    lu := lu } := by
  rw [recomputeBudget, publishIfChanged_eq, evaluateCapped_eq, raiseIf_eq]
  exact ⟨_, rfl⟩

/-- Settles O30. -/
theorem budgetRecomputedAndDemandCapped : Obligations.BudgetRecomputedAndDemandCapped := by
  refine ⟨fun s => ⟨_, exec_effect (by simp) s, ?_⟩, fun demand s below hbelow => ?_⟩
  · obtain ⟨lu, hu⟩ := recomputeBudget_eq (take .budgetRecompute s)
    rw [show effect .budgetRecompute s = _ from hu]
    have hbudget (c : BudgetCase) (h : budgetCase s = c) : budgetCase (take .budgetRecompute s) = c := h
    refine ⟨by simp [keeps_iff], fun hrail => ⟨budgetCase_railOff hrail, ?_⟩, fun hrail hfeed => ⟨budgetCase_bridging hrail hfeed, ?_⟩,
      fun hrail hdc => ⟨budgetCase_dc hrail hdc, ?_⟩, fun b t hrail hswitch hb ho ht => ⟨budgetCase_bay hrail hswitch hb ho, ?_⟩,
      rfl, ?_, rfl, rfl, rfl, rfl, ?_⟩
    · simp [budgetOf, hbudget _ (budgetCase_railOff hrail)]
    · simp [budgetOf, hbudget _ (budgetCase_bridging hrail hfeed)]
    · simp only [budgetOf, hbudget _ (budgetCase_dc hrail hdc)]
      rfl
    · have hcase := hbudget _ (budgetCase_bay hrail hswitch hb ho)
      cases b
      · simp only [budgetOf, hcase]
        exact allowance_eq (s := take .budgetRecompute s) ht
      · simp only [budgetOf, hcase]
        exact allowance_eq (s := take .budgetRecompute s) ht
    · exact swapFlagOf_iff s
    · exact decide_eq_true_iff
  · let asked : State := updBu (fun r => { r with demand := demand }) (take (.cappedEvaluation demand) s)
    have hdecide : decide (budgetCeiling asked < asked.bu.demand) = below := by
      rw [Bool.eq_iff_iff, hbelow, decide_eq_true_iff]
      rfl
    rw [exec_effect (by simp), show effect (.cappedEvaluation demand) s = _ from evaluateCapped_eq asked, hdecide]
    by_cases hsame : below = s.bu.capped
    · simp [raiseIf, hsame, asked]
    · simp [raiseIf, hsame, asked]

/-! ### A filter step (R101, R104, R106, R107, R111) -/

/-- The step of the filter for a delta, the shift named. -/
theorem filterDelta_eq {delta : Int} {rise fall k : Nat} (hk : k = if 0 < delta then rise else fall) :
    filterDelta delta rise fall =
      if delta = 0 then 0 else if delta.tdiv (2 ^ k) = 0 then delta.sign else delta.tdiv (2 ^ k) := by
  subst hk
  simp only [filterDelta]
  rcases lt_trichotomy delta 0 with h | rfl | h
  · simp only [h, h.ne, h.not_gt, if_true, if_false, Int.sign_eq_neg_one_of_neg h]
  · simp
  · simp only [h, h.ne', if_true, if_false, Int.sign_eq_one_of_pos h]

theorem heldNext_eq (c : Curve) (band tc th : Nat) : heldNext c band tc th =
    if band ≤ ((tc : Int) - th).natAbs ∨ (c.used.head?.map Prod.snd) = some tc ∨ (c.used.getLast?.map Prod.snd) = some tc then tc
    else th := by
  have hend : endLevel c tc = true ↔ (c.used.head?.map Prod.snd) = some tc ∨ (c.used.getLast?.map Prod.snd) = some tc := by
    simp [endLevel]
  simp only [← hend, heldNext]
  by_cases hband : band ≤ ((tc : Int) - th).natAbs
  · rw [if_pos hband, if_pos (.inl hband)]
  · by_cases hsame : tc = th
    · simp [hsame]
    · simp [hband, hsame]

/-- A stored sample in the record of its sensor. -/
theorem storeLight_eq (x : LightSensor) (lux : Nat) (saturated : Bool) (s : State) : storeLight x lux saturated s =
    let r : SensorRecord := ⟨some (if saturated then 131071 else lux), saturated, false, some 0⟩
    { s with blc := { s.blc with front := if x = .front then r else s.blc.front, rear := if x = .rear then r else s.blc.rear } } := by
  cases x <;> simp [storeLight, updBlc, setSensor]

theorem afterSettle_open {s : State} (h : s.settling = none) (f : State → State) : afterSettle f s = f s := by
  simp [afterSettle, h]

theorem exec_lightSample {x : LightSensor} {lux : Nat} {saturated : Bool} {s : State} (h : s.settling = none) :
    exec (.lightSample x lux saturated) s = .next (finish (takeLight x lux saturated s)) := by
  rw [exec_effect (by simp)]
  simp [effect, afterSettle, h]

/-- A front sample, or a rear one with the front failed, drives a filter step. -/
theorem takeLight_drives {x : LightSensor} {lux : Nat} {saturated : Bool} {s : State} (h : x = .front ∨ s.blc.front.failed = true) :
    takeLight x lux saturated s = filterStep x (storeLight x lux saturated s) := by
  unfold takeLight
  cases x
  case front => exact if_pos (Or.inl rfl)
  case rear => exact if_pos (Or.inr (h.resolve_left (by simp)))

/-- The filter, the curve level and the held target after a step, each number named. -/
theorem filterLight_eq {s : State} {e f k tc : Nat} {delta : Int} (he : fuse s = e) (hdelta : delta = 16 * (e : Int) - s.blc.filter)
    (hk : k = if 0 < delta then paramN s 24 else paramN s 25)
    (hf : (f : Int) = s.blc.filter + (if delta = 0 then 0
      else if delta.tdiv (2 ^ k) = 0 then delta.sign else delta.tdiv (2 ^ k)))
    (htc : tc = curveLevelAt s.ts.t1.active (f / 16)) : filterLight s = { s with
      blc := { s.blc with
        filter := f, curveLevel := tc,
        held := if paramN s 22 ≤ ((tc : Int) - s.blc.held).natAbs
            ∨ ((s.ts.t1.active.used.head?.map Prod.snd) = some tc ∨ (s.ts.t1.active.used.getLast?.map Prod.snd) = some tc) then tc
          else s.blc.held } } := by
  have hnext : filterNext s.blc.filter e (paramN s 24) (paramN s 25) = f := by
    rw [filterNext, ← hdelta, filterDelta_eq hk, ← hf]
    rfl
  simp only [filterLight, he, hnext, ← htc, heldNext_eq]
  rfl

/-- The thermal cap by the derate span, the two cases of no derating as one (R116). -/
theorem thermalCapFor_eq (s : State) (t : Int) : thermalCapFor s t =
    if param s 29 ≤ param s 28 ∨ t ≤ param s 28 then 1000
    else if param s 29 ≤ t then paramN s 30
    else 1000 - (1000 - paramN s 30) * (t - param s 28).toNat / (param s 29 - param s 28).toNat := by
  simp only [thermalCapFor]
  by_cases hspan : param s 29 ≤ param s 28
  · rw [if_pos hspan, if_pos (Or.inl hspan)]
  · rw [if_neg hspan]
    exact if_congr (by simp [hspan]) rfl rfl

/-- Settles O33. -/
theorem lightAndTemperatureAreSampled : Obligations.LightAndTemperatureAreSampled := by
  refine ⟨⟨fun x lux saturated s => ⟨fun hs => ?_, fun hs => ⟨fun hx hf => ?_, fun hx hswap front rear e f k delta hfront hrear he hdelta hk hf tc htc =>
    ⟨_, _, ?_, recomputeTarget_recomputes _, rfl⟩⟩⟩, fun e s => ⟨fun hsil => ⟨fun hf => ?_, fun hf => ?_⟩, fun hsil => ⟨fun hf => ?_, fun hf => ?_⟩⟩⟩,
    fun s => ⟨fun reading t cap hs ht hcap => ⟨_, exec_effect (by simp) s, ?_⟩, fun reading hs => ?_, fun e he => ⟨_, exec_effect (by simp) s, ?_⟩⟩⟩
  · rw [exec_effect (by simp)]
    simp [effect, afterSettle, hs]
  · subst hx
    rw [exec_lightSample hs, takeLight, storeLight_eq]
    simp [hf]
  · let stored : State := { s with blc := { s.blc with front := front, rear := rear } }
    have hstored : storeLight x lux saturated s = stored := by
      subst hfront hrear
      exact storeLight_eq x lux saturated s
    have hstep {v : State} (hv : filterLight stored = v) :
        filterStep x stored = handTraffic (lightFrame x (recomputeTarget v)) (recomputeTarget v) := by
      simp [filterStep, swapCurve, hswap, stored, ← hv]
    rw [exec_lightSample hs, takeLight_drives hx, hstored, hstep (filterLight_eq (s := stored) he.symm hdelta hk hf htc)]
    rfl
  · rw [exec_effect (by simp)]
    simp [effect, lightSilent, sensorOf, hsil, hf, failSensor, updBlc, setSensor, otherSensor]
  · rw [exec_effect (by simp)]
    simp [effect, lightSilent, sensorOf, hsil, hf]
  · rw [exec_effect (by simp)]
    simp [effect, lightSilent, sensorOf, hsil, hf, failSensor, updBlc, setSensor, otherSensor]
  · rw [exec_effect (by simp)]
    simp [effect, lightSilent, sensorOf, hsil, hf]
  · have htaken : effect (.temperatureSample reading) s = recomputeTarget { s with
        blc := { s.blc with temperature := some t, tempSilence := some 0, tempSilent := false, thermalCap := cap } } := by
      have hstored : clampInt (-400) 1250 reading = t := by
        rw [ht, clampInt]
        split_ifs <;> omega
      have hnow : thermalCapFor s t = cap := hcap ▸ thermalCapFor_eq s t
      rw [show effect (.temperatureSample reading) s = _ from afterSettle_open hs _, takeTemperature, hstored, ← hnow]
      rfl
    rw [htaken]
    exact recomputeTarget_recomputes _
  · rw [exec_effect (by simp)]
    simp [effect, afterSettle, hs]
  · have hsilent : effect .temperatureSilenceTimeout s = recomputeTarget { s with
        blc := { s.blc with tempSilence := some (max e (ms 3000)), tempSilent := true, thermalCap := paramN s 30 } } := by
      simp only [effect, temperatureSilent, he]
      rfl
    rw [hsilent]
    exact recomputeTarget_recomputes _

end Sys2Proof.Machine
end

section
/-! PROOFS. The pack memory and its requests (chapter 4). -/

namespace Sys2Proof.Machine

/-! ### An entry found by its serial -/

theorem findPack_none {memory : List PackEntry} {serial : Nat} (h : ∀ e ∈ memory, e.serial ≠ serial) : findPack memory serial = none := by
  simpa [findPack] using h

theorem findPack_append {before after : List PackEntry} {e : PackEntry} {serial : Nat} (he : e.serial = serial)
    (hb : ∀ x ∈ before, x.serial ≠ serial) : findPack (before ++ e :: after) serial = some e := by
  have hnone : before.find? (fun x => x.serial == serial) = none := by simpa using hb
  simp [findPack, hnone, he]

theorem filter_serial_append {before after : List PackEntry} {e : PackEntry} {serial : Nat} (he : e.serial = serial)
    (h : ∀ x ∈ before ++ after, x.serial ≠ serial) : (before ++ e :: after).filter (fun x => x.serial != serial) = before ++ after := by
  have hkeep : (before ++ after).filter (fun x => x.serial != serial) = before ++ after :=
    List.filter_eq_self.2 fun x hx => by simpa using h x hx
  rw [← hkeep]
  simp [he]

/-- The least recent entry that is not pinned leaves (R70). -/
theorem evict_append {isPinned : Nat → Bool} {before after : List PackEntry} {e : PackEntry} (he : isPinned e.serial = false)
    (ha : ∀ x ∈ after, isPinned x.serial = true) : evict isPinned (before ++ e :: after) = before ++ after := by
  induction before with
  | nil =>
    have hnone : after.any (fun x => !isPinned x.serial) = false := by simpa using ha
    simp [evict, hnone, he]
  | cons x rest ih =>
    have hlater : (rest ++ e :: after).any (fun y => !isPinned y.serial) = true := by simp [he]
    simp only [List.cons_append, evict, hlater, if_true, ih]

theorem pinned_iff (s : State) (serial : Nat) :
    pinned s serial = true ↔ ∃ b, (bayOf s b).state ≠ .empty ∧ (bayOf s b).identity.map Identity.serial = some serial := by
  have hpins (b : Bay) : pinsSerial s serial b = true ↔ (bayOf s b).state ≠ .empty ∧ (bayOf s b).identity.map Identity.serial = some serial := by
    simp [pinsSerial, serialOf]
  rw [pinned, Bool.or_eq_true, hpins, hpins]
  exact ⟨fun h => h.elim (⟨_, ·⟩) (⟨_, ·⟩), fun ⟨b, h⟩ => match b with
    | .A => .inl h
    | .B => .inr h⟩

theorem findPack_held {memory : List PackEntry} {serial : Nat} (h : ∃ e ∈ memory, e.serial = serial) :
    ∃ e ∈ memory, e.serial = serial ∧ findPack memory serial = some e := by
  obtain ⟨e, hfind⟩ : ∃ e, findPack memory serial = some e :=
    Option.isSome_iff_exists.1 (List.find?_isSome.2 (by simpa using h))
  exact ⟨e, List.mem_of_find?_eq_some hfind, by simpa using List.find?_some hfind, hfind⟩

/-- An unpinned entry loses its mark; one without the mark is left as it was. -/
theorem clearShock_unpinned {s : State} {serial : Nat} (hheld : ∃ e ∈ s.cc.memory, e.serial = serial) (hp : pinned s serial = false)
    (hnodup : (s.cc.memory.map PackEntry.serial).Nodup) (hclear : ∀ e ∈ s.cc.memory, e.shocked = false → e.shockSequence = none) :
    clearShock serial s = answer .ok [] { s with cc := { s.cc with
      memory := s.cc.memory.map fun e => if e.serial = serial then { e with shocked := false, shockSequence := none } else e } } := by
  obtain ⟨e, he, hserial, hfind⟩ := findPack_held hheld
  cases hshocked : e.shocked
  · have hsame : (s.cc.memory.map fun x => if x.serial = serial then { x with shocked := false, shockSequence := none } else x)
        = s.cc.memory := by
      refine (List.map_congr_left fun x hx => ?_).trans (List.map_id _)
      by_cases hx' : x.serial = serial
      · obtain rfl : x = e := List.inj_on_of_nodup_map hnodup hx he (hx'.trans hserial.symm)
        have hsequence := hclear x hx hshocked
        rw [if_pos hx']
        cases x
        simp_all
      · exact if_neg hx'
    simp [clearShock, hfind, hshocked, hsame]
  · simp [clearShock, hfind, hshocked, hp, updMemory, changeEntry]

/-- Settles O26. -/
theorem packMemoryKeepsAndAnswers : Obligations.PackMemoryKeepsAndAnswers := by
  refine ⟨fun b id charge s => ⟨by simp [keeps_iff], fun before after e hmem he hothers => ?_, fun fresh hfresh hnew => ⟨fun hroom => ?_,
    fun before after e hmem hfull he ha => ?_⟩⟩,
    fun tag s hlink => ⟨fun p => ⟨fun e he => exec_request hlink (by simp) rfl ?_, fun hp => exec_request hlink (by simp) rfl ?_⟩,
      fun b0 b1 b2 b3 serial hserial => ⟨fun hnone => ⟨exec_request hlink (by simp) rfl ?_, exec_request hlink (by simp) rfl ?_⟩,
        fun hheld => ⟨fun hpin => exec_request hlink (by simp) rfl ?_, fun hfree => ⟨exec_request hlink (by simp) rfl ?_,
          fun hnodup hclear => exec_request hlink (by simp) rfl ?_⟩⟩⟩⟩⟩
  · have hfound : findPack s.cc.memory id.serial = some e :=
      hmem ▸ findPack_append he fun x hx => hothers x (List.mem_append_left _ hx)
    have hrest : s.cc.memory.filter (fun x => x.serial != id.serial) = before ++ after := hmem ▸ filter_serial_append he hothers
    simp only [rememberPack, updMemory, rememberIn, hfound, hrest]
    rfl
  · simp [rememberPack, updMemory, rememberIn, findPack_none hnew, Nat.not_le.2 hroom, hfresh, newEntry]
  · have hevict : evict (pinned s) s.cc.memory = before ++ after := hmem ▸ evict_append he ha
    simp [rememberPack, updMemory, rememberIn, findPack_none hnew, hfull, hfresh, newEntry, hevict]
  · simp only [packMemoryReadAnswer, acceptFrame_cc, take_cc, he]
    rfl
  · simp only [packMemoryReadAnswer, acceptFrame_cc, take_cc, List.getElem?_eq_none hp]
    rfl
  · subst hserial
    simp only [packForgetAnswer, forgetPack, acceptFrame_cc, take_cc, findPack_none hnone]
    rfl
  · subst hserial
    simp only [packClearShockAnswer, clearShock, acceptFrame_cc, take_cc, findPack_none hnone]
    rfl
  · subst hserial
    obtain ⟨e, -, -, hfind⟩ := findPack_held hheld
    have hpinned : pinned (acceptFrame (take (.packForget tag [b0, b1, b2, b3]) s)) (le4 b0 b1 b2 b3) = true := (pinned_iff _ _).2 hpin
    simp only [packForgetAnswer, forgetPack, acceptFrame_cc, take_cc, hfind, hpinned]
    rfl
  · subst hserial
    obtain ⟨e, -, -, hfind⟩ := findPack_held hheld
    have hunpinned : ¬pinned (acceptFrame (take (.packForget tag [b0, b1, b2, b3]) s)) (le4 b0 b1 b2 b3) = true :=
      fun h => ((pinned_iff _ _).1 h).elim hfree
    simp only [packForgetAnswer, forgetPack, acceptFrame_cc, take_cc, hfind, if_neg hunpinned]
    rfl
  · subst hserial
    have hunpinned : ¬pinned (acceptFrame (take (.packClearShock tag [b0, b1, b2, b3]) s)) (le4 b0 b1 b2 b3) = true :=
      fun h => ((pinned_iff _ _).1 h).elim hfree
    exact clearShock_unpinned (by exact hheld) (Bool.eq_false_iff.2 hunpinned) hnodup hclear

end Sys2Proof.Machine
end

section
/-! PROOFS. The encoding of requests, and what the link answers to every request (section 10.7, R182 to R185, R190). -/

namespace Sys2Proof.Machine

/-! ### Requests by their codes (section 10.7) -/

/-- The payload of the request that a code names. -/
theorem encodeRequest_requestOf (tag code : Byte) (args : List Byte) : encodeRequest (requestOf tag code args) = some (tag :: code :: args) := by
  unfold requestOf
  split
  case h_26 => rfl
  all_goals
    rename_i h
    exact congrArg (fun c => some (tag :: c :: args)) (BitVec.eq_of_toNat_eq h).symm

theorem requestOf_ne_short (tag code : Byte) (args p : List Byte) : requestOf tag code args ≠ .shortPayloadRequest p := by
  intro h
  unfold requestOf at h
  split at h <;> cases h

theorem requestOf_ne_reset (tag code : Byte) (args : List Byte) : requestOf tag code args ≠ .powerOnReset := by
  intro h
  have hencode := encodeRequest_requestOf tag code args
  rw [h] at hencode
  cases hencode

/-- Every request is handled with the owner of its code. -/
theorem effect_requestOf (tag code : Byte) (args : List Byte) (s : State) :
    effect (requestOf tag code args) s = handleRequest tag code (ownerOf code.toNat args) (take (requestOf tag code args) s) := by
  generalize hi : requestOf tag code args = i
  unfold requestOf at hi
  split at hi
  case h_26 =>
    subst hi
    have hunknown : ownerOf code.toNat args = answer .unknownRequest [] := by
      unfold ownerOf
      split
      case h_26 => rfl
      all_goals
        rename_i h
        exact False.elim (by simp_all)
    rw [hunknown]
    rfl
  all_goals
    rename_i h
    have hcode : code = BitVec.ofNat 8 code.toNat := (BitVec.ofNat_toNat 8 code).symm.trans (by simp)
    rw [h] at hcode
    subst hcode hi
    rfl

theorem wellFormed_requestOf (tag code : Byte) {args : List Byte} (h : goodArgs args = true) : wellFormed (requestOf tag code args) = true := by
  generalize hi : requestOf tag code args = i
  have hencode := hi ▸ encodeRequest_requestOf tag code args
  cases i
  case unknownRequest =>
    cases hencode
    simp [wellFormed, h, hi]
  case shortPayloadRequest => exact absurd hi (requestOf_ne_short _ _ _ _)
  all_goals cases hencode
  all_goals exact h

/-- Settles O52. -/
theorem requestsRoundTrip : Obligations.RequestsRoundTrip := by
  refine ⟨fun i payload hwell hencode => ?_, fun payload => ?_⟩
  · cases i
    case unknownRequest tag code args =>
      cases hencode
      simp only [wellFormed, Bool.and_eq_true, beq_iff_eq] at hwell
      exact hwell.2
    case shortPayloadRequest p =>
      cases hencode
      match payload, hwell with
      | [], _ => rfl
      | [_], _ => rfl
    all_goals cases hencode
    all_goals rfl
  · match payload with
    | [] => exact ⟨rfl, fun _ => rfl⟩
    | [b] => exact ⟨rfl, fun _ => rfl⟩
    | tag :: code :: args =>
      refine ⟨encodeRequest_requestOf tag code args, fun hlen => wellFormed_requestOf tag code (decide_eq_true ?_)⟩
      simp only [List.length_cons] at hlen
      omega

/-! ### Every request answered (R182 to R185, R189) -/

/-- Settles O47. -/
theorem everyRequestAnsweredOnce : Obligations.EveryRequestAnsweredOnce := by
  rintro tag code args i s rfl
  have request (t : State) (h : handleRequest tag code (ownerOf code.toNat args) (take (requestOf tag code args) s) = t) :
      exec (requestOf tag code args) s = .next (finish t) := by
    rw [exec_effect (requestOf_ne_reset tag code args), effect_requestOf, h]
  refine ⟨fun hs => request _ (handleRequest_settling (s := take _ s) hs _ _ _), fun hs hr => request _ (handleRequest_pending (s := take _ s) hs hr _ _ _),
    fun hs hr hfull => request _ (handleRequest_full (s := take _ s) hs hr hfull _ _ _),
    fun hlink => ⟨_, (ownerOf code.toNat args (acceptFrame (take (requestOf tag code args) s))).status,
      (ownerOf code.toNat args (acceptFrame (take (requestOf tag code args) s))).results,
      request _ (handleRequest_open (linkOpen_take _ hlink) _ _ _), ?_⟩⟩
  obtain ⟨hreceiver, hresponses, hoverrun, hline, htimer, hsilence⟩ :=
    ownerOf_link code.toNat args (acceptFrame (take (requestOf tag code args) s))
  rw [respond_lu, hreceiver, hresponses, hoverrun, hline, htimer, hsilence]
  exact ⟨rfl, rfl, rfl, rfl, rfl, rfl⟩

/-! ### Argument lengths and unlisted codes (R183) -/

/-- The request codes of a fixed argument length, each with that length (section 10.7). -/
def argumentLengths : List (Byte × Nat) :=
  [(0x01, 0), (0x02, 1), (0x03, 0), (0x11, 1), (0x12, 1), (0x13, 3), (0x20, 3), (0x21, 4), (0x22, 1), (0x23, 1), (0x30, 2),
   (0x31, 0), (0x32, 2), (0x40, 0), (0x41, 0), (0x42, 0), (0x50, 1), (0x51, 0), (0x52, 0), (0x53, 0), (0x54, 4), (0x60, 1),
   (0x61, 4), (0x62, 4)]

/-- An owner answers BAD_LENGTH to every argument length but one. -/
def NeedsLength (n : Nat) (owner : List Byte → State → Answer) : Prop := ∀ args s, args.length ≠ n → owner args s = badLength s

theorem identifyAnswer_needsLength : NeedsLength 0 identifyAnswer := by
  intro args s hlen
  unfold identifyAnswer
  split
  · exact absurd rfl hlen
  · rfl

theorem stateReadAnswer_needsLength : NeedsLength 1 stateReadAnswer := by
  intro args s hlen
  unfold stateReadAnswer
  split
  · exact absurd rfl hlen
  · rfl

theorem companionResetAnswer_needsLength : NeedsLength 0 companionResetAnswer := by
  intro args s hlen
  unfold companionResetAnswer
  split
  · exact absurd rfl hlen
  · rfl

theorem tableApplyAnswer_needsLength : NeedsLength 1 tableApplyAnswer := by
  intro args s hlen
  unfold tableApplyAnswer
  split
  · exact absurd rfl hlen
  · rfl

theorem tableDiscardAnswer_needsLength : NeedsLength 1 tableDiscardAnswer := by
  intro args s hlen
  unfold tableDiscardAnswer
  split
  · exact absurd rfl hlen
  · rfl

theorem tableReadAnswer_needsLength : NeedsLength 3 tableReadAnswer := by
  intro args s hlen
  unfold tableReadAnswer
  split
  · exact absurd rfl hlen
  · rfl

theorem packReadAnswer_needsLength : NeedsLength 3 packReadAnswer := by
  intro args s hlen
  unfold packReadAnswer
  split
  · exact absurd rfl hlen
  · rfl

theorem packWriteAnswer_needsLength : NeedsLength 4 packWriteAnswer := by
  intro args s hlen
  unfold packWriteAnswer
  split
  · exact absurd rfl hlen
  · rfl

theorem bayReleaseAnswer_needsLength : NeedsLength 1 bayReleaseAnswer := by
  intro args s hlen
  unfold bayReleaseAnswer
  split
  · exact absurd rfl hlen
  · rfl

theorem railAnswer_needsLength : NeedsLength 1 railAnswer := by
  intro args s hlen
  unfold railAnswer
  split
  · exact absurd rfl hlen
  · rfl

theorem overridePushAnswer_needsLength : NeedsLength 2 overridePushAnswer := by
  intro args s hlen
  unfold overridePushAnswer
  split
  · exact absurd rfl hlen
  · rfl

theorem overridePopAnswer_needsLength : NeedsLength 0 overridePopAnswer := by
  intro args s hlen
  unfold overridePopAnswer
  split
  · exact absurd rfl hlen
  · rfl

theorem offsetSetAnswer_needsLength : NeedsLength 2 offsetSetAnswer := by
  intro args s hlen
  unfold offsetSetAnswer
  split
  · exact absurd rfl hlen
  · rfl

theorem shockArmAnswer_needsLength : NeedsLength 0 shockArmAnswer := by
  intro args s hlen
  unfold shockArmAnswer
  split
  · exact absurd rfl hlen
  · rfl

theorem shockDisarmAnswer_needsLength : NeedsLength 0 shockDisarmAnswer := by
  intro args s hlen
  unfold shockDisarmAnswer
  split
  · exact absurd rfl hlen
  · rfl

theorem quiesceReleaseAnswer_needsLength : NeedsLength 0 quiesceReleaseAnswer := by
  intro args s hlen
  unfold quiesceReleaseAnswer
  split
  · exact absurd rfl hlen
  · rfl

theorem logReadAnswer_needsLength : NeedsLength 1 logReadAnswer := by
  intro args s hlen
  unfold logReadAnswer
  split
  · exact absurd rfl hlen
  · rfl

theorem logClearAnswer_needsLength : NeedsLength 0 logClearAnswer := by
  intro args s hlen
  unfold logClearAnswer
  split
  · exact absurd rfl hlen
  · rfl

theorem logClearAllAnswer_needsLength : NeedsLength 0 logClearAllAnswer := by
  intro args s hlen
  unfold logClearAllAnswer
  split
  · exact absurd rfl hlen
  · rfl

theorem logLockAnswer_needsLength : NeedsLength 0 logLockAnswer := by
  intro args s hlen
  unfold logLockAnswer
  split
  · exact absurd rfl hlen
  · rfl

theorem timeSetAnswer_needsLength : NeedsLength 4 timeSetAnswer := by
  intro args s hlen
  unfold timeSetAnswer
  split
  · exact absurd rfl hlen
  · rfl

theorem packMemoryReadAnswer_needsLength : NeedsLength 1 packMemoryReadAnswer := by
  intro args s hlen
  unfold packMemoryReadAnswer
  split
  · exact absurd rfl hlen
  · rfl

theorem packForgetAnswer_needsLength : NeedsLength 4 packForgetAnswer := by
  intro args s hlen
  unfold packForgetAnswer
  split
  · exact absurd rfl hlen
  · rfl

theorem packClearShockAnswer_needsLength : NeedsLength 4 packClearShockAnswer := by
  intro args s hlen
  unfold packClearShockAnswer
  split
  · exact absurd rfl hlen
  · rfl

/-- Each code's owner needs the argument length of its row. -/
theorem ownerOf_needsLength : ∀ x ∈ argumentLengths, NeedsLength x.2 (ownerOf x.1.toNat) := by
  intro x hx args s hlen
  simp only [argumentLengths, List.mem_cons, List.not_mem_nil, or_false] at hx
  rcases hx with rfl | rfl | rfl | rfl | rfl | rfl | rfl | rfl | rfl | rfl | rfl | rfl | rfl | rfl | rfl | rfl | rfl | rfl | rfl | rfl | rfl
    | rfl | rfl | rfl
  · exact identifyAnswer_needsLength args s hlen
  · exact stateReadAnswer_needsLength args s hlen
  · exact companionResetAnswer_needsLength args s hlen
  · exact tableApplyAnswer_needsLength args s hlen
  · exact tableDiscardAnswer_needsLength args s hlen
  · exact tableReadAnswer_needsLength args s hlen
  · exact packReadAnswer_needsLength args s hlen
  · exact packWriteAnswer_needsLength args s hlen
  · exact bayReleaseAnswer_needsLength args s hlen
  · exact railAnswer_needsLength args s hlen
  · exact overridePushAnswer_needsLength args s hlen
  · exact overridePopAnswer_needsLength args s hlen
  · exact offsetSetAnswer_needsLength args s hlen
  · exact shockArmAnswer_needsLength args s hlen
  · exact shockDisarmAnswer_needsLength args s hlen
  · exact quiesceReleaseAnswer_needsLength args s hlen
  · exact logReadAnswer_needsLength args s hlen
  · exact logClearAnswer_needsLength args s hlen
  · exact logClearAllAnswer_needsLength args s hlen
  · exact logLockAnswer_needsLength args s hlen
  · exact timeSetAnswer_needsLength args s hlen
  · exact packMemoryReadAnswer_needsLength args s hlen
  · exact packForgetAnswer_needsLength args s hlen
  · exact packClearShockAnswer_needsLength args s hlen

/-- A code outside the table is answered UNKNOWN_REQUEST. -/
theorem requestOf_unknown {tag code : Byte} {args : List Byte} (hwrite : code ≠ 0x10) (h : ∀ x ∈ argumentLengths, code ≠ x.1) :
    requestOf tag code args = .unknownRequest tag code args := by
  have hne {n : Nat} (hn : BitVec.ofNat 8 n = 0x10 ∨ BitVec.ofNat 8 n ∈ argumentLengths.map Prod.fst) : code.toNat ≠ n := by
    intro hcode
    have hback : code = BitVec.ofNat 8 n := hcode ▸ (BitVec.ofNat_toNat 8 code).symm.trans (by simp)
    rcases hn with hn | hn
    · exact hwrite (hback.trans hn)
    · obtain ⟨x, hx, hxn⟩ := List.mem_map.1 hn
      exact h x hx (hback.trans hxn.symm)
  unfold requestOf
  split
  case h_26 => rfl
  all_goals
    rename_i hcode
    exact absurd hcode (hne (by decide))

/-- Settles O48. -/
theorem wrongLengthOrCodeRefused : Obligations.WrongLengthOrCodeRefused := by
  intro tag code args s hlink i lengths refused
  have request {st : Status} (h : ∀ u, ownerOf code.toNat args u = answer st [] u) : refused st :=
    exec_request hlink (requestOf_ne_reset tag code args) (effect_requestOf tag code args s) (h _)
  refine ⟨fun x hx hcode hlen => request fun u => ?_, fun hcode hlen => request fun u => ?_, fun hwrite hcodes => ?_⟩
  · subst hcode
    exact ownerOf_needsLength x hx args u hlen
  · subst hcode
    match args, hlen with
    | [], _ => rfl
    | [_], _ => rfl
  · have hunknown : requestOf tag code args = .unknownRequest tag code args := requestOf_unknown hwrite hcodes
    have heffect : effect i s = handleRequest tag code (answer .unknownRequest []) (take i s) := by
      rw [show i = .unknownRequest tag code args from hunknown]
      rfl
    exact ⟨hunknown, exec_request hlink (requestOf_ne_reset tag code args) heffect rfl⟩

end Sys2Proof.Machine
end

section
/-! PROOFS. What an idle step takes (section 1.5.7), and the resets (R9 to R11, R45, R67, R79, R90, R126, R127, R150, R151, R168, R179, R180, R185). -/

namespace Sys2Proof.Machine

/-! ### The limits of the running timers -/

theorem reached_iff (limit : Nat) (t : Option Nat) : reached limit t = true ↔ ∃ e, t = some e ∧ limit ≤ e := by
  cases t <;> simp [reached]

theorem timerReached_iff (c : Icu) (i : Input) :
    timerReached c i = true ↔ ∃ e, (inputOf c i).timer = some e ∧ ms (filterLength c i) ≤ e := by
  unfold timerReached
  cases (inputOf c i).timer <;> simp

theorem phaseReached_iff (s : State) (m : Method) (limit : Nat) :
    phaseReached s m limit = true ↔ ∃ t, s.ppc.transfer = some t ∧ t.phase = m ∧ limit ≤ t.elapsed := by
  unfold phaseReached
  cases s.ppc.transfer <;> simp

theorem graceReached_iff (s : State) : graceReached s = true ↔ ∃ f, s.ppc.forced = some f ∧ ms (paramN s 16) ≤ f.grace := by
  unfold graceReached
  cases s.ppc.forced <;> simp

theorem timeoutReached_iff (s : State) : timeoutReached s = true ↔ ∃ t, s.bbc.inFlight = some t ∧ t.limit ≤ t.elapsed := by
  unfold timeoutReached
  cases s.bbc.inFlight <;> simp

theorem expiryReached_iff (s : State) :
    expiryReached s = true ↔ ∃ d r bytes e, s.bbc.deferred = some d ∧ d.state = .done r bytes e ∧ ms (paramN s 33) ≤ e := by
  unfold expiryReached
  rcases s.bbc.deferred with _ | ⟨g, c, n, st⟩
  · simp
  · cases st <;> simp

theorem silenceMatters_iff (st : ShmState) : silenceMatters st = true ↔ st ≠ .disarmed ∧ st ≠ .unavailable := by
  cases st <;> simp [silenceMatters]

theorem lineReached_iff (s : State) : lineReached s = true ↔ ∃ f, s.lu.line = some f ∧ f.left = 0 := by
  unfold lineReached
  cases s.lu.line <;> simp

theorem mem_allInputs (i : Input) : i ∈ allInputs := by cases i <;> decide

/-- Every expiry of the list is due exactly where its running timer has reached its limit. -/
theorem expiries_limits (s : State) : ∀ x ∈ expiries s, (x.1 = true ↔ LimitReached s x.2) := by
  simp only [expiries, List.forall_mem_append, List.forall_mem_map, List.forall_mem_cons]
  have hold (b : Bay) : holdReached s b = true ↔ LimitReached s (.releaseHoldTimerExpiry b) := by
    simp [LimitReached, holdReached, reached_iff]
  have lapse (b : Bay) : lapseReached s b = true ↔ LimitReached s (.releaseLapseExpiry b) := by
    simp [LimitReached, lapseReached, reached_iff]
  have light (x : LightSensor) : lightReached s x = true ↔ LimitReached s (.lightSensorTimeout x) := by
    simp [LimitReached, lightReached, reached_iff]
  refine ⟨⟨⟨⟨reached_iff _ _, List.forall_mem_nil _⟩, fun i _ => timerReached_iff s.icu i⟩, ?_⟩, ?_⟩
  · exact ⟨phaseReached_iff s _ _, phaseReached_iff s _ _, reached_iff _ _, hold .A, hold .B, graceReached_iff s, lapse .A, lapse .B,
      timeoutReached_iff s, reached_iff _ _, reached_iff _ _, expiryReached_iff s, List.forall_mem_nil _⟩
  · refine ⟨light .front, light .rear, ?_, reached_iff _ _, ?_, ?_, reached_iff _ _, lineReached_iff s, reached_iff _ _,
      List.forall_mem_nil _⟩
    · simp [LimitReached, reached_iff, tempSilenceLimit]
    · simp [LimitReached, reached_iff]
    · simp [LimitReached, reached_iff, silenceMatters_iff, sampleSilenceLimit, and_assoc]

/-- The expiries in the order in which those that fall together are taken (assumption 3). -/
def expiryOrder : List Instr :=
  [.supplySettleEnd] ++ allInputs.map .stabilityTimerExpiry
    ++ [.overlapComplete, .bridgeTargetClose, .bridgeTimerExpiry, .releaseHoldTimerExpiry .A, .releaseHoldTimerExpiry .B, .graceExpiry,
      .releaseLapseExpiry .A, .releaseLapseExpiry .B, .transactionTimeout, .pollTimerExpiry .A, .pollTimerExpiry .B, .deferredExpiry,
      .lightSensorTimeout .front, .lightSensorTimeout .rear, .temperatureSilenceTimeout, .rampTick, .settleTimeout,
      .sampleSilenceTimeout, .clockAdvance, .upstreamLineFree, .linkSilenceTimeout]

theorem expiries_order (s : State) : (expiries s).map Prod.snd = expiryOrder := rfl

theorem mem_expiryOrder_of_limit {s : State} {i : Instr} : LimitReached s i → i ∈ expiryOrder := by
  cases i
  case stabilityTimerExpiry x => cases x <;> exact fun _ => by decide
  case releaseHoldTimerExpiry b => cases b <;> exact fun _ => by decide
  case releaseLapseExpiry b => cases b <;> exact fun _ => by decide
  case pollTimerExpiry b => cases b <;> exact fun _ => by decide
  case lightSensorTimeout x => cases x <;> exact fun _ => by decide
  all_goals simp only [LimitReached, false_imp_iff]
  all_goals exact fun _ => by decide

/-- Every expiry whose timer has reached its limit stands in the list. -/
theorem mem_expiries_of_limit {s : State} {i : Instr} (h : LimitReached s i) : ∃ flag, (flag, i) ∈ expiries s := by
  obtain ⟨⟨flag, j⟩, hmem, rfl⟩ := List.mem_map.1 (expiries_order s ▸ mem_expiryOrder_of_limit h)
  exact ⟨flag, hmem⟩

theorem due_reached {s : State} {i : Instr} (h : due s = some i) : LimitReached s i := by
  obtain ⟨x, hfind, rfl⟩ := Option.map_eq_some_iff.1 h
  exact (expiries_limits s x (List.mem_of_find?_eq_some hfind)).1 (List.find?_some hfind)

theorem due_ne_none {s : State} {i : Instr} (h : LimitReached s i) : due s ≠ none := by
  intro hnone
  obtain ⟨flag, hmem⟩ := mem_expiries_of_limit h
  exact List.find?_eq_none.1 (Option.map_eq_none_iff.1 hnone) _ hmem ((expiries_limits s _ hmem).2 h)

theorem inputOf_tickIcu (c : Icu) (i : Input) : inputOf (tickIcu c) i = tickInput (inputOf c i) := by cases i <;> rfl

theorem tickDeferred_eq (d : DeferredRead) : tickDeferred d = { d with
    state := (match d.state with
      | .done r bytes e => .done r bytes (e + 1)
      | st => st) } := by
  obtain ⟨g, c, n, st⟩ := d
  cases st <;> rfl

/-- Settles O3. -/
theorem idleStepTakesEventsThenExpiries : Obligations.IdleStepTakesEventsThenExpiries := by
  refine ⟨fun s hpending => ⟨fun e rest hdelivered => ?_, fun i hdelivered hdue => ?_, fun hdelivered hdue => ?_⟩,
    fun s => ⟨fun i => due_reached, fun i => due_ne_none⟩, ?_⟩
  · simp [step, idleStep, hpending, hdelivered]
  · simp [step, idleStep, hpending, hdelivered, hdue]
  · simp [step, idleStep, hpending, hdelivered, hdue]
  · rintro s t rfl
    have hdeferred : s.bbc.deferred.map tickDeferred = s.bbc.deferred.map fun d => { d with
        state := (match d.state with
          | .done r bytes e => .done r bytes (e + 1)
          | st => st) } := congrArg (s.bbc.deferred.map ·) (funext tickDeferred_eq)
    exact ⟨by simp [keeps_iff, tick], rfl, rfl, rfl, rfl, fun i => inputOf_tickIcu s.icu i, by rfl, fun b => by cases b <;> rfl,
      congrArg (fun d => ({ s.bbc with
        inFlight := s.bbc.inFlight.map fun x => { x with elapsed := x.elapsed + 1 },
        bays := ⟨tickBus s.bbc.bays.a, tickBus s.bbc.bays.b⟩, deferred := d } : Bbc)) hdeferred,
      fun b => by cases b <;> rfl, rfl, rfl, rfl, rfl⟩

end Sys2Proof.Machine
end

section
/-! PROOFS. The resets (R9 to R11, R45, R67, R79, R90, R126, R127, R150, R151, R168, R179, R180, R185). -/

namespace Sys2Proof.Machine

/-! ### The inputs at a reset (R2) -/

theorem inputOf_keepRaw_all (c d : Icu) (i : Input) :
    inputOf (allInputs.foldl (keepRaw c) d) i = { inputOf d i with raw := (inputOf c i).raw } := by cases i <;> rfl

theorem inputOf_startInput_all (c : Icu) (i : Input) :
    inputOf (allInputs.foldl startInput c) i = { inputOf c i with timer := if (inputOf c i).raw then some 0 else none } := by
  cases i <;> rfl

/-! ### The capped evaluation and the two parts of a management reset (R90, R127) -/

/-- Only the capped mark's notice stands in the pending set. -/
def OnlyCapped (q : List PendingNotice) : Prop := ∀ n ∈ q, n.notice.kind = 25

/-- A capped evaluation moves the mark, and of the Link Unit the pending notices alone. -/
theorem evaluateCapped_change (s : State) : ∃ (q : List PendingNotice) (c : Bool), (OnlyCapped s.lu.notices → OnlyCapped q)
    ∧ evaluateCapped s = { s with bu := { s.bu with capped := c }, lu := { s.lu with notices := q } } := by
  rw [evaluateCapped_eq]
  generalize decide (budgetCeiling s < s.bu.demand) = below
  cases hraise : below != s.bu.capped
  · exact ⟨s.lu.notices, below, id, rfl⟩
  · simp only [raiseIf, raise, if_true]
    split
    · exact ⟨s.lu.notices, below, id, rfl⟩
    · refine ⟨_, below, fun hold n hn => ?_, rfl⟩
      rcases mem_foldNotice hn with hn | ⟨hn, _⟩
      · exact hold n hn
      · rw [hn]
        rfl

/-- The backlight as its part of a management reset leaves it: no overrides and no offset, its filter, held target and publication kept. -/
def BacklightReset (before after : Blc) : Prop :=
  after.stack = [] ∧ after.offset = 0 ∧ after.held = before.held ∧ after.filter = before.filter ∧ after.publication = before.publication

theorem resetBacklight_change (s : State) : ∃ blc : Blc, BacklightReset s.blc blc
    ∧ resetBacklight s = { s with blc := blc, delivered := s.delivered ++ [.cappedEvaluation blc.demand] } :=
  ⟨(resetBacklight s).blc, ⟨rfl, rfl, rfl, rfl, rfl⟩, rfl⟩

/-- The backlight's part with its demand evaluated at once. -/
theorem resetBacklightFirst_change (s : State) : ∃ (blc : Blc) (bu : Bu) (q : List PendingNotice) (delivered : List Instr),
    BacklightReset s.blc blc ∧ (OnlyCapped s.lu.notices → OnlyCapped q)
    ∧ resetBacklightFirst s = { s with blc := blc, bu := bu, lu := { s.lu with notices := q }, delivered := delivered } := by
  obtain ⟨blc, hblc, hreset⟩ := resetBacklight_change s
  have hfirst : resetBacklightFirst s = takeDemand blc.demand { s with
      blc := blc, delivered := (s.delivered ++ [Instr.cappedEvaluation blc.demand]).erase (.cappedEvaluation blc.demand) } := by
    simp only [resetBacklightFirst, hreset, take]
  obtain ⟨q, c, hq, hcapped⟩ := evaluateCapped_change (updBu (fun r => { r with demand := blc.demand }) { s with
    blc := blc, delivered := (s.delivered ++ [Instr.cappedEvaluation blc.demand]).erase (.cappedEvaluation blc.demand) })
  exact ⟨blc, _, q, _, hblc, hq, hfirst.trans hcapped⟩

theorem resetBudget_change (s : State) : ∃ (bu : Bu) (q : List PendingNotice), (OnlyCapped s.lu.notices → OnlyCapped q)
    ∧ bu.publishedCap = bu.powerCap ∧ bu.publishedSwap = bu.swapFlag
    ∧ resetBudget s = { s with
        bu := bu, lu := { s.lu with notices := q }, delivered := s.delivered ++ [.blcPublication bu.powerCap bu.swapFlag] } := by
  obtain ⟨q, c, hq, h⟩ := evaluateCapped_change (updBu (fun r => { r with capped := false }) (publish (computeBudget s)))
  exact ⟨_, q, hq, rfl, rfl, h⟩

/-- Both parts, in either order: the pair as it has been published is handed, and the backlight is reset. -/
theorem resetCaps_change (s : State) :
    ∃ (blc : Blc) (bu : Bu) (q : List PendingNotice) (delivered : List Instr), BacklightReset s.blc blc
    ∧ (OnlyCapped s.lu.notices → OnlyCapped q) ∧ bu.publishedCap = bu.powerCap ∧ bu.publishedSwap = bu.swapFlag
    ∧ .blcPublication bu.powerCap bu.swapFlag ∈ delivered
    ∧ resetCaps s = { s with
        blc := blc, bu := bu, lu := { s.lu with notices := q }, delivered := delivered, freeIndex := s.freeIndex + 1 } := by
  rcases resetCaps_either s with h | h
  · obtain ⟨blc, bu, q, delivered, hblc, hq, hfirst⟩ := resetBacklightFirst_change (freeOrder s).2
    obtain ⟨bu', q', hq', hcap, hswap, hbudget⟩ := resetBudget_change (resetBacklightFirst (freeOrder s).2)
    rw [hfirst] at hbudget hq'
    exact ⟨blc, bu', q', _, hblc, hq' ∘ hq, hcap, hswap, List.mem_append_right _ (List.mem_singleton_self _),
      h.trans ((congrArg resetBudget hfirst).trans hbudget)⟩
  · obtain ⟨bu, q, hq, hcap, hswap, hbudget⟩ := resetBudget_change (freeOrder s).2
    obtain ⟨blc, hblc, hreset⟩ := resetBacklight_change (resetBudget (freeOrder s).2)
    rw [hbudget] at hreset hblc
    exact ⟨blc, bu, q, _, hblc, hq, hcap, hswap, List.mem_append_left _ (List.mem_append_right _ (List.mem_singleton_self _)),
      h.trans ((congrArg resetBacklight hbudget).trans hreset)⟩

/-- A management reset leaves each poll timer started again in the polled states, and no due poll (R67). -/
theorem busOf_resetBus (s : State) (b : Bay) : busOf (resetBus s) b = { busOf s b with
    pollTimer := if (bayOf s b).state.polled then some 0 else none, pollDue := false } := by cases b <;> rfl

/-- Settles O51. -/
theorem resetsLeaveListedState : Obligations.ResetsLeaveListedState := by
  refine ⟨fun s => ⟨powerOn s, rfl, by simp [keeps_iff, powerOn], rfl, rfl, rfl, rfl, rfl, ?_, ?_⟩, fun s hs => ?_, fun s hs => ?_,
    fun s => ⟨_, exec_effect (by simp) s, ?_⟩⟩
  · intro i
    refine (inputOf_keepRaw_all s.icu icuAtReset i).trans ?_
    cases i <;> rfl
  · refine ⟨rfl, rfl, rfl, rfl, rfl, rfl, rfl, rfl, rfl, fun b => ?_, ?_⟩
    · cases b <;> exact ⟨rfl, rfl, rfl, rfl, rfl, rfl⟩
    · and_intros <;> rfl
  · rw [exec_effect (by simp)]
    simp [effect, settleEnds, hs]
  · refine ⟨_, exec_effect (by simp) s, ?_⟩
    rw [show effect .supplySettleEnd s = startTimers s by simp [effect, settleEnds, hs]]
    exact ⟨by simp [keeps_iff, startTimers], rfl, rfl, rfl, rfl, inputOf_startInput_all s.icu, rfl, rfl, rfl, rfl⟩
  · obtain ⟨blc, bu, q, delivered, ⟨hstack, hoffset, hheld, hfilter, hpub⟩, hq, hcap, hswap, hhanded, hcaps⟩ :=
      resetCaps_change (resetBus (resetTables (resetLink (take .managementReset s))))
    rw [show effect .managementReset s = _ from hcaps]
    exact ⟨by simp [keeps_iff, updLu, resetLink], rfl, hq (List.forall_mem_nil _), rfl, rfl, rfl, rfl, rfl, fun b => busOf_resetBus _ b,
      hstack, hoffset, hheld, hfilter, hpub, hcap, hswap, hhanded⟩

end Sys2Proof.Machine
end

section
/-! PROOFS. The Link Unit's own requests (R185, R190), and the search of a discarded candidate's bytes (R182). -/

namespace Sys2Proof.Machine

/-! ### The lengths of the encoded fields (R183) -/

theorem length_optional {α : Type} {width : Nat} {enc : α → List Byte} (h : ∀ v, (enc v).length = width) (o : Option α) :
    (optional width enc o).length = width + 1 := by
  cases o <;> simp [optional, h]

@[simp] theorem length_byte1 (n : Nat) : (byte1 n).length = 1 := rfl
@[simp] theorem length_byte2 (n : Nat) : (byte2 n).length = 2 := rfl
@[simp] theorem length_byte3 (n : Nat) : (byte3 n).length = 3 := rfl
@[simp] theorem length_byte4 (n : Nat) : (byte4 n).length = 4 := rfl
@[simp] theorem length_byte2s (v : Int) : (byte2s v).length = 2 := rfl
@[simp] theorem length_setByte (bits : List Bool) : (setByte bits).length = 1 := rfl
@[simp] theorem length_alarmByte (a : AlarmSet) : (alarmByte a).length = 1 := rfl
@[simp] theorem length_bayByte (b : Bay) : (bayByte b).length = 1 := rfl
@[simp] theorem length_markByte (b : Bool) : (markByte b).length = 1 := by cases b <;> rfl
@[simp] theorem length_twoStates (b : Bool) : (twoStates b).length = 1 := by cases b <;> rfl
@[simp] theorem length_inputByte (s : State) (i : Input) : (inputByte s i).length = 1 := length_twoStates _
@[simp] theorem length_timerBytes (t : Option Nat) : (timerBytes t).length = 3 := length_optional (width := 2) (fun _ => rfl) t
@[simp] theorem length_serialBytes (n : Option Nat) : (serialBytes n).length = 5 := length_optional (width := 4) (fun _ => rfl) n
@[simp] theorem length_deratingBytes (d : Option Derating) : (deratingBytes d).length = 2 := length_optional (width := 1) (fun _ => rfl) d
@[simp] theorem length_snapshotBytes (c : Snapshot) : (snapshotBytes c).length = 15 := by simp [snapshotBytes]
@[simp] theorem length_transferBytes (t : Transfer) : (transferBytes t).length = 7 := by
  simp [transferBytes, length_optional (fun x : Source => length_byte1 (Source.code x))]
@[simp] theorem length_sensorBytes (r : SensorRecord) : (sensorBytes r).length = 8 := by
  simp [sensorBytes, length_optional length_byte3]
@[simp] theorem length_chargerBytes (c : Cc) : (chargerBytes c).length = 9 := by
  simp [chargerBytes, length_optional length_byte1, length_optional length_bayByte]

/-- A stack of up to four levels is told in nine bytes. -/
theorem length_stackBytes {stack : List Nat} (h : stack.length ≤ 4) : (stackBytes stack).length = 9 := by
  have hsum : ∀ l : List Nat, (l.flatMap byte2).length = 2 * l.length := fun l => by
    induction l with
    | nil => rfl
    | cons x xs ih =>
      simp only [List.flatMap_cons, List.length_append, length_byte2, List.length_cons, ih]
      omega
  rw [stackBytes, List.length_append, hsum, List.length_append, List.length_replicate, length_byte1]
  omega

/-! ### The parts of STATE_READ (R190) -/

theorem length_bayPart (s : State) (b : Bay) : (bayPart s b).length = 43 := by
  simp [bayPart, length_optional (width := 10) (enc := identityBytes) (fun _ => rfl), length_optional (width := 13) (enc := telemetryBytes) (fun _ => rfl),
    length_optional (fun x : FaultReason => length_byte1 (FaultReason.code x)), length_optional length_byte1]

theorem length_sourcePart (s : State) : (sourcePart s).length = 32 := by
  simp [sourcePart, length_optional length_transferBytes, length_optional (width := 3) (enc := forcedBytes) (fun _ => rfl),
    length_optional (fun x : WaitCause => length_byte1 (WaitCause.code x))]

theorem length_budgetPart (s : State) : (budgetPart s).length = 30 := by simp [budgetPart]

theorem length_lightPart {s : State} (h : StackSound s) : (lightPart s).length = 41 := by simp [lightPart, length_stackBytes h.1]

theorem length_targetPart (s : State) : (targetPart s).length = 25 := by
  simp [targetPart, length_optional length_byte2s,
    length_optional (width := 3) (enc := fun p : Nat × Bool => byte2 p.1 ++ markByte p.2) (fun _ => by simp)]

theorem length_shockPart (s : State) : (shockPart s).length = 47 := by
  simp [shockPart, length_optional length_snapshotBytes, length_optional (fun x : DropOutcome => length_byte1 (DropOutcome.code x))]

theorem length_logPart (s : State) : (logPart s).length = 17 := by simp [logPart, length_optional length_byte4]

/-- Each of the eight parts fits the payload with its tag, code, status and mark. -/
theorem statePart_of_le {n : Nat} (h : n ≤ 7) (s : State) :
    ∃ bytes, statePart s n = some bytes ∧ (StackSound s → bytes.length + 4 ≤ 60) := by
  match n, h with
  | 0, _ => exact ⟨_, rfl, fun _ => by simp [length_bayPart]⟩
  | 1, _ => exact ⟨_, rfl, fun _ => by simp [length_bayPart]⟩
  | 2, _ => exact ⟨_, rfl, fun _ => by simp [length_sourcePart]⟩
  | 3, _ => exact ⟨_, rfl, fun _ => by simp [length_budgetPart]⟩
  | 4, _ => exact ⟨_, rfl, fun h => by simp [length_lightPart h]⟩
  | 5, _ => exact ⟨_, rfl, fun _ => by simp [length_shockPart]⟩
  | 6, _ => exact ⟨_, rfl, fun _ => by simp [length_targetPart]⟩
  | 7, _ => exact ⟨_, rfl, fun _ => by simp [length_logPart]⟩

theorem statePart_of_gt {n : Nat} (h : 7 < n) (s : State) : statePart s n = none := by
  obtain ⟨m, rfl⟩ : ∃ m, n = m + 8 := ⟨n - 8, by omega⟩
  rfl

/-- The parts do not tell what is delivered. -/
theorem statePart_take (c : Instr) (s : State) (n : Nat) : statePart (take c s) n = statePart s n := by
  match n with
  | 0 | 1 | 2 | 3 | 4 | 5 | 6 | 7 => rfl
  | _ + 8 => rfl

/-! ### The search (R182) -/

theorem hunt_skip {before : List Byte} (h : (0xA5 : Byte) ∉ before) (rest : List Byte) : hunt (before ++ rest) = hunt rest := by
  induction before with
  | nil => rfl
  | cons b bs ih =>
    obtain ⟨hb, hbs⟩ := not_or.1 (mt List.mem_cons.2 h)
    rw [List.cons_append, hunt, if_neg (Ne.symm hb), ih hbs]

theorem hunt_none {bytes : List Byte} (h : (0xA5 : Byte) ∉ bytes) : hunt bytes = .rests .hunting := by
  rw [← List.append_nil bytes, hunt_skip h, hunt]

/-- A whole REQUEST frame of up to 60 payload bytes is valid, and what follows it is left. -/
theorem judge_frame {payload : List Byte} (h : payload.length ≤ 60) (rest : List Byte) :
    judge ((frameBytes 0x01 payload).tail ++ rest) = .valid payload rest := by
  have hlen : (BitVec.ofNat 8 payload.length).toNat = payload.length := by
    rw [BitVec.toNat_ofNat]
    omega
  have hcheck (c : BitVec 16) : checkOf (c.extractLsb' 8 8) (c.extractLsb' 0 8) = c := by
    unfold checkOf
    apply BitVec.eq_of_toNat_eq
    simp only [BitVec.toNat_append, BitVec.extractLsb'_toNat, Nat.shiftRight_zero]
    rw [← Nat.shiftLeft_add_eq_or_of_lt (Nat.mod_lt _ (by decide)), Nat.shiftLeft_eq, Nat.shiftRight_eq_div_pow]
    omega
  simp [frameBytes, judge, judgeFrame, hlen, Nat.not_lt.2 h, hcheck]

theorem judge_after_length {bytes payload after : List Byte} (h : judge bytes = .valid payload after) : after.length < bytes.length := by
  unfold judge at h
  split at h
  · split at h
    · cases h
    · simp only [judgeFrame] at h
      split at h
      · rename_i kind len rest _ high low tail hdrop
        split at h
        · obtain ⟨_, rfl⟩ := Candidate.valid.inj h
          have := congrArg List.length hdrop
          simp at this ⊢
          omega
        · cases h
      · cases h
  · cases h

theorem hunt_after_length {bytes payload after : List Byte} (h : hunt bytes = .frame payload after) : after.length < bytes.length := by
  induction bytes with
  | nil => cases h
  | cons b rest ih =>
    unfold hunt at h
    split at h
    · split at h
      · cases h
      · exact (ih h).trans (Nat.lt_succ_self _)
      · rename_i hjudge
        obtain ⟨_, rfl⟩ := Hunt.frame.inj h
        exact (judge_after_length hjudge).trans (Nat.lt_succ_self _)
    · exact (ih h).trans (Nat.lt_succ_self _)

/-- Searches beyond the number of bytes find nothing more. -/
theorem huntAll_fuel {n m : Nat} {bytes : List Byte} (hn : bytes.length < n) (hm : bytes.length < m) : huntAll n bytes = huntAll m bytes := by
  induction n generalizing m bytes with
  | zero => exact absurd hn (Nat.not_lt_zero _)
  | succ n ih =>
    obtain ⟨m, rfl⟩ : ∃ k, m = k + 1 := ⟨m - 1, by omega⟩
    simp only [huntAll]
    split
    · rfl
    · rename_i payload after hunted
      have hafter := hunt_after_length hunted
      rw [ih (m := m) (by omega) (by omega)]

/-! ### The frames found are taken as requests (R182, R183) -/

theorem discardCandidate_rests {candidate : List Byte} {r : Receiver} (h : hunt candidate = .rests r) (s : State) :
    discardCandidate candidate s = setReceiver r s := by simp [discardCandidate, huntAll, h]

/-- A candidate with a frame in it is the frame's request, and then the search of the rest. -/
theorem discardCandidate_frame {candidate payload rest : List Byte} (h : hunt candidate = .frame payload rest) (s : State) :
    discardCandidate candidate s = discardCandidate rest (finish (takePayload payload s)) := by
  have hall : huntAll candidate.length rest = huntAll (rest.length + 1) rest := huntAll_fuel (hunt_after_length h) (Nat.lt_succ_self _)
  simp only [discardCandidate, huntAll, h, hall, List.foldl_cons]

theorem ownerOf_settling (code : Nat) (args : List Byte) (s : State) : (ownerOf code args s).state.settling = s.settling := by
  unfold ownerOf
  split
  case h_26 => rfl
  all_goals simp

theorem takePayload_settling (payload : List Byte) (s : State) : (takePayload payload s).settling = s.settling := by
  unfold takePayload
  split
  · rename_i tag code args
    rcases handleRequest_cases tag code (ownerOf code.toNat args) s with h | h | h | ⟨_, h⟩
    · rw [h]
    · rw [h]
      rfl
    · rw [h]
      rfl
    · rw [h]
      exact ownerOf_settling _ _ _
  · rfl

/-- A payload's request is executed as the payload is taken. -/
theorem exec_decodeRequest (payload : List Byte) {s : State} (h : s.settling = none) :
    exec (decodeRequest payload) s = .next (finish (takePayload payload (take (decodeRequest payload) s))) := by
  match payload with
  | [] =>
    rw [exec_effect (by simp [decodeRequest])]
    exact congrArg (fun u => Host.Outcome.next (finish u)) (afterSettle_open (s := take _ s) h _)
  | [b] =>
    rw [exec_effect (by simp [decodeRequest])]
    exact congrArg (fun u => Host.Outcome.next (finish u)) (afterSettle_open (s := take _ s) h _)
  | tag :: code :: args =>
    refine (exec_effect (requestOf_ne_reset tag code args) s).trans ?_
    exact congrArg (fun u => Host.Outcome.next (finish u)) (effect_requestOf tag code args s)

theorem take_of_not_mem {c : Instr} {s : State} (h : c ∉ s.delivered) : take c s = s := by simp [take, List.erase_of_not_mem h]

theorem exec_frameDiscarded {candidate : List Byte} {s : State} (h : s.settling = none) :
    exec (.frameDiscarded candidate) s = .next (finish (discardCandidate candidate (take (.frameDiscarded candidate) s))) := by
  rw [exec_effect (by simp)]
  exact congrArg (fun u => Host.Outcome.next (finish u)) (afterSettle_open (s := take _ s) h _)

/-- Settles O49. -/
theorem linkAnswersAndSearchesDiscardedBytes : Obligations.LinkAnswersAndSearchesDiscardedBytes := by
  refine ⟨fun tag s hlink => ⟨exec_request hlink (by simp) rfl rfl, fun p hp => exec_request hlink (by simp) rfl ?_, fun p hp => ?_, ?_, ?_⟩,
    fun s hs => ?_⟩
  · simp only [stateReadAnswer, statePart_of_gt hp]
    rfl
  · obtain ⟨bytes, hbytes, hlength⟩ := statePart_of_le hp (acceptFrame s)
    refine ⟨bytes, hbytes, hlength, exec_request hlink (by simp) rfl ?_⟩
    have htaken : statePart (acceptFrame (take (.stateRead tag [p]) s)) p.toNat = some bytes :=
      (statePart_take (.stateRead tag [p]) (acceptFrame s) p.toNat).trans hbytes
    simp only [stateReadAnswer, htaken]
    rfl
  · refine exec_request hlink (by simp) rfl ?_
    refine congrArg (fun bytes => answer .ok bytes (acceptFrame (take (.stateRead tag [7]) s))) ?_
    refine congrArg₂ (· ++ ·) rfl (?_ : optional 4 byte4 s.dl.openReference = _)
    cases s.dl.openReference <;> rfl
  · exact exec_request hlink (by simp) rfl rfl
  · have rests {candidate : List Byte} {r : Receiver} (h : hunt candidate = .rests r) : exec (.frameDiscarded candidate) s =
        .next (finish { s with delivered := s.delivered.erase (.frameDiscarded candidate), lu := { s.lu with receiver := r } }) := by
      refine (exec_frameDiscarded hs).trans ?_
      rw [discardCandidate_rests h]
      rfl
    refine ⟨fun candidate hnone => rests (hunt_none hnone), fun before payload rest t hbefore hlen htaken hrest hexec => ?_, fun before hbefore => rests ?_,
      fun before after kind len hbefore hafter hlong => rests ?_, fun payload hshort => ?_⟩
    · have hfound : hunt (before ++ frameBytes 0x01 payload ++ rest) = .frame payload rest := by
        rw [List.append_assoc, hunt_skip hbefore, show frameBytes 0x01 payload = 0xA5 :: (frameBytes 0x01 payload).tail from rfl, List.cons_append,
          hunt, if_pos rfl, judge_frame hlen]
      have hdecoded := exec_decodeRequest payload (s := take (.frameDiscarded (before ++ frameBytes 0x01 payload ++ rest)) s) hs
      rw [take_of_not_mem (c := decodeRequest payload) (fun h => htaken (List.mem_of_mem_erase h))] at hdecoded
      obtain rfl : t = finish (takePayload payload (take (.frameDiscarded (before ++ frameBytes 0x01 payload ++ rest)) s)) :=
        Host.Outcome.next.inj (hexec.symm.trans hdecoded)
      rw [exec_frameDiscarded hs, discardCandidate_frame hfound,
        exec_frameDiscarded (by simpa [takePayload_settling] using hs), take_of_not_mem hrest]
    · rw [hunt_skip hbefore]
      rfl
    · rw [hunt_skip hbefore, hunt, if_pos rfl]
      simp only [judge, if_pos hlong]
      exact hunt_none hafter
    · match payload, hshort with
      | [], _ => exact exec_decodeRequest [] hs
      | [b], _ => exact exec_decodeRequest [b] hs

end Sys2Proof.Machine
end

section
/-! PROOFS. A bay's insertion, and the releases that need no transfer (sections 2.3, 2.6). -/

namespace Sys2Proof.Machine

/-! ### A bay enters a state, read through its records -/

@[simp] theorem bayOf_enterBay_same (b : Bay) (st : BayState) (s : State) :
    bayOf (enterBay b st s) b = enteredRecord st (bayOf s b) := by simp [bayOf]

@[simp] theorem bayOf_enterBay_other (b : Bay) (st : BayState) (s : State) :
    bayOf (enterBay b st s) b.other = bayOf s b.other := by simp [bayOf]

@[simp] theorem busOf_enterBay_same (b : Bay) (st : BayState) (s : State) :
    busOf (enterBay b st s) b = enteredBus (bayOf s b).state st (busOf s b) := by simp [busOf, bayOf]

@[simp] theorem busOf_enterBay_other (b : Bay) (st : BayState) (s : State) :
    busOf (enterBay b st s) b.other = busOf s b.other := by simp [busOf]

@[simp] theorem bayOf_raise (n : Notice) (s : State) (b : Bay) : bayOf (raise n s) b = bayOf s b := bayOf_congr (by simp) b

@[simp] theorem busOf_raise (n : Notice) (s : State) (b : Bay) : busOf (raise n s) b = busOf s b := busOf_congr (by simp) b

@[simp] theorem bayOf_take (c : Instr) (s : State) (b : Bay) : bayOf (take c s) b = bayOf s b := bayOf_congr (by simp) b

@[simp] theorem busOf_take (c : Instr) (s : State) (b : Bay) : busOf (take c s) b = busOf s b := busOf_congr (by simp) b

@[simp] theorem filtered_take (c : Instr) (s : State) (i : Input) : filtered (take c s) i = filtered s i := filtered_congr (by simp) i

/-- A state that is neither EMPTY, SUPPLYING nor RELEASED ends a refusal and stops both timers. -/
theorem enteredRecord_plain {st : BayState} (he : st ≠ .empty) (hs : st ≠ .supplying) (hr : st ≠ .released) (r : BayRecord) :
    enteredRecord st r = { r with state := st, refusal := false, holdTimer := none, lapseTimer := none } := by
  simp [enteredRecord, he, hs, hr]

theorem enteredRecord_released (r : BayRecord) :
    enteredRecord .released r = { r with state := .released, refusal := false, holdTimer := none, lapseTimer := some 0 } := by
  simp [enteredRecord]

theorem enterBay_delivered_eq {b : Bay} {st : BayState} {s : State} (h : (bayOf s b).state ≠ .releasing) (k : st ≠ .releasing)
    (l : st ≠ .empty) : (enterBay b st s).delivered = s.delivered := enterBay_quiet h k (.inl l)

@[simp] theorem filtered_raise (n : Notice) (s : State) (i : Input) : filtered (raise n s) i = filtered s i := filtered_congr (by simp) i

@[simp] theorem filtered_enterBay (b : Bay) (st : BayState) (s : State) (i : Input) : filtered (enterBay b st s) i = filtered s i :=
  filtered_congr (by simp) i

/-- The Link Unit after a raise on a state that differs from another in neither the link nor the levels. -/
theorem raise_lu_of {n : Notice} {s t : State} (hlu : t.lu = s.lu) (hts : t.ts = s.ts) : (raise n t).lu = (raise n s).lu :=
  raise_lu_congr n hlu (by rw [hts])

/-- Of the PPC one bay's record alone changes where every other field and the other bay's record stand. -/
theorem onlyBayRecord_iff (b : Bay) (s t : State) :
    OnlyBayRecord b s t ↔ { t.ppc with bays := s.ppc.bays } = s.ppc ∧ bayOf t b.other = bayOf s b.other := by
  have hset : s.ppc.bays.set b (bayOf t b) = t.ppc.bays ↔ bayOf t b.other = bayOf s b.other := by
    constructor
    · intro h
      change t.ppc.bays.get b.other = _
      rw [← h, get_set_other]
      rfl
    · intro h
      refine PerBay.ext_get fun x => ?_
      rcases bay_cases b x with rfl | rfl
      · simp [bayOf]
      · simp only [get_set_other]
        exact h.symm
  unfold OnlyBayRecord
  rw [← hset]
  constructor
  · intro h
    rw [h]
    simp [bayOf]
  · rintro ⟨hppc, hbays⟩
    rw [hbays]
    exact congrArg (fun p => { p with bays := t.ppc.bays }) hppc

/-! ### Insertion (R18, R55, R56) -/

theorem presRose_eq {b : Bay} {s : State} (h : (bayOf s b).state = .empty) : presRose b s =
    if filtered s (latchOf b) then enterBay b .identifying (raise (.bayInserted b) (enterBay b .seating s))
    else raise (.bayInserted b) (enterBay b .seating s) := by
  simp [presRose, h]

/-- Settles O9. -/
theorem insertionFollowsPresAndLatch : Obligations.InsertionFollowsPresAndLatch := by
  intro b s
  refine ⟨fun hst => ⟨_, exec_effect (by simp) s, ?_⟩, fun hst => ⟨_, exec_effect (by simp) s, ?_⟩, fun hst => ⟨_, exec_effect (by simp) s, ?_⟩⟩
  · have hlu : (raise (.bayInserted b) (enterBay b .seating (take (.ppcPresRising b) s))).lu = (raise (.bayInserted b) s).lu :=
      raise_lu_of (by simp) (by simp)
    rw [show effect (.ppcPresRising b) s = _ from presRose_eq (s := take _ s) hst]
    cases hlatch : filtered s (latchOf b)
    · simp [hlatch, keeps_iff, onlyBayRecord_iff, enteredRecord_plain, enterBay_delivered_eq, hst, hlu, enteredBus]
    · simp [hlatch, keeps_iff, onlyBayRecord_iff, enteredRecord_plain, enterBay_delivered_eq, hst, hlu, enteredBus]
  · rw [show effect (.ppcLatchRising b) s = enterBay b .identifying (take (.ppcLatchRising b) s) by simp [effect, latchRose, hst]]
    simp [keeps_iff, onlyBayRecord_iff, enteredRecord_plain, enterBay_delivered_eq, hst, enteredBus]
  · rw [show effect (.ppcLatchFalling b) s = enterBay b .seating (take (.ppcLatchFalling b) s) by
      simp [effect, latchFell, hst, BayState.locked]]
    obtain ⟨-, -, -, -, -, hread⟩ := enterBay_bbc b .seating (take (.ppcLatchFalling b) s)
    simp [keeps_iff, onlyBayRecord_iff, enteredRecord_plain, enterBay_delivered_eq, hst, enteredBus]
    exact hread (by simp)

/-! ### Release requests that need no transfer (R34, R35, R38) -/

theorem releaseRequest_hold {b : Bay} {s : State} (h : s.ppc.hold = true) : releaseRequest b s = (setPending b true s, .held) := by
  simp [releaseRequest, h]

/-- Outside the hold and any transfer a bay in IDENTIFYING, STANDBY or FAULTED is released at once. -/
theorem releaseRequest_grants {b : Bay} {s : State} (hhold : s.ppc.hold = false) (htransfer : s.ppc.transfer = none)
    (hst : (bayOf s b).state = .identifying ∨ (bayOf s b).state = .standby ∨ ∃ r, (bayOf s b).state = .faulted r) :
    releaseRequest b s = (raise (.releaseGranted b) (enterBay b .released s), .ok) := by
  rcases hst with h | h | ⟨r, h⟩
  all_goals simp [releaseRequest, hhold, isTransferTarget, isTransferSource, htransfer, h, goReleased]

/-- With no refusal standing no hold timer runs. -/
theorem runHoldTimer_idle {b : Bay} {s : State} (h : (bayOf s b).refusal = false) : runHoldTimer b s = s := by
  simp [runHoldTimer, h]

theorem raise_acceptFrame (n : Notice) (s : State) : raise n (acceptFrame s) = acceptFrame (raise n s) := by
  simp only [raise]
  split
  · rename_i h
    exact (if_pos h).symm ▸ rfl
  · rename_i h
    exact (if_neg h).symm ▸ rfl

theorem bayReleaseAnswer_bay (b : Bay) (s : State) :
    bayReleaseAnswer [if b = .A then 0 else 1] s = answer (releaseRequest b s).2 [] (releaseRequest b s).1 := by
  cases b <;> rfl

/-- BAY_RELEASE answers as the release request comes out. -/
theorem exec_bayRelease {b : Bay} {tag : Byte} {s v : State} {st : Status} (hlink : LinkOpen s)
    (h : releaseRequest b (acceptFrame (take (.bayRelease tag [if b = .A then 0 else 1]) s)) = (v, st)) :
    exec (.bayRelease tag [if b = .A then 0 else 1]) s = .next (finish (respond tag 0x22 st [] v)) :=
  exec_request hlink (by simp) rfl ((bayReleaseAnswer_bay b _).trans (by rw [h]))

@[simp] theorem bayOf_acceptFrame (s : State) (b : Bay) : bayOf (acceptFrame s) b = bayOf s b := bayOf_congr (by simp) b

@[simp] theorem bayOf_respond (tag code : Byte) (st : Status) (r : List Byte) (s : State) (b : Bay) :
    bayOf (respond tag code st r s) b = bayOf s b := bayOf_congr (by simp) b

theorem respond_lu_of {tag code : Byte} {st : Status} {r : List Byte} {s t : State} (h : t.lu = s.lu) :
    (respond tag code st r t).lu = (respond tag code st r s).lu := by
  simp only [respond_lu, h]

/-- Settles O11. -/
theorem releaseGrantedOrDeferred : Obligations.ReleaseGrantedOrDeferred := by
  refine ⟨fun b s hhold htransfer hst => ?_, fun b s hhold => ⟨fun hrefusal => ?_, fun hlocked => ?_, fun tag hlink => ?_⟩⟩
  · have hleft : (bayOf s b).state ≠ .releasing := by
      rcases hst with h | h | ⟨r, h⟩ <;> simp [h]
    have granted (t : State) (hppc : t.ppc = s.ppc) :
        (releaseRequest b t) = (raise (.releaseGranted b) (enterBay b .released t), .ok) :=
      releaseRequest_grants (by rw [hppc, hhold]) (by rw [hppc, htransfer]) (by simpa only [bayOf_congr hppc] using hst)
    have hlu (t : State) (hlu : t.lu = s.lu) (hts : t.ts = s.ts) :
        (raise (.releaseGranted b) (enterBay b .released t)).lu = (raise (.releaseGranted b) s).lu :=
      raise_lu_of (by simp [hlu]) (by simp [hts])
    refine ⟨⟨_, exec_effect (by simp) s, ?_⟩, fun hstandby => ⟨_, exec_effect (by simp) s, ?_⟩, fun tag hlink => ?_⟩
    · have heffect : effect (.ppcRelRising b) s = raise (.releaseGranted b) (enterBay b .released (take (.ppcRelRising b) s)) := by
        simp only [effect, relRose, granted (take (.ppcRelRising b) s) rfl]
        exact runHoldTimer_idle (by simp [enteredRecord_released])
      rw [heffect, hlu (take (.ppcRelRising b) s) rfl rfl]
      simp [keeps_iff, onlyBayRecord_iff, enteredRecord_released, enterBay_delivered_eq, hleft]
    · have heffect : effect (.ppcLatchFalling b) s =
          raise (.releaseGranted b) (enterBay b .released (raise (.latchForced b) (take (.ppcLatchFalling b) s))) := by
        simp [effect, latchFell, hstandby, BayState.locked, granted (raise (.latchForced b) (take (.ppcLatchFalling b) s)) (by simp)]
      have hlatch : (raise (.releaseGranted b) (enterBay b .released (raise (.latchForced b) (take (.ppcLatchFalling b) s)))).lu =
          (raise (.releaseGranted b) (raise (.latchForced b) s)).lu :=
        raise_lu_of (by simpa using raise_lu_of (by simp) (by simp)) (by simp)
      rw [heffect]
      simp [keeps_iff, onlyBayRecord_iff, enteredRecord_released, enterBay_delivered_eq, hleft, hlatch]
    · refine ⟨_, exec_bayRelease hlink (granted _ rfl), ?_⟩
      have hanswer (t : State) (hlu' : t.lu = (acceptFrame s).lu) (hts : t.ts = s.ts) :
          (respond tag 0x22 .ok [] (raise (.releaseGranted b) (enterBay b .released t))).lu =
            (answered tag 0x22 .ok [] (raise (.releaseGranted b) s)).lu := by
        refine respond_lu_of ?_
        rw [← raise_acceptFrame]
        exact raise_lu_of (by simp [hlu']) (by simp [hts])
      rw [hanswer (acceptFrame (take (.bayRelease tag [if b = .A then 0 else 1]) s)) rfl rfl]
      simp [keeps_iff, onlyBayRecord_iff, enteredRecord_released]
  · rw [exec_effect (by simp), show effect (.ppcRelRising b) s = setPending b true (take (.ppcRelRising b) s) by
      simp only [effect, relRose, releaseRequest_hold (s := take (.ppcRelRising b) s) hhold]
      exact runHoldTimer_idle (by simpa [setPending] using hrefusal)]
    rfl
  · rw [exec_effect (by simp), show effect (.ppcLatchFalling b) s = setPending b true (raise (.latchForced b) (take (.ppcLatchFalling b) s)) by
      simp [effect, latchFell, hlocked, releaseRequest_hold, hhold]]
    rfl
  · exact exec_bayRelease hlink (releaseRequest_hold hhold)

end Sys2Proof.Machine
end

section
/-! PROOFS. Arbitration's reach, the release lapse, the shock hold's start and end, identification outcomes and telemetry (sections 2.3, 2.6, 4.3). -/

namespace Sys2Proof.Machine

/-! ### What charger arbitration can move (R81, R82) -/

/-- Of a state, the session record and the charger lists alone may have moved. -/
def ChargerMoved (s t : State) : Prop :=
  ∃ (session : Session) (lists : List ChargerList),
    t = { s with cc := { s.cc with session := session }, bbc := { s.bbc with lists := lists } }

theorem chargerMoved_refl (s : State) : ChargerMoved s s := ⟨s.cc.session, s.bbc.lists, rfl⟩

theorem ChargerMoved.trans {s t u : State} (h : ChargerMoved s t) (k : ChargerMoved t u) : ChargerMoved s u := by
  obtain ⟨session, lists, rfl⟩ := h
  obtain ⟨session', lists', rfl⟩ := k
  exact ⟨session', lists', rfl⟩

theorem handList_moved (kind : ListKind) (writes : List (Nat × Nat)) (s : State) : ChargerMoved s (handList kind writes s) := by
  unfold handList
  split
  · exact ⟨s.cc.session, _, rfl⟩
  · exact chargerMoved_refl s

theorem setSession_moved (x : Session) (s : State) : ChargerMoved s (setSession x s) := ⟨x, s.bbc.lists, rfl⟩

theorem withdrawStarts_moved (s : State) : ChargerMoved s (withdrawStarts s) := ⟨s.cc.session, _, rfl⟩

theorem startAttempt_moved (b : Bay) (s : State) : ChargerMoved s (startAttempt b s) := by
  unfold startAttempt
  split
  · exact (setSession_moved _ s).trans (handList_moved _ _ _)
  · exact chargerMoved_refl s

theorem abandonAttempt_moved (s : State) : ChargerMoved s (abandonAttempt s) :=
  (withdrawStarts_moved s).trans ((setSession_moved _ _).trans (handList_moved _ _ _))

theorem chooseAttempt_moved (s : State) : ChargerMoved s (chooseAttempt s) := by
  unfold chooseAttempt
  split
  · exact chargerMoved_refl s
  · split
    · exact startAttempt_moved _ s
    · exact chargerMoved_refl s

theorem arbitrate_moved (s : State) : ChargerMoved s (arbitrate s) := by
  unfold arbitrate
  split
  · exact chooseAttempt_moved s
  · split
    · exact chargerMoved_refl s
    · exact (abandonAttempt_moved s).trans (chooseAttempt_moved _)
  · exact chargerMoved_refl s

theorem ChargerMoved.cc {s t : State} (h : ChargerMoved s t) : t.cc = { s.cc with session := t.cc.session } := by
  obtain ⟨session, lists, rfl⟩ := h
  rfl

theorem ChargerMoved.bbc {s t : State} (h : ChargerMoved s t) : t.bbc = { s.bbc with lists := t.bbc.lists } := by
  obtain ⟨session, lists, rfl⟩ := h
  rfl

@[simp] theorem arbitrate_memory (s : State) :
    (arbitrate s).cc.memory = s.cc.memory ∧ (arbitrate s).cc.charged = s.cc.charged ∧ (arbitrate s).cc.failedLists = s.cc.failedLists
      ∧ (arbitrate s).cc.fault = s.cc.fault := by
  rw [(arbitrate_moved s).cc]
  simp

@[simp] theorem bayOf_arbitrate (s : State) (b : Bay) : bayOf (arbitrate s) b = bayOf s b := bayOf_congr (by simp) b

/-- With the rail OFF and no grace, a bay that becomes STANDBY is followed by arbitration alone. -/
theorem becameStandby_railOff {s : State} (b : Bay) (hrail : s.ppc.railOn = false) (hforced : s.ppc.forced = none) :
    becameStandby b s = arbitrate s := by
  rw [becameStandby, graceTestFor_empty (by simpa using hforced), selectSource, select_idle (.inl (by simpa using hrail)),
    graceLeft_empty (by simpa using hforced)]

/-! ### One bay's record alone, over several operations -/

theorem onlyBayRecord_of_ppc {b : Bay} {s t : State} (h : t.ppc = s.ppc) : OnlyBayRecord b s t := by
  rw [onlyBayRecord_iff, bayOf_congr h, h]
  exact ⟨rfl, rfl⟩

theorem OnlyBayRecord.trans {b : Bay} {s t u : State} (h : OnlyBayRecord b s t) (k : OnlyBayRecord b t u) : OnlyBayRecord b s u := by
  rw [onlyBayRecord_iff] at h k ⊢
  exact ⟨(congrArg (fun p => { p with bays := s.ppc.bays }) k.1).trans h.1, k.2.trans h.2⟩

theorem updBay_onlyBayRecord (b : Bay) (f : BayRecord → BayRecord) (s : State) : OnlyBayRecord b s (updBay b f s) := by
  simp [onlyBayRecord_iff]

theorem OnlyBayRecord.enterBay {b : Bay} {s t : State} (h : OnlyBayRecord b s t) (st : BayState) : OnlyBayRecord b s (enterBay b st t) :=
  h.trans (enterBay_onlyBayRecord b st t)

theorem OnlyBayRecord.raise {b : Bay} {s t : State} (h : OnlyBayRecord b s t) (n : Notice) : OnlyBayRecord b s (raise n t) :=
  h.trans (onlyBayRecord_of_ppc (by simp))

theorem OnlyBayRecord.arbitrate {b : Bay} {s t : State} (h : OnlyBayRecord b s t) : OnlyBayRecord b s (arbitrate t) :=
  h.trans (onlyBayRecord_of_ppc (by simp))

/-! ### The release lapse (R41) -/

/-- Settles O17. -/
theorem releaseLapseRelocks : Obligations.ReleaseLapseRelocks := by
  intro b e s hst htimer hpres
  have lapsed : effect (.releaseLapseExpiry b) s =
      if filtered s (latchOf b) then relock b s else updBay b (fun r => { r with lapseTimer := some 0 }) s := by
    simp only [effect, lapseExpired, hst, htimer, hpres]
    cases filtered s (latchOf b) <;> rfl
  have hlu (st : BayState) : (raise (.releaseLapsed b) (enterBay b st s)).lu = (raise (.releaseLapsed b) s).lu :=
    raise_lu_of (by simp) (by simp)
  refine ⟨fun hlatch => ?_, fun hlatch hid halarm => ⟨_, exec_effect (by simp) s, ?_⟩, fun hlatch hid => ⟨_, exec_effect (by simp) s, ?_⟩⟩
  · rw [exec_effect (by simp), lapsed, hlatch]
    rfl
  · rw [lapsed, if_pos hlatch, show relock b s = raise (.releaseLapsed b) (enterBay b (.faulted .alarm) s) by
      simp [relock, hid, restState, halarm]]
    simp [keeps_iff, onlyBayRecord_iff, enteredRecord_plain, enterBay_delivered_eq, hst, hlu]
  · rw [lapsed, if_pos hlatch, show relock b s = raise (.releaseLapsed b) (enterBay b .identifying s) by simp [relock, hid]]
    simp [keeps_iff, onlyBayRecord_iff, enteredRecord_plain, enterBay_delivered_eq, enteredBus, hst, hlu]

/-! ### The shock hold (R38, R39) -/

/-- A standing refusal at the hold's start becomes a pending mark by REL. -/
theorem holdRefusal_eq (b : Bay) (s : State) : holdRefusal b s = updBay b (fun r =>
    if r.refusal then
      { r with refusal := false, holdTimer := none, pendingRelease := r.pendingRelease || filtered s (relOf b) }
    else r) s := by
  have hends : filtered (endRefusal b s) (relOf b) = filtered s (relOf b) := rfl
  unfold holdRefusal
  cases hrefusal : (bayOf s b).refusal
  · have hkept : (if (s.ppc.bays.get b).refusal then { s.ppc.bays.get b with
        refusal := false, holdTimer := none, pendingRelease := (s.ppc.bays.get b).pendingRelease || filtered s (relOf b) }
        else s.ppc.bays.get b) = s.ppc.bays.get b := if_neg (by simpa [bayOf] using hrefusal)
    simp only [Bool.false_eq_true, if_false, updBay, hkept, set_get]
  · have hturned : (s.ppc.bays.get b).refusal = true := hrefusal
    simp only [if_true, hends]
    cases filtered s (relOf b)
    · simp [endRefusal, updBay, hturned]
    · simp [endRefusal, setPending, updBay, hturned]

/-- With one pending mark set, that bay's request alone is evaluated. -/
theorem evaluatePendings_one {b : Bay} {s : State} (hb : (bayOf s b).pendingRelease = true) (ho : (bayOf s b.other).pendingRelease = false)
    (hkeeps : (bayOf (evaluatePending b s) b.other).pendingRelease = false) : evaluatePendings s = evaluatePending b s := by
  cases b
  · have hB : (bayOf s .B).pendingRelease = false := ho
    simp only [evaluatePendings, hb, hB, Bool.and_false, Bool.false_eq_true, if_false]
    rw [evaluatePending, if_neg (by simpa [Bay.other] using hkeeps)]
  · have hA : (bayOf s .A).pendingRelease = false := ho
    simp only [evaluatePendings, hA, Bool.false_and, Bool.false_eq_true, if_false]
    rw [evaluatePending.eq_1 .A, if_neg (by simp [hA])]

@[simp] theorem bayOf_setPending_same (b : Bay) (v : Bool) (s : State) :
    bayOf (setPending b v s) b = { bayOf s b with pendingRelease := v } := by simp [setPending]

@[simp] theorem bayOf_setPending_other (b : Bay) (v : Bool) (s : State) : bayOf (setPending b v s) b.other = bayOf s b.other := by
  simp [setPending]

/-- Outside the hold and any transfer the pending mark of a STANDBY bay releases it. -/
theorem evaluatePending_standby {b : Bay} {s : State} (hhold : s.ppc.hold = false) (htransfer : s.ppc.transfer = none)
    (hb : (bayOf s b).pendingRelease = true) (hst : (bayOf s b).state = .standby) :
    evaluatePending b s = raise (.releaseGranted b) (enterBay b .released (setPending b false s)) := by
  rw [evaluatePending, if_pos hb, releaseRequest_grants (s := setPending b false s) hhold htransfer (.inr (.inl (by simpa using hst)))]

/-- The hold's end releases a STANDBY bay whose pending mark alone is set. -/
theorem holdEnded_standby {b : Bay} {s : State} (htransfer : s.ppc.transfer = none) (hb : (bayOf s b).pendingRelease = true)
    (ho : (bayOf s b.other).pendingRelease = false) (hst : (bayOf s b).state = .standby) :
    holdEnded s = raise (.releaseGranted b) (enterBay b .released (setPending b false (updPpc (fun p => { p with hold := false }) s))) := by
  have hended := evaluatePending_standby (s := updPpc (fun p => { p with hold := false }) s) rfl htransfer hb hst
  have hother : (bayOf (updPpc (fun p => { p with hold := false }) s) b.other).pendingRelease = false := ho
  rw [holdEnded, evaluatePendings_one (s := updPpc (fun p => { p with hold := false }) s) hb ho (by rw [hended]; simpa using hother), hended]

/-- Settles O18. -/
theorem shockHoldGuardsReleases : Obligations.ShockHoldGuardsReleases := by
  intro s
  refine ⟨⟨_, exec_effect (by simp) s, ?_⟩, fun hA hB => ?_, fun b hb ho hst htransfer => ⟨_, exec_effect (by simp) s, ?_⟩⟩
  · rw [show effect .ppcShockHoldStart s = holdStarted (take .ppcShockHoldStart s) from rfl, holdStarted, holdRefusal_eq, holdRefusal_eq]
    refine ⟨by simp [keeps_iff], rfl, rfl, rfl, fun b => ?_⟩
    cases b
    · rfl
    · rfl
  · rw [exec_effect (by simp), show effect .ppcShockHoldEnd s = updPpc (fun p => { p with hold := false }) (take .ppcShockHoldEnd s) from
      evaluatePendings_none fun b => by cases b <;> assumption]
    rfl
  · have hlu : (raise (.releaseGranted b) (enterBay b .released (setPending b false
        (updPpc (fun p => { p with hold := false }) (take .ppcShockHoldEnd s))))).lu = (raise (.releaseGranted b) s).lu :=
      raise_lu_of (by simp [setPending]) (by simp [setPending])
    rw [show effect .ppcShockHoldEnd s = _ from holdEnded_standby (s := take .ppcShockHoldEnd s) htransfer hb ho hst]
    refine ⟨?_, ?_, ?_, ?_, hlu⟩
    · simp [setPending]
    · simp [keeps_iff, setPending]
    · simp [enteredRecord_released, setPending, bayOf]
    · simp [setPending, bayOf]

/-! ### Identification outcomes (R18, R19, R70) -/

theorem head_rememberIn (isPinned : Nat → Bool) (b : Bay) (id : Identity) (charge : Nat) (memory : List PackEntry) :
    (rememberIn isPinned b id charge memory).head?.map PackEntry.serial = some id.serial := by
  unfold rememberIn
  split
  · rename_i e hfound
    have hserial : e.serial = id.serial := by simpa using List.find?_some hfound
    simp [identifiedEntry, hserial]
  · rfl

theorem bayOf_adoptPack_same (b : Bay) (id : Identity) (t : Telemetry) (s : State) : bayOf (adoptPack b id t s) b =
    { bayOf s b with
      identity := some id, telemetry := some t, profile := s.ts.t3.active.findIdx? (profileMatches id),
      alarms := joinAlarms (bayOf s b).alarms t.alarms, cleanReads := if anyAlarm t.alarms then 0 else (bayOf s b).cleanReads } := by
  have hkept : bayOf (rememberPack b id t.charge s) b = bayOf s b := bayOf_congr (by simp) b
  rw [adoptPack, bayOf_updBay_same, hkept]
  rfl

theorem bayOf_adoptPack_other (b : Bay) (id : Identity) (t : Telemetry) (s : State) :
    bayOf (adoptPack b id t s) b.other = bayOf s b.other := by
  rw [adoptPack, bayOf_updBay_other]
  exact bayOf_congr (by simp) _

theorem adoptPack_onlyBayRecord (b : Bay) (id : Identity) (t : Telemetry) (s : State) : OnlyBayRecord b s (adoptPack b id t s) :=
  (onlyBayRecord_of_ppc (by simp)).trans (updBay_onlyBayRecord b _ (rememberPack b id t.charge s))

theorem head_adoptPack (b : Bay) (id : Identity) (t : Telemetry) (s : State) :
    (adoptPack b id t s).cc.memory.head?.map PackEntry.serial = some id.serial := head_rememberIn ..

theorem isDuplicate_eq_false {b : Bay} {s : State} {serial : Nat}
    (h : (bayOf s b.other).state = .empty ∨ (bayOf s b.other).identity.map Identity.serial ≠ some serial) : isDuplicate s b serial = false := by
  rcases h with h | h <;> simp [isDuplicate, serialOf, h]

/-- Settles O19. -/
theorem identificationOutcomeDecidesBay : Obligations.IdentificationOutcomeDecidesBay := by
  intro b s
  refine ⟨fun o hst => ?_, fun hst => ⟨fun r => ⟨_, exec_effect (by simp) s, ?_⟩, fun id t hempty hserial => ⟨_, exec_effect (by simp) s, ?_⟩,
    fun id t hnew hforced hcase => ?_⟩⟩
  · rw [exec_effect (by simp), show effect (.ppcIdentificationOutcome b o) s = take (.ppcIdentificationOutcome b o) s by
      simp [effect, identificationEnded, hst]]
    rfl
  · rw [show effect (.ppcIdentificationOutcome b (.failed r)) s = faultBay b .idFail (take (.ppcIdentificationOutcome b (.failed r)) s) by
      simp [effect, identificationEnded, hst]]
    simp [faultBay, keeps_iff, onlyBayRecord_iff, enteredRecord_plain]
    exact raise_lu_of (by simp) (by simp)
  · rw [show effect (.ppcIdentificationOutcome b (.success id t)) s = faultBay b .duplicate (take (.ppcIdentificationOutcome b (.success id t)) s) by
      simp [effect, identificationEnded, hst, isDuplicate, serialOf, hempty, hserial]]
    simp [faultBay, keeps_iff, onlyBayRecord_iff, enteredRecord_plain]
    exact raise_lu_of (by simp) (by simp)
  · have hsuccess : effect (.ppcIdentificationOutcome b (.success id t)) s = identified b id t (take (.ppcIdentificationOutcome b (.success id t)) s) := by
      simp only [effect, identificationEnded]
      rw [if_pos (by simpa using hst), if_neg (by rw [isDuplicate_eq_false (by simpa using hnew)]; simp)]
    refine ⟨_, exec_effect (by simp) s, ?_⟩
    rw [hsuccess]
    have hadopted : OnlyBayRecord b s (adoptPack b id t (take (.ppcIdentificationOutcome b (.success id t)) s)) :=
      (onlyBayRecord_of_ppc rfl).trans (adoptPack_onlyBayRecord b id t (take (.ppcIdentificationOutcome b (.success id t)) s))
    cases halarm : anyAlarm t.alarms
    · have hrail : s.ppc.railOn = false := hcase.resolve_left (by simp [halarm])
      rw [show identified b id t (take (.ppcIdentificationOutcome b (.success id t)) s) = _ from
        (if_neg (by simp [halarm])).trans (becameStandby_railOff b (by simpa [adoptPack] using hrail) (by simpa [adoptPack] using hforced))]
      refine ⟨by simp [keeps_iff], ((hadopted.enterBay _).raise _).arbitrate, ?_, ?_, ?_⟩
      · simp [enteredRecord_plain, bayOf_adoptPack_same, halarm]
      · simp [head_adoptPack]
      · simpa using raise_lu_of (by simp) (by simp)
    · rw [show identified b id t (take (.ppcIdentificationOutcome b (.success id t)) s) = _ from
        (if_pos halarm).trans (graceTestFor_empty (by simpa [faultBay, adoptPack] using hforced) b)]
      refine ⟨by simp [keeps_iff, faultBay], ((hadopted.raise _).enterBay _).raise _, ?_, ?_, ?_⟩
      · simp [faultBay, enteredRecord_plain, bayOf_adoptPack_same, halarm]
      · simp [faultBay, head_adoptPack]
      · simp only [bayOf_adoptPack_same, bayOf_take, if_true]
        exact raise_lu_of (by simpa using raise_lu_of (by simp) (by simp)) (by simp)

end Sys2Proof.Machine
end

section
/-! PROOFS. Telemetry blocks at the Power Path Controller (R20, R21). -/

namespace Sys2Proof.Machine

/-! ### Alarm sets -/

theorem joinAlarms_clean (x : AlarmSet) {y : AlarmSet} (h : anyAlarm y = false) : joinAlarms x y = x := by
  simp only [anyAlarm, Bool.or_eq_false_iff] at h
  obtain ⟨⟨⟨h1, h2⟩, h3⟩, h4⟩ := h
  simp [joinAlarms, h1, h2, h3, h4]

theorem joinAlarms_empty (y : AlarmSet) : joinAlarms noAlarms y = y := by simp [joinAlarms, noAlarms]

theorem anyAlarm_joinAlarms (x : AlarmSet) {y : AlarmSet} (h : anyAlarm y = true) : anyAlarm (joinAlarms x y) = true := by
  simp only [anyAlarm, joinAlarms, Bool.or_eq_true] at h ⊢
  tauto

theorem anyAlarm_clearedAlarms {x : AlarmSet} (h : anyAlarm (clearedAlarms x) = true) : anyAlarm x = true := by
  simp only [anyAlarm, clearedAlarms, Bool.or_eq_true] at h ⊢
  tauto

/-! ### A block stored (R20, R21) -/

theorem updBay_congr {b : Bay} {f g : BayRecord → BayRecord} {s : State} (h : f (bayOf s b) = g (bayOf s b)) : updBay b f s = updBay b g s := by
  have hget : f (s.ppc.bays.get b) = g (s.ppc.bays.get b) := h
  simp only [updBay, hget]

/-- The states in which a block is taken: those with an identified pack. -/
def BayState.identified (st : BayState) : Prop := st ≠ .empty ∧ st ≠ .seating ∧ st ≠ .identifying

/-- With no grace, and the bay not SUPPLYING, a block does what its alarms say. -/
theorem pathTelemetry_eq {b : Bay} {t : Telemetry} {s u : State} (hid : (bayOf s b).state.identified) (hu : takeAlarms b t s = u)
    (hforced : u.ppc.forced = none) (hsupplying : (bayOf u b).state ≠ .supplying) : pathTelemetry b t s = u := by
  obtain ⟨h1, h2, h3⟩ := hid
  have hcalls : callsSelection s u b t = false := by simp [callsSelection, hsupplying]
  unfold pathTelemetry
  split
  · exact absurd ‹_› h1
  · exact absurd ‹_› h2
  · exact absurd ‹_› h3
  · simp only [hu, hcalls, Bool.false_eq_true, if_false]
    exact graceTestFor_empty hforced b

/-- The bay's record with a block that carries flags. -/
def joinedRecord (t : Telemetry) (r : BayRecord) : BayRecord :=
  { r with telemetry := some t, alarms := joinAlarms r.alarms t.alarms, cleanReads := 0 }

/-- The bay's record with a clean block. -/
def cleanRecord (t : Telemetry) (r : BayRecord) : BayRecord :=
  { r with
    telemetry := some t, cleanReads := if r.cleanReads < 2 then r.cleanReads + 1 else 3,
    alarms := if r.cleanReads < 2 then r.alarms else { r.alarms with overTemp := false, overCurrent := false } }

theorem alarmsAfter_joined {t : Telemetry} (h : anyAlarm t.alarms = true) (r : BayRecord) :
    alarmsAfter { r with telemetry := some t } t = joinedRecord t r := by simp [alarmsAfter, h, joinedRecord]

theorem alarmsAfter_clean {t : Telemetry} (h : anyAlarm t.alarms = false) (r : BayRecord) :
    alarmsAfter { r with telemetry := some t } t = cleanRecord t r := by
  by_cases hreads : r.cleanReads < 2
  · have h3 : ¬3 ≤ r.cleanReads + 1 := by omega
    have hmin : min (r.cleanReads + 1) 3 = r.cleanReads + 1 := by omega
    simp [alarmsAfter, h, cleanRecord, hreads, h3, hmin]
  · have h3 : 3 ≤ r.cleanReads + 1 := by omega
    simp [alarmsAfter, h, cleanRecord, hreads, h3, clearedAlarms]

/-- A clean block brings no alarm. -/
theorem anyAlarm_cleanRecord {t : Telemetry} {r : BayRecord} (h : anyAlarm (cleanRecord t r).alarms = true) : anyAlarm r.alarms = true := by
  simp only [cleanRecord] at h
  split at h
  · exact h
  · exact anyAlarm_clearedAlarms h

/-- A block with flags joins them and raises what they bring; a set that was empty acts by the bay's state. -/
theorem takeAlarms_joined {b : Bay} {t : Telemetry} {s : State} (h : anyAlarm t.alarms = true) : takeAlarms b t s =
    let u := raiseIf (bringsNew (bayOf s b).alarms t.alarms) (.packAlarm b (joinAlarms (bayOf s b).alarms t.alarms))
      (updBay b (joinedRecord t) s)
    if anyAlarm (bayOf s b).alarms then u else alarmSet b u := by
  have hall : (joinedRecord t (bayOf s b)).alarms = joinAlarms (bayOf s b).alarms t.alarms := rfl
  simp only [takeAlarms, alarmsAfter_joined h, bayOf_updBay_same, hall, anyAlarm_joinAlarms _ h]
  cases anyAlarm (bayOf s b).alarms <;> rfl

/-- A clean block raises nothing; a set that it empties acts by the bay's state. -/
theorem takeAlarms_clean {b : Bay} {t : Telemetry} {s : State} (h : anyAlarm t.alarms = false) : takeAlarms b t s =
    if anyAlarm (bayOf s b).alarms && !anyAlarm (cleanRecord t (bayOf s b)).alarms then alarmCleared b (updBay b (cleanRecord t) s)
    else updBay b (cleanRecord t) s := by
  have hnew : bringsNew (bayOf s b).alarms t.alarms = false := by simp [bringsNew, joinAlarms_clean _ h]
  have hkept : (!anyAlarm (bayOf s b).alarms && anyAlarm (cleanRecord t (bayOf s b)).alarms) = false := by
    cases hclean : anyAlarm (cleanRecord t (bayOf s b)).alarms
    · simp
    · simp [anyAlarm_cleanRecord hclean]
  simp only [takeAlarms, alarmsAfter_clean h, bayOf_updBay_same, hnew, raiseIf, Bool.false_eq_true, if_false, hkept]

/-- The states that R20 and R21 name nothing for: an alarm set that fills or empties leaves the bay there. -/
theorem alarmSet_idle {b : Bay} {s : State} (h : (bayOf s b).state = .released ∨ ∃ r, (bayOf s b).state = .faulted r) : alarmSet b s = s := by
  rcases h with h | ⟨r, h⟩ <;> simp [alarmSet, h]

theorem alarmCleared_idle {b : Bay} {s : State} (h : (bayOf s b).state = .released ∨ (∃ r, r ≠ .alarm ∧ (bayOf s b).state = .faulted r)
    ∨ (bayOf s b).state = .faulted .alarm ∧ filtered s (latchOf b) = false) : alarmCleared b s = s := by
  rcases h with h | ⟨r, hr, h⟩ | ⟨h, hlatch⟩
  · simp [alarmCleared, h]
  · cases r
    case alarm => exact absurd rfl hr
    all_goals simp [alarmCleared, h]
  · simp [alarmCleared, h, hlatch]

@[simp] theorem bayOf_raiseIf (c : Bool) (n : Notice) (s : State) (b : Bay) : bayOf (raiseIf c n s) b = bayOf s b := bayOf_congr (by simp) b

/-- Flags for a RELEASED or FAULTED bay join its set, and the bay stays. -/
theorem pathTelemetry_joined {b : Bay} {t : Telemetry} {s : State} (halarm : anyAlarm t.alarms = true) (hforced : s.ppc.forced = none)
    (hst : (bayOf s b).state = .released ∨ ∃ r, (bayOf s b).state = .faulted r) : pathTelemetry b t s =
    raiseIf (bringsNew (bayOf s b).alarms t.alarms) (.packAlarm b (joinAlarms (bayOf s b).alarms t.alarms)) (updBay b (joinedRecord t) s) := by
  refine pathTelemetry_eq ?_ ?_ (by simpa using hforced) ?_
  · rcases hst with h | ⟨r, h⟩ <;> simp [h, BayState.identified]
  · rw [takeAlarms_joined halarm]
    exact (if_congr Iff.rfl rfl (alarmSet_idle (by simpa [joinedRecord] using hst))).trans (ite_self _)
  · rcases hst with h | ⟨r, h⟩ <;> simp [joinedRecord, h]

/-- A clean block is counted, and a bay that no rule of R21 moves stays. -/
theorem pathTelemetry_clean {b : Bay} {t : Telemetry} {s : State} (hclean : anyAlarm t.alarms = false) (hforced : s.ppc.forced = none)
    (hst : (bayOf s b).state = .released ∨ (∃ r, r ≠ .alarm ∧ (bayOf s b).state = .faulted r)
      ∨ (bayOf s b).state = .faulted .alarm ∧ (anyAlarm (cleanRecord t (bayOf s b)).alarms = true ∨ filtered s (latchOf b) = false)) :
    pathTelemetry b t s = updBay b (cleanRecord t) s := by
  have hstate : (bayOf s b).state = .released ∨ ∃ r, (bayOf s b).state = .faulted r := by
    rcases hst with h | ⟨r, _, h⟩ | ⟨h, _⟩
    · exact .inl h
    · exact .inr ⟨r, h⟩
    · exact .inr ⟨_, h⟩
  refine pathTelemetry_eq ?_ ?_ (by simpa using hforced) ?_
  · rcases hstate with h | ⟨r, h⟩ <;> simp [h, BayState.identified]
  · rw [takeAlarms_clean hclean]
    split
    · rename_i hempties
      have hleft : anyAlarm (cleanRecord t (bayOf s b)).alarms = false := by
        rw [Bool.and_eq_true, Bool.not_eq_true'] at hempties
        exact hempties.2
      have hlatch : filtered (updBay b (cleanRecord t) s) (latchOf b) = filtered s (latchOf b) := filtered_congr (by simp) _
      have hbay : (bayOf (updBay b (cleanRecord t) s) b).state = (bayOf s b).state := by simp [cleanRecord]
      refine alarmCleared_idle ?_
      rw [hbay, hlatch]
      simpa only [hleft, Bool.false_eq_true, false_or] using hst
    · rfl
  · rcases hstate with h | ⟨r, h⟩ <;> simp [cleanRecord, h]

/-- A clean block that empties the set of a latched bay FAULTED with ALARM makes it STANDBY; with the rail OFF arbitration alone follows. -/
theorem pathTelemetry_returns {b : Bay} {t : Telemetry} {s : State} (hclean : anyAlarm t.alarms = false) (hforced : s.ppc.forced = none)
    (hst : (bayOf s b).state = .faulted .alarm) (halarm : alarmMark s b = true)
    (hleft : anyAlarm (cleanRecord t (bayOf s b)).alarms = false) (hlatch : filtered s (latchOf b) = true) (hrail : s.ppc.railOn = false) :
    pathTelemetry b t s = arbitrate (enterBay b .standby (updBay b (cleanRecord t) s)) := by
  have hmark : anyAlarm (bayOf s b).alarms = true := halarm
  refine pathTelemetry_eq (by simp [hst, BayState.identified]) ?_ (by simpa using hforced) (by simp [enteredRecord_plain])
  have hlatched : filtered (updBay b (cleanRecord t) s) (latchOf b) = true :=
    (filtered_congr (by simp) _).trans hlatch
  have hbay : (bayOf (updBay b (cleanRecord t) s) b).state = .faulted .alarm := by simp [cleanRecord, hst]
  rw [takeAlarms_clean hclean, hmark, hleft]
  simp only [alarmCleared, hbay, hlatched, returnToStandby]
  exact becameStandby_railOff b (by simpa using hrail) (by simpa using hforced)

/-- Settles O20. -/
theorem telemetryUpdatesAlarms : Obligations.TelemetryUpdatesAlarms := by
  intro b t s received
  refine ⟨fun hst => ?_, fun hst hempty halarm hforced => ?_, fun hforced halarm hst => ?_, fun hforced hclean => ⟨fun hst => ?_, fun hst halarm hleft hlatch hrail => ?_⟩⟩
  · have hdiscarded : pathTelemetry b t (take (.ppcTelemetry b t) s) = take (.ppcTelemetry b t) s := by
      rcases hst with h | h | h <;> simp [pathTelemetry, h]
    rw [exec_effect (by simp), show effect (.ppcTelemetry b t) s = _ from hdiscarded]
    rfl
  · have hnew : bringsNew noAlarms t.alarms = true := by
      rw [bringsNew, joinAlarms_empty, bne_iff_ne]
      exact fun h => by simp [h, noAlarms, anyAlarm] at halarm
    have htaken : takeAlarms b t (take (.ppcTelemetry b t) s) = raise (.bayFault b .alarm) (enterBay b (.faulted .alarm)
        (raise (.packAlarm b t.alarms) (updBay b (joinedRecord t) (take (.ppcTelemetry b t) s)))) := by
      have hquiet : anyAlarm noAlarms = false := rfl
      simp [takeAlarms_joined halarm, hempty, joinAlarms_empty, hnew, raiseIf, alarmSet, hst, hquiet, joinedRecord, faultBay]
    refine ⟨_, exec_effect (by simp) s, ?_⟩
    rw [show effect (.ppcTelemetry b t) s = _ from pathTelemetry_eq (by simp [hst, BayState.identified]) htaken (by simpa using hforced)
      (by simp [enteredRecord_plain])]
    refine ⟨by simp [keeps_iff], by simp [onlyBayRecord_iff], ?_, ?_⟩
    · simp [enteredRecord_plain, joinedRecord, hempty, joinAlarms_empty]
    · exact raise_lu_of (by simpa using raise_lu_of (by simp) (by simp)) (by simp)
  · intro all joined
    have hjoined : updBay b (joinedRecord t) (take (.ppcTelemetry b t) s) = joined := updBay_congr rfl
    have hraised : raiseIf (bringsNew (bayOf s b).alarms t.alarms) (.packAlarm b all) joined =
        if all = (bayOf s b).alarms then joined else raise (.packAlarm b all) joined := by
      by_cases hall : all = (bayOf s b).alarms
      · simp [raiseIf, bringsNew, hall, all]
      · simp [raiseIf, bringsNew, hall, all]
    rw [exec_effect (by simp), show effect (.ppcTelemetry b t) s = _ from pathTelemetry_joined halarm hforced hst, hjoined, ← hraised]
    rfl
  · rw [exec_effect (by simp), show effect (.ppcTelemetry b t) s = _ from pathTelemetry_clean hclean hforced hst]
    exact congrArg (fun u => Host.Outcome.next (finish u)) (updBay_congr rfl)
  · refine ⟨_, exec_effect (by simp) s, ?_⟩
    rw [show effect (.ppcTelemetry b t) s = _ from pathTelemetry_returns hclean hforced hst halarm hleft hlatch hrail]
    refine ⟨by simp [keeps_iff], by simp [onlyBayRecord_iff], ?_, ?_⟩
    · simpa using (arbitrate_moved (enterBay b .standby (updBay b (cleanRecord t) (take (.ppcTelemetry b t) s)))).cc
    · simp [enteredRecord_plain, cleanRecord]

end Sys2Proof.Machine
end

section
/-! PROOFS. Charger arbitration, marked packs, telemetry at the charger, and start lists reported (chapter 4). -/

namespace Sys2Proof.Machine

/-! ### Eligibility (R80) -/

theorem window_iff (low high v : Int) : window low high v = true ↔ high ≤ low ∨ low ≤ v ∧ v ≤ high := by simp [window]

theorem bayShocked_eq_false_iff (s : State) (b : Bay) : bayShocked s b = false ↔
    ∀ id, (bayOf s b).identity = some id → ∀ e ∈ s.cc.memory, e.serial = id.serial → e.shocked = false := by
  unfold bayShocked serialOf
  cases (bayOf s b).identity with
  | none => simp
  | some id => simp

theorem chargeable_iff (s : State) (b : Bay) (low high : Int) : chargeable s b low high = true ↔
    (bayOf s b).state = .standby ∧ dcFeedsAlone s = true ∧ (bayOf s b).profile.isSome ∧ bayShocked s b = false
      ∧ alarmMark s b = false ∧ (bayOf s b).telemetryLost = false
      ∧ ∃ t, (bayOf s b).telemetry = some t ∧ (high ≤ low ∨ low ≤ t.temperature ∧ t.temperature ≤ high)
        ∧ (t.charge ≤ paramN s 42 ∨ s.cc.charged.get b = false ∧ t.charge < 100) := by
  simp only [chargeable, alarmMark]
  cases (bayOf s b).telemetry with
  | none => simp
  | some t => simp [window_iff, and_assoc]

theorem eligibleToCharge_eq {s : State} {b : Bay} {i : Nat} {p : Profile} (hi : (bayOf s b).profile = some i)
    (hp : s.ts.t3.active[i]? = some p) : eligibleToCharge s b = chargeable s b p.tempLow p.tempHigh := by
  simp [eligibleToCharge, bayProfile, profileAt, hi, hp]

theorem eligibleToCharge_profile {s : State} {b : Bay} (h : eligibleToCharge s b = true) :
    ∃ i p, (bayOf s b).profile = some i ∧ s.ts.t3.active[i]? = some p := by
  unfold eligibleToCharge bayProfile profileAt at h
  cases hi : (bayOf s b).profile with
  | none => simp [hi] at h
  | some i =>
    cases hp : s.ts.t3.active[i]? with
    | none => simp [hi, hp] at h
    | some p => exact ⟨i, p, rfl, hp⟩

/-! ### Arbitration (R81, R82) -/

theorem chooseCharge_none {s : State} (h : ∀ b, eligibleToCharge s b = false) : chooseCharge s = none := by
  simp [chooseCharge, h .A, h .B]

/-- The eligible bay of lower charge is chosen, bay A on a tie. -/
theorem chooseCharge_some {s : State} {b : Bay} (hb : eligibleToCharge s b = true)
    (ho : eligibleToCharge s b.other = true → chargeOf s b < chargeOf s b.other ∨ chargeOf s b = chargeOf s b.other ∧ b = .A) :
    chooseCharge s = some b := by
  cases b
  · have hlower : eligibleToCharge s .B = true → ¬chargeOf s .B < chargeOf s .A := by
      intro h
      rcases ho h with h | ⟨h, _⟩ <;> simp only [Bay.other] at h <;> omega
    cases hB : eligibleToCharge s .B
    · simp [chooseCharge, hb, hB]
    · simp [chooseCharge, hb, hB, hlower hB]
  · have hlower : eligibleToCharge s .A = true → chargeOf s .B < chargeOf s .A := fun h => (ho h).resolve_right (by simp)
    cases hA : eligibleToCharge s .A
    · simp [chooseCharge, hb, hA]
    · simp [chooseCharge, hb, hA, hlower hA]

theorem startAttempt_eq {s : State} {b : Bay} {i : Nat} {p : Profile} (hi : (bayOf s b).profile = some i)
    (hp : s.ts.t3.active[i]? = some p) : startAttempt b s = { s with
      cc := { s.cc with session := .starting b i (recordedOf p) },
      bbc := { s.bbc with lists := s.bbc.lists ++ (if dcPresent s then [⟨.start, startWrites (recordedOf p), false⟩] else []) } } := by
  have hprofile : bayProfile s b = some p := by simp [bayProfile, profileAt, hi, hp]
  simp only [startAttempt, hi, hprofile, handList]
  by_cases hdc : dcPresent s = true
  · rw [if_pos (by exact hdc), if_pos hdc]
    rfl
  · rw [if_neg (by exact hdc), if_neg hdc, List.append_nil]
    rfl

theorem chooseAttempt_idle {s : State} (h : s.cc.fault = true ∨ ∀ b, eligibleToCharge s b = false) : chooseAttempt s = s := by
  rcases h with h | h
  · simp [chooseAttempt, h]
  · simp [chooseAttempt, chooseCharge_none h]

/-- An attempt that is abandoned while no bay is eligible leaves the record NONE and the stop list behind what a write in flight needs. -/
theorem abandonAttempt_eq {s : State} (hdc : dcPresent s = true) : abandonAttempt s = { s with
    cc := { s.cc with session := .none },
    bbc := { s.bbc with lists := withdrawn (fun l => l.kind == .start) (chargerInFlight s) s.bbc.lists ++ [⟨.stop, [(0x33, 0)], false⟩] } } := by
  have hstill : dcPresent (setSession .none (withdrawStarts s)) = true := hdc
  simp only [abandonAttempt, handStop, handList, hstill, if_true]
  rfl

theorem chargerInFlight_eq_false {s : State} (h : ∀ t, s.bbc.inFlight = some t → t.owner ≠ .charger) : chargerInFlight s = false := by
  unfold chargerInFlight
  split
  · rename_i t ht
    simpa using h t ht
  · rfl

/-! ### The end of a session (R88) -/

theorem chooseCharge_eligible {s : State} {b : Bay} (h : chooseCharge s = some b) : eligibleToCharge s b = true := by
  unfold chooseCharge at h
  split at h
  · split at h <;> cases h <;> assumption
  · cases h
    assumption
  · cases h
    assumption
  · cases h

/-- An attempt is chosen for an eligible bay alone. -/
theorem chooseAttempt_session (s : State) : (chooseAttempt s).cc.session = s.cc.session
    ∨ ∃ b i v, eligibleToCharge s b = true ∧ (chooseAttempt s).cc.session = .starting b i v := by
  unfold chooseAttempt
  split
  · exact .inl rfl
  · split
    · rename_i b hchosen
      have heligible := chooseCharge_eligible hchosen
      obtain ⟨i, p, hi, hp⟩ := eligibleToCharge_profile heligible
      exact .inr ⟨b, i, recordedOf p, heligible, by rw [startAttempt_eq hi hp]⟩
    · exact .inl rfl

theorem eligibleToCharge_congr {s t : State} (hppc : t.ppc = s.ppc) (hmemory : t.cc.memory = s.cc.memory)
    (hcharged : t.cc.charged = s.cc.charged) (hts : t.ts = s.ts) (b : Bay) : eligibleToCharge t b = eligibleToCharge s b := by
  have hprofile : bayProfile t b = bayProfile s b := by
    simp only [bayProfile, bayOf, hppc]
    exact congrArg (Option.bind _) (funext fun i => by rw [profileAt, profileAt, hts])
  simp only [eligibleToCharge, hprofile, chargeable, bayShocked, serialOf, dcFeedsAlone, bayOf, paramN, param, hppc, hmemory, hcharged, hts]
  rfl

/-- With the record NONE, arbitration leaves it so or starts an attempt of an eligible bay. -/
theorem arbitrate_none_session {s : State} (h : s.cc.session = .none) : (arbitrate s).cc.session = .none
    ∨ ∃ b i v, eligibleToCharge s b = true ∧ (arbitrate s).cc.session = .starting b i v := by
  have hchooses : arbitrate s = chooseAttempt s := by simp [arbitrate, h]
  rw [hchooses, ← h]
  exact chooseAttempt_session s

/-- What follows the end of a session leaves no session ACTIVE. -/
theorem endSession_session (s : State) : (endSession s).cc.session = .none
    ∨ ∃ b i v, eligibleToCharge s b = true ∧ (endSession s).cc.session = .starting b i v := by
  have hsession : (handStop (tellBudget (setSession .none s))).cc.session = .none := by simp
  rcases arbitrate_none_session hsession with h | ⟨b, i, v, hb, h⟩
  · exact .inl h
  · refine .inr ⟨b, i, v, ?_, h⟩
    rw [← hb]
    exact (eligibleToCharge_congr (by simp) (by simp) (by simp) (by simp) b).symm

theorem endSession_cc (s : State) : (endSession s).cc = { s.cc with session := (endSession s).cc.session } := by
  have h := (arbitrate_moved (handStop (tellBudget (setSession .none s)))).cc
  have hmoved : (handStop (tellBudget (setSession .none s))).cc = { s.cc with session := .none } := by simp
  rw [hmoved] at h
  exact h

theorem endSession_not_active (s : State) (b : Bay) (i : Nat) (v : Recorded) : (endSession s).cc.session ≠ .active b i v := by
  rcases endSession_session s with h | ⟨_, _, _, _, h⟩ <;> simp [h]

@[simp] theorem bayOf_endSession (s : State) (b : Bay) : bayOf (endSession s) b = bayOf s b := bayOf_congr (by simp) b

/-- A CHARGING bay whose charge switch opens at the CC's request is STANDBY. -/
theorem openChargeForCc_charging {b : Bay} {s : State} (h : (bayOf s b).state = .charging) :
    openChargeForCc b s = enterBay b .standby (updBay b (fun r => { r with charge := false }) s) := by
  simp [openChargeForCc, h, openCharge]

/-! ### Marked packs (R72) -/

/-- The memory with the entries of some serials marked. -/
def markedMemory (serials : List Nat) (seq : Option Nat) (memory : List PackEntry) : List PackEntry :=
  memory.map fun e => if e.serial ∈ serials then { e with shocked := true, shockSequence := seq } else e

theorem foldl_markSerial (serials : List Nat) (seq : Option Nat) (s : State) :
    serials.foldl (markSerial seq) s = updMemory (markedMemory serials seq) s := by
  induction serials generalizing s with
  | nil => simp [updMemory, markedMemory]
  | cons n rest ih =>
    rw [List.foldl_cons, ih]
    simp only [markSerial, updMemory, changeEntry, markedMemory, List.map_map]
    congr 3
    funext e
    by_cases hn : e.serial = n
    · simp [hn]
    · by_cases hrest : e.serial ∈ rest
      · simp [hn, hrest]
      · simp [hn, hrest]

@[simp] theorem bayOf_updMemory (f : List PackEntry → List PackEntry) (s : State) (b : Bay) : bayOf (updMemory f s) b = bayOf s b :=
  bayOf_congr (by simp) b

theorem eligibleToCharge_iff (s : State) (b : Bay) : eligibleToCharge s b = true ↔
    ∃ i p, (bayOf s b).profile = some i ∧ s.ts.t3.active[i]? = some p ∧ chargeable s b p.tempLow p.tempHigh = true := by
  constructor
  · intro h
    obtain ⟨i, p, hi, hp⟩ := eligibleToCharge_profile h
    exact ⟨i, p, hi, hp, eligibleToCharge_eq hi hp ▸ h⟩
  · rintro ⟨i, p, hi, hp, h⟩
    exact (eligibleToCharge_eq hi hp).trans h

/-- An attempt that fails R80 is abandoned, and with no eligible bay nothing more is chosen. -/
theorem arbitrate_abandons {s : State} {b : Bay} {i : Nat} {v : Recorded} (hsession : s.cc.session = .starting b i v)
    (hfails : chargeable s b v.tempLow v.tempHigh = false) (hothers : ∀ x, eligibleToCharge s x = false) :
    arbitrate s = abandonAttempt s := by
  have hstill (x : Bay) : eligibleToCharge (abandonAttempt s) x = false := by
    obtain ⟨session, lists, hmoved⟩ := abandonAttempt_moved s
    rw [← hothers x, hmoved]
    exact eligibleToCharge_congr rfl rfl rfl rfl x
  simp [arbitrate, hsession, hfails, chooseAttempt_idle (.inr hstill)]

theorem sessionMarked_held {serials : List Nat} {s : State} {b : Bay} {i : Nat} {v : Recorded} {id : Identity}
    (hsession : s.cc.session = .active b i v) (hid : (bayOf s b).identity = some id) (hserial : id.serial ∈ serials)
    (hheld : ∃ e ∈ s.cc.memory, e.serial = id.serial) : sessionMarked serials s = true := by
  obtain ⟨e, _, _, hfound⟩ := findPack_held hheld
  simp [sessionMarked, hsession, sessionBay, serialOf, hid, hserial, hfound]

/-- A session stopped by the CC itself ends with its charge switch open, its bay STANDBY and CHARGE_HELD raised (R87, R88). -/
theorem stopSession_charging {b : Bay} {reason : HeldReason} {s : State} (h : (bayOf s b).state = .charging) : stopSession b reason s =
    endSession (raise (.chargeHeld b reason) (enterBay b .standby (updBay b (fun r => { r with charge := false }) s))) := by
  rw [stopSession, openChargeForCc_charging h]

/-- An ACTIVE session on a marked pack ends SHOCKED, once every serial is marked. -/
theorem markPacks_active {serials : List Nat} {seq : Option Nat} {b : Bay} {i : Nat} {v : Recorded} {s t : State}
    (ht : serials.foldl (markSerial seq) s = t) (hmarked : sessionMarked serials t = true) (hsession : t.cc.session = .active b i v)
    (hst : (bayOf t b).state = .charging) : markPacks serials seq s =
      endSession (raise (.chargeHeld b .shocked) (enterBay b .standby (updBay b (fun r => { r with charge := false }) t))) := by
  simp only [markPacks, ht, hmarked, if_true, hsession]
  exact stopSession_charging hst

/-- A bay whose pack's entry is marked is not eligible. -/
theorem not_eligible_marked {s : State} {b : Bay} {id : Identity} (hid : (bayOf s b).identity = some id) {e : PackEntry}
    (he : e ∈ s.cc.memory) (hserial : e.serial = id.serial) (hshocked : e.shocked = true) : eligibleToCharge s b = false := by
  rw [Bool.eq_false_iff, ne_eq, eligibleToCharge_iff]
  rintro ⟨i, p, _, _, hcharge⟩
  obtain ⟨_, _, _, hclear, _⟩ := (chargeable_iff s b _ _).1 hcharge
  simp [(bayShocked_eq_false_iff s b).1 hclear id hid e he hserial] at hshocked

/-- Settles O28. -/
theorem arbitrationStartsAndAbandonsAttempts : Obligations.ArbitrationStartsAndAbandonsAttempts := by
  refine ⟨fun s => ⟨fun b => ?_, fun hnone => ⟨fun hidle => ?_, fun b i p hfault hb ho hi hp => ?_⟩, fun b i v hstarting => ⟨fun hstands => ?_, fun hfails hothers hdc => ⟨fun hfree hlists => ?_, fun t l ht howner hlists hkind => ?_⟩⟩, fun b i v => arbitrate_active⟩,
    fun serials seq s => ⟨fun hnone => ?_, fun b i v id hactive hst hid hserial hheld => ?_⟩⟩
  · rw [eligibleToCharge_iff]
    simp only [chargeable_iff, bayShocked_eq_false_iff]
    constructor
    · rintro ⟨i, p, hi, hp, hst, hdc, _, hshocked, halarm, hlost, t, ht, hwindow, hcharge⟩
      exact ⟨hst, hdc, halarm, hlost, hshocked, i, p, t, hi, hp, ht, hwindow, hcharge⟩
    · rintro ⟨hst, hdc, halarm, hlost, hshocked, i, p, t, hi, hp, ht, hwindow, hcharge⟩
      exact ⟨i, p, hi, hp, hst, hdc, by simp [hi], hshocked, halarm, hlost, t, ht, hwindow, hcharge⟩
  · simp [arbitrate, hnone, chooseAttempt_idle hidle]
  · simp [arbitrate, hnone, chooseAttempt, hfault, chooseCharge_some hb ho, startAttempt_eq hi hp, recordedOf, startWrites]
  · simp [arbitrate, hstarting, hstands]
  · obtain ⟨l, hl, hkind⟩ := hlists
    rw [arbitrate_abandons hstarting hfails hothers, abandonAttempt_eq hdc, chargerInFlight_eq_false hfree, hl]
    simp [withdrawn, hkind]
  · have hwrites : chargerInFlight s = true := by simp [chargerInFlight, ht, howner]
    rw [arbitrate_abandons hstarting hfails hothers, abandonAttempt_eq hdc, hwrites, hlists]
    simp [withdrawn, hkind]
  · have hunmarked : sessionMarked serials (serials.foldl (markSerial seq) s) = false := by
      simp [foldl_markSerial, sessionMarked, hnone, sessionBay]
    simp only [markPacks, hunmarked, Bool.false_eq_true, if_false]
    exact foldl_markSerial serials seq s
  · obtain ⟨e, he, heserial⟩ := hheld
    let marked : PackEntry := { e with shocked := true, shockSequence := seq }
    have hmem : marked ∈ markedMemory serials seq s.cc.memory := List.mem_map.2 ⟨e, he, by simp [heserial, hserial, marked]⟩
    have hmarks := markPacks_active (foldl_markSerial serials seq s) (sessionMarked_held hactive hid hserial ⟨marked, hmem, heserial⟩) hactive hst
    dsimp only
    rw [hmarks]
    refine ⟨by simp [keeps_iff], by simp [onlyBayRecord_iff], by simp [enteredRecord_plain], ?_, endSession_not_active _, fun j w hstarts => ?_, ?_⟩
    · rw [endSession_cc]
      simp
      rfl
    · rcases endSession_session _ with hnone | ⟨x, i', v', heligible, hx⟩
      · rw [hnone] at hstarts
        cases hstarts
      · obtain rfl : x = b := by
          rw [hx] at hstarts
          cases hstarts
          rfl
        rw [not_eligible_marked (id := id) (e := marked) (by simp [enteredRecord_plain, hid]) (by simpa using hmem) heserial rfl] at heligible
        cases heligible
    · simpa using raise_lu_of (by simp) (by simp)

/-! ### Telemetry at the charger (R71, R85, R87) -/

/-- Arbitration makes no session ACTIVE. -/
theorem arbitrate_not_active {s : State} (h : ∀ b i v, s.cc.session ≠ .active b i v) (b : Bay) (i : Nat) (v : Recorded) :
    (arbitrate s).cc.session ≠ .active b i v := by
  have chosen (t : State) (ht : ∀ b i v, t.cc.session ≠ .active b i v) : (chooseAttempt t).cc.session ≠ .active b i v := by
    rcases chooseAttempt_session t with hsame | ⟨_, _, _, _, hstarts⟩
    · rw [hsame]
      exact ht b i v
    · simp [hstarts]
  unfold arbitrate
  split
  · exact chosen s h
  · split
    · exact h b i v
    · exact chosen _ (by simp [abandonAttempt])
  · exact absurd ‹_› (h _ _ _)

/-- The pack memory takes a block's charge for a serial in place. -/
def chargeStored (serial charge : Nat) (s : State) : State := updMemory (changeEntry serial fun e => { e with lastCharge := charge }) s

/-- A CHARGING bay whose charge switch has opened. -/
def chargeOpened (b : Bay) (s : State) : State := enterBay b .standby (updBay b (fun r => { r with charge := false }) s)

/-- With the record NONE and the fault mark set a block is stored alone. -/
theorem chargeTelemetry_idle {b : Bay} {t : Telemetry} {s : State} {id : Identity} (hid : (bayOf s b).identity = some id)
    (hnone : s.cc.session = .none) (hfault : s.cc.fault = true) : chargeTelemetry b t s = chargeStored id.serial t.charge s := by
  simp only [chargeTelemetry, serialOf, hid, Option.map_some, sessionTelemetry]
  simp only [updMemory_cc, hnone]
  exact arbitrate_fault (s := chargeStored id.serial t.charge s) hnone hfault

/-- A temperature outside the window ends the session with CHARGE_HELD. -/
theorem chargeTelemetry_temperature {b : Bay} {t : Telemetry} {s : State} {id : Identity} {i : Nat} {v : Recorded}
    (hid : (bayOf s b).identity = some id) (hactive : s.cc.session = .active b i v) (hst : (bayOf s b).state = .charging)
    (hout : window v.tempLow v.tempHigh t.temperature = false) : chargeTelemetry b t s =
      arbitrate (endSession (raise (.chargeHeld b .temperature) (chargeOpened b (chargeStored id.serial t.charge s)))) := by
  have hstop := stopSession_charging (reason := .temperature) (s := chargeStored id.serial t.charge s) (b := b) hst
  simp only [chargeTelemetry, serialOf, hid, Option.map_some, sessionTelemetry]
  simp only [updMemory_cc, hactive, if_true, hout, Bool.not_false]
  exact congrArg arbitrate hstop

/-- A full pack inside the window ends the session with CHARGE_DONE. -/
theorem chargeTelemetry_done {b : Bay} {t : Telemetry} {s : State} {id : Identity} {i : Nat} {v : Recorded}
    (hid : (bayOf s b).identity = some id) (hactive : s.cc.session = .active b i v) (hst : (bayOf s b).state = .charging)
    (hin : window v.tempLow v.tempHigh t.temperature = true) (hfull : chargeComplete v t = true) : chargeTelemetry b t s =
      arbitrate (endSession (raise (.chargeDone b t.charge) (setCharged b true (chargeOpened b (chargeStored id.serial t.charge s))))) := by
  have hopen : openChargeForCc b (chargeStored id.serial t.charge s) = chargeOpened b (chargeStored id.serial t.charge s) :=
    openChargeForCc_charging hst
  simp only [chargeTelemetry, serialOf, hid, Option.map_some, sessionTelemetry]
  simp only [updMemory_cc, hactive, if_true, hin, Bool.not_true, Bool.false_eq_true, if_false, hfull, sessionDone]
  rw [← hopen]
  rfl

@[simp] theorem bayOf_setCharged (b x : Bay) (v : Bool) (s : State) : bayOf (setCharged b v s) x = bayOf s x := bayOf_congr (by simp) x

/-- Settles O27. -/
theorem chargeTelemetryUpdatesMemoryAndSession : Obligations.ChargeTelemetryUpdatesMemoryAndSession := by
  intro b t s received taken ended
  refine ⟨fun hid => ?_, fun id hid => ⟨fun hnone hfault => ?_, fun i v hactive hst hwindow => ⟨fun htemp => ?_, fun hlow hhigh hcurrent hvoltage => ?_⟩⟩⟩
  · rw [exec_effect (by simp), show effect (.ccTelemetry b t) s = take (.ccTelemetry b t) s by simp [effect, chargeTelemetry, serialOf, hid]]
    rfl
  · rw [exec_effect (by simp), show effect (.ccTelemetry b t) s = _ from chargeTelemetry_idle (s := take (.ccTelemetry b t) s) hid hnone hfault]
    rfl
  · have hout : window v.tempLow v.tempHigh t.temperature = false := by
      rw [Bool.eq_false_iff, ne_eq, window_iff]
      omega
    refine ⟨_, exec_effect (by simp) s, ?_⟩
    rw [show effect (.ccTelemetry b t) s = _ from chargeTelemetry_temperature (s := take (.ccTelemetry b t) s) hid hactive hst hout]
    refine ⟨by simp [keeps_iff, chargeOpened, chargeStored], by simp [onlyBayRecord_iff, chargeOpened, chargeStored],
      by simp [enteredRecord_plain, ended, chargeOpened, chargeStored], ?_, arbitrate_not_active (endSession_not_active _), ?_⟩
    · rw [(arbitrate_moved _).cc, endSession_cc]
      simp [chargeOpened, chargeStored]
      rfl
    · simpa using raise_lu_of (by simp [chargeOpened, chargeStored]) (by simp [chargeOpened, chargeStored])
  · have hin : window v.tempLow v.tempHigh t.temperature = true := (window_iff ..).2 (.inr ⟨hlow, hhigh⟩)
    have hfull : chargeComplete v t = true := by simp [chargeComplete, hcurrent, hvoltage]
    refine ⟨_, exec_effect (by simp) s, ?_⟩
    rw [show effect (.ccTelemetry b t) s = _ from chargeTelemetry_done (s := take (.ccTelemetry b t) s) hid hactive hst hin hfull]
    refine ⟨by simp [keeps_iff, chargeOpened, chargeStored], by simp [onlyBayRecord_iff, chargeOpened, chargeStored],
      by simp [enteredRecord_plain, ended, chargeOpened, chargeStored], ?_, arbitrate_not_active (endSession_not_active _), ?_⟩
    · rw [(arbitrate_moved _).cc, endSession_cc]
      simp [chargeOpened, chargeStored]
      rfl
    · simpa using raise_lu_of (by simp [chargeOpened, chargeStored]) (by simp [chargeOpened, chargeStored])

/-! ### Start lists reported (R82, R83) -/

/-- With no transaction in flight, a bay's move changes of the BBC that bay's record alone. -/
theorem enterBay_bbc_free {b : Bay} {s : State} (st : BayState) (h : s.bbc.inFlight = none) :
    (enterBay b st s).bbc = { s.bbc with bays := s.bbc.bays.set b (enteredBus (bayOf s b).state st (busOf s b)) } := by
  by_cases hst : st = .identifying
  · simp [enterBay, hst, busOf]
  · simp [enterBay, hst, stopIdentifyRead, h, apply_ite State.bbc, busOf]

/-- From one polled state to another the poll timer and the counts run on. -/
theorem enteredBus_polled {old st : BayState} (ho : old.polled = true) (hs : st.polled = true) (r : BayBus) :
    enteredBus old st r = { r with sequence := none } := by
  have hst : st ≠ .identifying := by
    rintro rfl
    cases hs
  simp [enteredBus, ho, hs, hst]

@[simp] theorem bayOf_tellBudget (s : State) (b : Bay) : bayOf (tellBudget s) b = bayOf s b := bayOf_congr (by simp) b

@[simp] theorem bayOf_setSession (x : Session) (s : State) (b : Bay) : bayOf (setSession x s) b = bayOf s b := bayOf_congr (by simp) b

/-- What the closing of a charge switch does: the bay is CHARGING with its sequence gone, the session ACTIVE, CHARGE_STARTED raised, and the
Budget Unit told (R17, R82). -/
theorem closeCharge_change {b : Bay} (i : Nat) (v : Recorded) {s : State} (hfree : s.bbc.inFlight = none) (hst : (bayOf s b).state = .standby) :
    let u := closeCharge b i v s
    KeepsAllBut [.ppc, .bbc, .cc, .lu, .delivered] s u ∧ OnlyBayRecord b s u
      ∧ bayOf u b = { bayOf s b with state := .charging, charge := true, refusal := false, holdTimer := none, lapseTimer := none }
      ∧ u.cc = { s.cc with session := .active b i v }
      ∧ u.bbc = { s.bbc with bays := s.bbc.bays.set b { busOf s b with sequence := none } }
      ∧ u.lu = (raise (.chargeStarted b i) s).lu ∧ Instr.budgetRecompute ∈ u.delivered := by
  have hpolled : enteredBus .standby .charging (busOf s b) = { busOf s b with sequence := none } := enteredBus_polled rfl rfl _
  refine ⟨by simp [keeps_iff, closeCharge], by simp [onlyBayRecord_iff, closeCharge], by simp [closeCharge, enteredRecord_plain],
    by simp [closeCharge], ?_, ?_, by simp [closeCharge]⟩
  · have hbus : (enterBay b .charging (updBay b (fun r => { r with charge := true }) s)).bbc = _ := enterBay_bbc_free .charging (by simpa using hfree)
    have hsame : busOf (updBay b (fun r => { r with charge := true }) s) b = busOf s b := busOf_congr (by simp) b
    simp only [closeCharge, tellBudget_bbc, raise_frame, setSession_bbc, hbus, bayOf_updBay_same, hst, hsame, hpolled]
    simp
  · simpa [closeCharge] using raise_lu_of (by simp) (by simp)

/-- A start list done for a bay that is still eligible closes its charge switch. -/
theorem listDone_start {b : Bay} {i : Nat} {v : Recorded} {s : State} (hsession : s.cc.session = .starting b i v)
    (hcharge : chargeable s b v.tempLow v.tempHigh = true) :
    listDone .start s = closeCharge b i v { s with cc := { s.cc with failedLists := 0 } } := by
  have hdone : startDone s = closeCharge b i v { s with cc := { s.cc with failedLists := 0 } } := by
    simp only [startDone]
    split
    · rename_i heq
      cases hsession.symm.trans heq
      exact if_pos hcharge
    · rename_i hne
      exact absurd hsession (hne b i v)
  simp only [listDone, hdone]
  exact arbitrate_active (b := b) (i := i) (v := v) (by simp [closeCharge, tellBudget])

/-- A start list failed while DC is PRESENT ends the attempt, counts, and hands the stop list. -/
theorem listFailed_start {result : TxResult} {s : State} (hdc : dcPresent s = true) :
    listFailed .start result s = handStop (countFailure result (setSession .none s)) := by
  simp [listFailed, hdc]

/-- A failed list counts up to 3, the third setting the fault mark with CHARGER_FAULT. -/
theorem countFailure_eq (result : TxResult) {s : State} (h : s.cc.failedLists < 3) : countFailure result s = { s with
    cc := { s.cc with failedLists := s.cc.failedLists + 1, fault := s.cc.fault || s.cc.failedLists == 2 },
    lu := (if s.cc.failedLists = 2 then raise (.chargerFault result) s else s).lu } := by
  have hmin : min (s.cc.failedLists + 1) 3 = s.cc.failedLists + 1 := by omega
  have hthird : decide (3 ≤ s.cc.failedLists + 1) = (s.cc.failedLists == 2) := by
    rw [Bool.eq_iff_iff, decide_eq_true_iff, beq_iff_eq]
    omega
  simp only [countFailure, hmin, hthird]
  by_cases hlimit : s.cc.failedLists = 2
  · rw [if_pos hlimit, raiseIf, if_pos (by simp [hlimit])]
    exact raise_change _ rfl rfl
  · rw [if_neg hlimit, raiseIf, if_neg (by simp [hlimit])]

/-- Settles O29. -/
theorem startListReportDecidesAttempt : Obligations.StartListReportDecidesAttempt := by
  intro t w b i v s ht howner hop hlists hsession
  refine ⟨fun bytes hcharge => ?_, fun hdc hfailed => ?_⟩
  · refine ⟨_, exec_transactionEnd ht (e := ⟨.done, []⟩) (by simp [hop, replyResult]), ?_⟩
    let free : State := { s with bbc := { s.bbc with inFlight := none, lists := [] } }
    have hstandby : (bayOf s b).state = .standby := ((chargeable_iff ..).1 hcharge).1
    have hroute : routeResult t.owner ⟨.done, []⟩ (freeBus s) = closeCharge b i v { free with cc := { s.cc with failedLists := 0 } } := by
      rw [howner]
      simp only [routeResult, chargerEnded, freeBus, updBbc_bbc, hlists]
      exact listDone_start (s := free) hsession hcharge
    obtain ⟨hkeeps, honly, hbay, hcc, hbbc, hlu, hdelivered⟩ :=
      closeCharge_change i v (s := { free with cc := { s.cc with failedLists := 0 } }) rfl hstandby
    rw [hroute]
    have hfreed : KeepsAllBut [.bbc, .cc] s { free with cc := { s.cc with failedLists := 0 } } := by simp [keeps_iff, free]
    exact ⟨keeps_mono (keeps_trans hfreed hkeeps) (by decide), hbay, honly, hcc, hbbc, hlu.trans (raise_lu_of rfl rfl), hdelivered⟩
  · refine ⟨_, exec_transactionEnd ht (replyResult_refused _), ?_⟩
    let free : State := { s with bbc := { s.bbc with inFlight := none, lists := [] } }
    have hroute : routeResult t.owner ⟨.nak, []⟩ (freeBus s) = handStop (countFailure .nak (setSession .none free)) := by
      rw [howner]
      simp only [routeResult, chargerEnded, freeBus, updBbc_bbc, hlists]
      exact listFailed_start (s := free) hdc
    have hfailure := countFailure_eq .nak (s := setSession .none free) hfailed
    have hstop : handStop (countFailure .nak (setSession .none free)) = _ := (congrArg handStop hfailure).trans (if_pos hdc)
    have hraised : (if s.cc.failedLists = 2 then raise (.chargerFault .nak) (setSession .none free) else setSession .none free).lu =
        (if s.cc.failedLists = 2 then raise (.chargerFault .nak) s else s).lu := by
      split
      · exact raise_lu_of rfl rfl
      · rfl
    rw [hroute, hstop]
    exact ⟨by simp [keeps_iff, free], rfl, rfl, hraised⟩

end Sys2Proof.Machine
end

section
/-! PROOFS. The swaps of tables 0 and 3 as their blocks take them (section 9.4). -/

namespace Sys2Proof.Machine

/-! ### The comparison of a running timer with its new limit -/

@[simp] theorem paramN_take (i : Instr) (s : State) (n : Nat) : paramN (take i s) n = paramN s n := paramN_congr (by simp) n

theorem meetBridgeLimit_before {s : State} (h : ∀ e : Nat, s.ppc.bridgeTimer = some e → e < ms (paramN s 13)) : meetBridgeLimit s = s := by
  cases htimer : s.ppc.bridgeTimer with
  | none => simp [meetBridgeLimit, htimer]
  | some e => simp [meetBridgeLimit, htimer, h e htimer]

theorem meetSettleLimit_before {s : State} (h : ∀ e : Nat, s.shm.settleTimer = some e → e < ms (paramN s 8)) : meetSettleLimit s = s := by
  cases htimer : s.shm.settleTimer with
  | none => simp [meetSettleLimit, htimer]
  | some e => simp [meetSettleLimit, htimer, h e htimer]

theorem meetBridgeLimit_reached {s : State} {e : Nat} (he : s.ppc.bridgeTimer = some e) (h : ms (paramN s 13) ≤ e) :
    meetBridgeLimit s = bridgeExpired s := by
  simp [meetBridgeLimit, he, h]

theorem meetSettleLimit_reached {s : State} {e : Nat} (he : s.shm.settleTimer = some e) (h : ms (paramN s 8) ≤ e) :
    meetSettleLimit s = settleExpired s := by
  simp [meetSettleLimit, he, h]

theorem meetPollPeriod_before {s : State} {b : Bay} (h : ∀ e : Nat, (busOf s b).pollTimer = some e → e < ms (paramN s 34)) :
    meetPollPeriod b s = s := by
  cases htimer : (busOf s b).pollTimer with
  | none => simp [meetPollPeriod, htimer]
  | some e => simp [meetPollPeriod, htimer, h e htimer]

theorem meetDeferredExpiry_before {s : State} (h : ∀ (d : DeferredRead) (r : TxResult) (bytes : List Byte) (e : Nat),
    s.bbc.deferred = some d → d.state = .done r bytes e → e < ms (paramN s 33)) : meetDeferredExpiry s = s := by
  simp only [meetDeferredExpiry]
  split
  next seg register length r bytes e hslot => exact if_neg (Nat.not_le.mpr (h _ r bytes e hslot rfl))
  next => rfl

theorem failIfSilent_before {s : State} {x : LightSensor}
    (h : (sensorOf s.blc x).failed = true ∨ ∀ e, (sensorOf s.blc x).silence = some e → e < ms (paramN s 38)) : failIfSilent x s = s := by
  cases hsilence : (sensorOf s.blc x).silence with
  | none => simp [failIfSilent, hsilence]
  | some e =>
    have hnot : ¬ ((sensorOf s.blc x).failed = false ∧ ms (paramN s 38) ≤ e) := fun ⟨hworks, hlimit⟩ =>
      h.elim (fun hfailed => absurd hfailed (by simp [hworks])) fun hbefore => absurd (hbefore e hsilence) (Nat.not_lt.mpr hlimit)
    simp [failIfSilent, hsilence, hnot]

/-! ### The thermal cap (R116, R117) -/

theorem thermalCapNow_eq {s : State} {t : Int} (ht : s.blc.temperature = some t) :
    thermalCapNow s = if s.blc.tempSilent then paramN s 30
      else if param s 29 ≤ param s 28 ∨ t ≤ param s 28 then 1000
      else if param s 29 ≤ t then paramN s 30
      else 1000 - (1000 - paramN s 30) * (t - param s 28).toNat / (param s 29 - param s 28).toNat := by
  rw [thermalCapNow, ht, ← thermalCapFor_eq]

/-! ### Matching again (R175) -/

/-- A bay's record matched to the active profiles. -/
def rematchedRecord (s : State) (r : BayRecord) : BayRecord :=
  match r.identity with
  | some id => { r with profile := s.ts.t3.active.findIdx? (profileMatches id) }
  | none => r

theorem bayOf_updBay_self (b : Bay) (s : State) : updBay b (fun _ => bayOf s b) s = s := by cases b <;> rfl

theorem tellBudgetIf_eq (c : Bool) (s : State) :
    tellBudgetIf c s = { s with delivered := s.delivered ++ if c then [.budgetRecompute] else [] } := by
  cases c
  · simp [tellBudgetIf]
  · rfl

theorem rematch_eq (b : Bay) (s : State) : rematch b s =
    { updBay b (fun _ => rematchedRecord s (bayOf s b)) s with
      delivered := s.delivered
        ++ if (rematchedRecord s (bayOf s b)).profile = (bayOf s b).profile then [] else [.budgetRecompute] } := by
  cases hid : (bayOf s b).identity with
  | none =>
    have hsame : rematchedRecord s (bayOf s b) = bayOf s b := by simp [rematchedRecord, hid]
    rw [hsame, bayOf_updBay_self]
    simp [rematch, hid]
  | some id =>
    have hmatched : rematchedRecord s (bayOf s b) = { bayOf s b with profile := matchProfile s id } := by
      simp [rematchedRecord, hid, matchProfile]
    have hupd : updBay b (fun r => { r with profile := matchProfile s id }) s = updBay b (fun _ => rematchedRecord s (bayOf s b)) s := by
      rw [hmatched]; rfl
    have hprofile : (rematchedRecord s (bayOf s b)).profile = matchProfile s id := by rw [hmatched]
    have hdelivered : (updBay b (fun _ => rematchedRecord s (bayOf s b)) s).delivered = s.delivered := by simp
    have htold : (if (bayOf s b).profile != matchProfile s id then [.budgetRecompute] else ([] : List Instr))
        = if matchProfile s id = (bayOf s b).profile then [] else [.budgetRecompute] := by
      by_cases hsame : (bayOf s b).profile = matchProfile s id
      · simp [hsame]
      · simp [hsame, Ne.symm hsame]
    simp only [rematch, hid, hupd, hprofile, tellBudgetIf_eq, hdelivered, htold]

/-- With no session and the fault mark set both bays are matched and nothing is chosen. -/
theorem rematchAll_idle {s : State} (hnone : s.cc.session = .none) (hfault : s.cc.fault = true) :
    rematchAll s = rematch .B (rematch .A s) := by
  simp [rematchAll, hnone, arbitrate_fault, hfault]

/-- Settles O46. -/
theorem swapsReachTheirBlocks : Obligations.SwapsReachTheirBlocks := by
  intro changed s
  refine ⟨?_, fun h => ?_, fun e he hlimit => ?_, fun hpoll hslot => ?_, fun h => ?_, ?_, fun t cap ht hsensors hcap => ?_, fun h => ?_,
    fun e he hlimit => ?_, ?_, fun hnone hfault => ?_, ?_⟩
  · rw [exec_effect (by simp), exec_effect (by simp)]
    simp [effect, takeParams, take]
  · rw [exec_effect (by simp), show effect (.table0SwapDelivery .ppc changed) s = _ from
      meetBridgeLimit_before (s := take (.table0SwapDelivery .ppc changed) s) h]
    rfl
  · rw [exec_effect (by simp), exec_effect (by simp)]
    rw [show effect (.table0SwapDelivery .ppc changed) s = _ from
      meetBridgeLimit_reached (s := take (.table0SwapDelivery .ppc changed) s) he hlimit]
    rfl
  · let received := take (.table0SwapDelivery .bbc changed) s
    have hmeet : effect (.table0SwapDelivery .bbc changed) s = received := by
      change meetDeferredExpiry (meetPollPeriod .B (meetPollPeriod .A received)) = received
      rw [meetPollPeriod_before (s := received) (hpoll .A), meetPollPeriod_before (s := received) (hpoll .B),
        meetDeferredExpiry_before (s := received) hslot]
    rw [exec_effect (by simp), hmeet]
    rfl
  · rw [exec_effect (by simp)]
    simp [effect, takeParams, chargerTakesParams, h, take]
  · rw [exec_effect (by simp), exec_effect (by simp)]
    simp [effect, takeParams, take]
  · let received := take (.table0SwapDelivery .blc changed) s
    have hmeet : effect (.table0SwapDelivery .blc changed) s = recomputeTarget (refreshThermalCap received) := by
      change recomputeTarget (refreshThermalCap (failIfSilent .rear (failIfSilent .front received))) = _
      rw [failIfSilent_before (s := received) (hsensors _ (.inl rfl)), failIfSilent_before (s := received) (hsensors _ (.inr rfl))]
    have hcapped : thermalCapNow received = cap := hcap ▸ thermalCapNow_eq (s := received) ht
    refine ⟨_, exec_effect (by simp) s, ?_⟩
    rw [hmeet, refreshThermalCap, hcapped]
    exact recomputeTarget_recomputes _
  · rw [exec_effect (by simp), show effect (.table0SwapDelivery .shm changed) s = _ from
      meetSettleLimit_before (s := take (.table0SwapDelivery .shm changed) s) h]
    rfl
  · rw [exec_effect (by simp), exec_effect (by simp)]
    rw [show effect (.table0SwapDelivery .shm changed) s = _ from
      meetSettleLimit_reached (s := take (.table0SwapDelivery .shm changed) s) he hlimit]
    rfl
  · rw [exec_effect (by simp)]
    cases htimer : s.lu.silenceTimer with
    | none => simp [effect, takeParams, linkTakesParams, htimer]
    | some e => simp [effect, takeParams, linkTakesParams, htimer]
  · rw [exec_effect (by simp), show effect (.table3SwapDelivery .cc) s = _ from
      rematchAll_idle (s := take (.table3SwapDelivery .cc) s) hnone hfault, rematch_eq, rematch_eq]
    rfl
  · rw [exec_effect (by simp), exec_effect (by simp)]
    simp [effect, takeProfiles, take]

end Sys2Proof.Machine
end

section
/-! PROOFS. Switches and the bay that is chosen by its charge, and the main rail turned ON (sections 2.3, 2.7). -/

namespace Sys2Proof.Machine

/-! ### A source's switch, read through the source record (R13) -/

/-- A closed switch ends bridging, whichever source it is. -/
theorem setSwitch_close (x : Source) (s : State) :
    (setSwitch x true s).ppc = { (driveSwitch x true s).ppc with bridgeTimer := none } := by
  have hfeeds : bridging (driveSwitch x true s) = false := by
    rcases x with _ | b
    · simp [driveSwitch, bridging, anyFeeding]
    · cases b <;> simp [driveSwitch, bridging, anyFeeding, bayOf]
  simp [setSwitch, hfeeds]

@[simp] theorem bayOf_setSwitch_same (b : Bay) (v : Bool) (s : State) :
    bayOf (setSwitch (.bay b) v s) b = { bayOf s b with discharge := v } := by simp [bayOf, setSwitch_bay]

@[simp] theorem bayOf_setSwitch_other (b : Bay) (v : Bool) (s : State) :
    bayOf (setSwitch (.bay b) v s) b.other = bayOf s b.other := by simp [bayOf, setSwitch_bay]

@[simp] theorem bayOf_setSwitch_dc (v : Bool) (s : State) (b : Bay) : bayOf (setSwitch .dc v s) b = bayOf s b := by
  simp [bayOf, (setSwitch_dc v s).1]

/-! ### The choice by charge (R23, R43) -/

/-- The bay with the lower charge, bay A on a tie. -/
theorem lowestBay_some {s : State} {b : Bay} {ok : Bay → Bool} (hb : ok b = true)
    (ho : ok b.other = true → chargeOf s b < chargeOf s b.other ∨ chargeOf s b = chargeOf s b.other ∧ b = .A) :
    lowestBay s ok = some b := by
  cases b
  · have hlower : ok .B = true → ¬chargeOf s .B < chargeOf s .A := fun h => by
      rcases ho h with h | ⟨h, _⟩ <;> simp only [Bay.other] at h <;> omega
    cases hB : ok .B
    · simp [lowestBay, hb, hB]
    · simp [lowestBay, hb, hB, lowerBay, hlower hB]
  · have hlower : ok .A = true → chargeOf s .B < chargeOf s .A := fun h => (ho h).resolve_right (by simp)
    cases hA : ok .A
    · simp [lowestBay, hb, hA]
    · simp [lowestBay, hb, hA, lowerBay, hlower hA]

theorem lowestBay_none {s : State} {ok : Bay → Bool} (h : ∀ b, ok b = false) : lowestBay s ok = none := by
  simp [lowestBay, h .A, h .B]

/-- The bay with the higher charge, bay A on a tie. -/
theorem highestBay_some {s : State} {b : Bay} {ok : Bay → Bool} (hb : ok b = true)
    (ho : ok b.other = true → chargeOf s b.other < chargeOf s b ∨ chargeOf s b = chargeOf s b.other ∧ b = .A) :
    highestBay s ok = some b := by
  cases b
  · have hhigher : ok .B = true → ¬chargeOf s .A < chargeOf s .B := fun h => by
      rcases ho h with h | ⟨h, _⟩ <;> simp only [Bay.other] at h <;> omega
    cases hB : ok .B
    · simp [highestBay, hb, hB]
    · simp [highestBay, hb, hB, hhigher hB]
  · have hhigher : ok .A = true → chargeOf s .A < chargeOf s .B := fun h => (ho h).resolve_right (by simp)
    cases hA : ok .A
    · simp [highestBay, hb, hA]
    · simp [highestBay, hb, hA, hhigher hA]

theorem highestBay_none {s : State} {ok : Bay → Bool} (h : ∀ b, ok b = false) : highestBay s ok = none := by
  simp [highestBay, h .A, h .B]

/-! ### RAIL on (R43) -/

theorem railTarget_dc {s : State} (h : dcPresent s = true) : railTarget s = some (.dc, false) := by simp [railTarget, h]

/-- A bay arrives. -/
theorem railTarget_arriving {s : State} {b : Bay} (hdc : dcPresent s = false)
    (h : (bayOf s b).state = .seating ∨ (bayOf s b).state = .identifying) : railTarget s = none := by
  have harrives : isArriving s b = true := by simpa [isArriving] using h
  have hone : (isArriving s .A || isArriving s .B) = true := by
    cases b <;> simp [harrives]
  simp [railTarget, hdc, hone]

/-- No bay is STANDBY. -/
theorem railTarget_nothing {s : State} (hdc : dcPresent s = false) (h : ∀ b, (bayOf s b).state ≠ .standby) : railTarget s = none := by
  have hstandby (b : Bay) : isStandby s b = false := by simpa [isStandby] using h b
  have hlowest : lowestBay s (fun b => isStandby s b && eligible s b) = none := lowestBay_none fun b => by simp [hstandby b]
  simp [railTarget, hdc, hlowest, highestBay_none hstandby]

/-- The eligible bay of lower charge, or with none the STANDBY bay of higher charge. -/
theorem railTarget_bay {s : State} {b : Bay} (hdc : dcPresent s = false)
    (harrive : ∀ x, (bayOf s x).state ≠ .seating ∧ (bayOf s x).state ≠ .identifying) (hst : (bayOf s b).state = .standby)
    (h : eligible s b = true ∧ ((bayOf s b.other).state = .standby → eligible s b.other = true →
          chargeOf s b < chargeOf s b.other ∨ chargeOf s b = chargeOf s b.other ∧ b = .A)
        ∨ eligible s b = false ∧ ((bayOf s b.other).state = .standby → eligible s b.other = false
          ∧ (chargeOf s b.other < chargeOf s b ∨ chargeOf s b = chargeOf s b.other ∧ b = .A))) :
    railTarget s = some (.bay b, !eligible s b) := by
  have hnone (x : Bay) : isArriving s x = false := by simpa [isArriving] using harrive x
  have hstandby : isStandby s b = true := by simp [isStandby, hst]
  simp only [railTarget, hdc, hnone, Bool.false_eq_true, if_false, Bool.or_self]
  obtain ⟨heligible, hlower⟩ | ⟨heligible, hhigher⟩ := h
  · have hlowest : lowestBay s (fun b => isStandby s b && eligible s b) = some b :=
      lowestBay_some (by simp [hstandby, heligible]) fun ho => by
        obtain ⟨hso, heo⟩ : (bayOf s b.other).state = .standby ∧ eligible s b.other = true := by simpa [isStandby] using ho
        exact hlower hso heo
    simp [hlowest, heligible]
  · have hlowest : lowestBay s (fun b => isStandby s b && eligible s b) = none := lowestBay_none fun x => by
      rcases bay_cases b x with rfl | rfl
      · simp [heligible]
      · cases hso : isStandby s b.other
        · rfl
        · simp [(hhigher (by simpa [isStandby] using hso)).1]
    have hhighest : highestBay s (isStandby s) = some b :=
      highestBay_some hstandby fun ho => (hhigher (by simpa [isStandby] using ho)).2
    simp [hlowest, hhighest, heligible]

/-- With a source that feeds, the rail's turning ON changes the rail and its reason. -/
theorem enableRail_ppc {s : State} (h : anyFeeding s = true) :
    (enableRail s).ppc = { s.ppc with railOn := true, offReason := .none, bridgeTimer := none } := by
  have hfeeds : bridging (updPpc (fun p => { p with railOn := true, offReason := .none }) s) = false := by
    have hon : anyFeeding (updPpc (fun p => { p with railOn := true, offReason := .none }) s) = true := h
    simp [bridging, hon]
  simp [enableRail, hfeeds]

theorem enableRail_cc (s : State) : (enableRail s).cc = { s.cc with session := (enableRail s).cc.session } := by
  obtain ⟨session, lists, hmoved⟩ :=
    arbitrate_moved (deliver (.blcRailChange true) (pathChanged s (updPpc (fun p => { p with railOn := true, offReason := .none }) s)))
  simp [enableRail, hmoved]

theorem enableRail_delivers (s : State) : Instr.blcRailChange true ∈ (enableRail s).delivered := by simp [enableRail]

/-- DC feeds the rail as it turns ON. -/
theorem enableRail_feed_dc (s : State) : (enableRail (feed .dc s)).ppc =
    { s.ppc with railOn := true, offReason := .none, dcSwitch := true, bridgeTimer := none } := by
  have hfed : (feed .dc s).ppc = { s.ppc with dcSwitch := true, bridgeTimer := none } := setSwitch_close .dc s
  rw [enableRail_ppc (by simp [anyFeeding, hfed]), hfed]

/-- A bay feeds the rail as it turns ON. -/
theorem enableRail_feed_bay (b : Bay) (s : State) : (enableRail (feed (.bay b) s)).ppc =
    { s.ppc with railOn := true, offReason := .none, bridgeTimer := none,
                 bays := s.ppc.bays.set b (enteredRecord .supplying { bayOf s b with discharge := true }) } := by
  have hfed : (feed (.bay b) s).ppc =
      { s.ppc with bridgeTimer := none, bays := s.ppc.bays.set b (enteredRecord .supplying { bayOf s b with discharge := true }) } := by
    simp [feed, setSwitch_close, driveSwitch, bayOf]
  have hfeeds : anyFeeding (feed (.bay b) s) = true := by
    cases b <;> simp [anyFeeding, bayOf, hfed, enteredRecord]
  rw [enableRail_ppc hfeeds, hfed]

theorem enteredRecord_supplying (r : BayRecord) : enteredRecord .supplying r = { r with state := .supplying, lapseTimer := none } := by
  simp [enteredRecord]

theorem railOn_already {s : State} (h : s.ppc.railOn = true) : railOn s = answer .ok [] s := by simp [railOn, h]

theorem railOn_refused {s : State} (hoff : s.ppc.railOn = false) (h : railTarget s = none) : railOn s = answer .notReady [] s := by
  simp [railOn, hoff, h]

theorem railOn_feeds {s : State} {y : Source} {low : Bool} (hoff : s.ppc.railOn = false) (h : railTarget s = some (y, low)) :
    railOn s = answer .ok [] (enableRail (feed y (warnLow y low s))) := by
  simp [railOn, hoff, h]

/-- Settles O16. -/
theorem railOnNeedsASource : Obligations.RailOnNeedsASource := by
  intro tag s hlink
  let asked : State := acceptFrame (take (.rail tag [1]) s)
  refine ⟨fun hon => ?_, fun hoff hdc hbays => ?_, fun hoff hdc hA hB => ?_, fun b hoff hdc hswitch hquiet hst hcharge => ?_⟩
  · exact exec_request hlink (by simp) rfl (railOn_already (s := asked) hon)
  · have hnone : railTarget asked = none := hbays.elim
      (fun ⟨hA, hB⟩ => railTarget_nothing (s := asked) hdc fun b => by cases b <;> assumption)
      fun ⟨b, hb⟩ => railTarget_arriving (s := asked) hdc hb
    exact exec_request hlink (by simp) rfl (railOn_refused (s := asked) hoff hnone)
  · refine ⟨_, exec_request hlink (by simp) rfl (railOn_feeds (s := asked) hoff (railTarget_dc hdc)), ?_, ?_, ?_, ?_, ?_⟩
    · simp [keeps_iff, asked]
    · simpa [asked, feed, warnLow] using enableRail_cc (feed .dc asked)
    · simpa [asked, warnLow] using enableRail_feed_dc asked
    · exact enableRail_delivers _
    · exact respond_lu_of (s := acceptFrame s) ((by simp [warnLow] : _ = asked.lu).trans rfl)
  · have htarget : railTarget asked = some (.bay b, !eligible asked b) :=
      railTarget_bay (s := asked) hdc (fun x => (hquiet x).2) hst hcharge
    have hwarned : (warnLow (.bay b) (!eligible asked b) asked).ppc = s.ppc := by simp [asked]
    have hppc := enableRail_feed_bay b (warnLow (.bay b) (!eligible asked b) asked)
    rw [hwarned, bayOf_congr hwarned, enteredRecord_supplying] at hppc
    refine ⟨_, exec_request hlink (by simp) rfl (railOn_feeds (s := asked) hoff htarget), ?_, ?_, ?_, ?_, ?_, ?_, ?_⟩
    · simp [keeps_iff, asked]
    · simpa [asked, feed] using enableRail_cc (feed (.bay b) (warnLow (.bay b) (!eligible asked b) asked))
    · simp [hppc]
    · simp [bayOf, hppc]
    · simp [bayOf, hppc]
    · exact enableRail_delivers _
    · have hasked : eligible asked b = eligible s b := rfl
      have hcharged : chargeOf asked b = chargeOf s b := rfl
      have hkept : (enableRail (feed (.bay b) (warnLow (.bay b) (!eligible asked b) asked))).lu =
          (warnLow (.bay b) (!eligible asked b) asked).lu := by simp
      refine respond_lu_of (hkept.trans ?_)
      cases heligible : eligible s b
      · rw [if_neg (by simp), ← raise_acceptFrame]
        have hraised : (raise (.batteryLow b (chargeOf s b)) asked).lu = (raise (.batteryLow b (chargeOf s b)) (acceptFrame s)).lu :=
          raise_lu_of rfl rfl
        simpa [hasked, hcharged, heligible, warnLow, raiseIf] using hraised
      · simp [hasked, heligible, warnLow, raiseIf]
        rfl

end Sys2Proof.Machine
end

section
/-! PROOFS. The main rail turned OFF (sections 2.5, 2.7). -/

namespace Sys2Proof.Machine

/-! ### Operations that only set bays down -/

/-- A state that neither feeds, charges nor is on its way out of the load. -/
def AtRest (st : BayState) : Prop := st ≠ .supplying ∧ st ≠ .charging ∧ st ≠ .releasing

theorem restState_atRest (s : State) (b : Bay) : AtRest (restState s b) := by
  cases h : alarmMark s b <;> simp [AtRest, restState, h]

/-- A bay's record keeps its pack and its discharge switch, its charge switch does not close, and a state it newly takes is one of rest. -/
structure BaySetDown (r r' : BayRecord) : Prop where
  identity : r'.identity = r.identity
  telemetry : r'.telemetry = r.telemetry
  alarms : r'.alarms = r.alarms
  profile : r'.profile = r.profile
  discharge : r'.discharge = r.discharge
  charge : r'.charge = true → r.charge = true ∧ r'.state = r.state
  state : r'.state = r.state ∨ AtRest r'.state

theorem baySetDown_refl (r : BayRecord) : BaySetDown r r := ⟨rfl, rfl, rfl, rfl, rfl, fun h => ⟨h, rfl⟩, .inl rfl⟩

theorem BaySetDown.trans {r r' r'' : BayRecord} (h : BaySetDown r r') (k : BaySetDown r' r'') : BaySetDown r r'' where
  identity := k.identity.trans h.identity
  telemetry := k.telemetry.trans h.telemetry
  alarms := k.alarms.trans h.alarms
  profile := k.profile.trans h.profile
  discharge := k.discharge.trans h.discharge
  charge hc := ⟨(h.charge (k.charge hc).1).1, (k.charge hc).2.trans (h.charge (k.charge hc).1).2⟩
  state := k.state.elim (fun hk => h.state.elim (fun hh => .inl (hk.trans hh)) fun hh => .inr (hk ▸ hh)) .inr

theorem BaySetDown.atRest {r r' : BayRecord} (h : BaySetDown r r') (hr : AtRest r.state) : AtRest r'.state :=
  h.state.elim (fun hk => hk ▸ hr) id

theorem BaySetDown.charge_open {r r' : BayRecord} (h : BaySetDown r r') (hr : r.charge = false) : r'.charge = false :=
  Bool.eq_false_iff.mpr fun hc => absurd (h.charge hc).1 (by simp [hr])

/-- An operation sets bays down: of the PPC the bays and the forced-release record alone may move, of the CC the session alone, and what was
delivered stays. -/
structure SetsDown (s t : State) : Prop where
  cc : t.cc = { s.cc with session := t.cc.session }
  ppc : t.ppc = { s.ppc with forced := t.ppc.forced, bays := t.ppc.bays }
  forced : t.ppc.forced = s.ppc.forced ∨ t.ppc.forced = none
  delivered : ∀ i, i ∈ s.delivered → i ∈ t.delivered
  bays : ∀ b, BaySetDown (bayOf s b) (bayOf t b)

theorem setsDown_refl (s : State) : SetsDown s s := ⟨rfl, rfl, .inl rfl, fun _ h => h, fun _ => baySetDown_refl _⟩

theorem SetsDown.trans {s t u : State} (h : SetsDown s t) (k : SetsDown t u) : SetsDown s u where
  cc := k.cc.trans (by rw [h.cc])
  ppc := k.ppc.trans (by rw [h.ppc])
  forced := k.forced.elim (fun hk => hk ▸ h.forced) .inr
  delivered i hi := k.delivered i (h.delivered i hi)
  bays b := (h.bays b).trans (k.bays b)

/-- An operation that leaves the PPC, of the CC moves the session alone, and only adds deliveries. -/
theorem setsDown_of_ppc {s t : State} (hppc : t.ppc = s.ppc) (hcc : t.cc = { s.cc with session := t.cc.session })
    (hdelivered : ∀ i, i ∈ s.delivered → i ∈ t.delivered) : SetsDown s t :=
  ⟨hcc, by rw [hppc], .inl (by rw [hppc]), hdelivered, fun b => bayOf_congr hppc b ▸ baySetDown_refl _⟩

theorem raise_setsDown (n : Notice) (s : State) : SetsDown s (raise n s) := setsDown_of_ppc (by simp) (by simp) (by simp)

theorem arbitrate_setsDown (s : State) : SetsDown s (arbitrate s) := setsDown_of_ppc (by simp) (arbitrate_moved s).cc (by simp)

theorem freeOrder_setsDown (s : State) : SetsDown s (freeOrder s).2 := setsDown_of_ppc (by simp) (by simp) (by simp)

theorem tellBudgetIf_setsDown (c : Bool) (s : State) : SetsDown s (tellBudgetIf c s) :=
  setsDown_of_ppc (by simp) (by simp) fun i hi => by simp [tellBudgetIf_eq, hi]

theorem endSession_setsDown (s : State) : SetsDown s (endSession s) :=
  setsDown_of_ppc (by simp) (endSession_cc s) fun i hi => by simp [endSession, hi]

theorem sessionStopped_setsDown (b : Bay) (r : Option HeldReason) (s : State) : SetsDown s (sessionStopped b r s) := by
  unfold sessionStopped
  split
  · cases r with
    | none => exact endSession_setsDown s
    | some r => exact (raise_setsDown _ s).trans (endSession_setsDown _)
  · exact setsDown_refl s

/-- One bay's record changes to one that is set down. -/
theorem updBay_setsDown {b : Bay} {f : BayRecord → BayRecord} {s : State} (h : BaySetDown (bayOf s b) (f (bayOf s b))) :
    SetsDown s (updBay b f s) := by
  refine ⟨by simp, by simp, .inl (by simp), by simp, fun x => ?_⟩
  rcases bay_cases b x with rfl | rfl
  · simpa using h
  · simpa using baySetDown_refl _

theorem setPending_setsDown (b : Bay) (v : Bool) (s : State) : SetsDown s (setPending b v s) :=
  updBay_setsDown ⟨rfl, rfl, rfl, rfl, rfl, fun h => ⟨h, rfl⟩, .inl rfl⟩

theorem openCharge_updBay_setsDown (b : Bay) (s : State) : SetsDown s (updBay b (fun r => { r with charge := false }) s) :=
  updBay_setsDown ⟨rfl, rfl, rfl, rfl, rfl, fun h => absurd h (by simp), .inl rfl⟩

theorem clearForced_setsDown (s : State) : SetsDown s (clearForced s) :=
  SetsDown.trans (t := updPpc (fun p => { p with forced := none }) s)
    ⟨rfl, rfl, .inr rfl, fun _ h => h, fun _ => baySetDown_refl _⟩ (tellBudgetIf_setsDown _ _)

/-- A bay whose charge switch is open takes a state of rest. -/
theorem enterBay_setsDown {b : Bay} {st : BayState} {s : State} (hcharge : (bayOf s b).charge = false) (he : st ≠ .empty)
    (hst : AtRest st) : SetsDown s (enterBay b st s) := by
  refine ⟨by simp [he], by simp, .inl (by simp), fun i hi => by simp [enterBay_delivered, hi], fun x => ?_⟩
  rcases bay_cases b x with rfl | rfl
  · have hrecord : BaySetDown (bayOf s x) (enteredRecord st (bayOf s x)) := by
      refine ⟨?_, ?_, ?_, ?_, ?_, ?_, .inr ?_⟩
      all_goals simp [enteredRecord, he, hcharge, hst]
    simpa using hrecord
  · simpa using baySetDown_refl _

theorem goReleased_setsDown {b : Bay} {s : State} (hcharge : (bayOf s b).charge = false) : SetsDown s (goReleased b s) := by
  unfold goReleased
  split
  · exact (enterBay_setsDown hcharge (by unfold restState; split <;> simp) (restState_atRest s b)).trans (setPending_setsDown _ _ _)
  · exact (enterBay_setsDown hcharge (by simp) (by simp [AtRest])).trans (raise_setsDown _ _)

/-! ### With every bay at rest and no transfer, what a transfer's end evaluates sets bays down -/

/-- Neither bay feeds or charges, and no transfer is in flight. -/
def Idle (s : State) : Prop := s.ppc.transfer = none ∧ ∀ b, AtRest (bayOf s b).state ∧ (bayOf s b).charge = false

theorem SetsDown.idle {s t : State} (h : SetsDown s t) (hs : Idle s) : Idle t :=
  ⟨by rw [h.ppc]; exact hs.1, fun b => ⟨(h.bays b).atRest (hs.2 b).1, (h.bays b).charge_open (hs.2 b).2⟩⟩

theorem releaseRequest_setsDown {b : Bay} {s : State} (hs : Idle s) : SetsDown s (releaseRequest b s).1 := by
  obtain ⟨⟨hsupplying, hcharging, -⟩, hopen⟩ := hs.2 b
  cases hhold : s.ppc.hold
  · simp only [releaseRequest, hhold, isTransferTarget, isTransferSource, hs.1, Bool.false_eq_true, if_false, Bool.false_and]
    cases hst : (bayOf s b).state with
    | empty | seating | releasing | released => exact setsDown_refl s
    | identifying | standby | faulted => exact goReleased_setsDown hopen
    | supplying => exact absurd hst hsupplying
    | charging => exact absurd hst hcharging
  · rw [releaseRequest_hold hhold]
    exact setPending_setsDown b true s

theorem evaluatePending_setsDown {b : Bay} {s : State} (hs : Idle s) : SetsDown s (evaluatePending b s) := by
  unfold evaluatePending
  split
  · exact (setPending_setsDown b false s).trans (releaseRequest_setsDown ((setPending_setsDown b false s).idle hs))
  · exact setsDown_refl s

theorem evaluateBoth_setsDown {x y : Bay} {s : State} (hs : Idle s) : SetsDown s (evaluatePending y (evaluatePending x s)) :=
  (evaluatePending_setsDown hs).trans (evaluatePending_setsDown ((evaluatePending_setsDown hs).idle hs))

theorem evaluatePendings_setsDown {s : State} (hs : Idle s) : SetsDown s (evaluatePendings s) := by
  have hordered : SetsDown s (freeOrder s).2 := freeOrder_setsDown s
  simp only [evaluatePendings]
  split
  · split
    · exact hordered.trans (evaluateBoth_setsDown (hordered.idle hs))
    · exact hordered.trans (evaluateBoth_setsDown (hordered.idle hs))
  · exact evaluateBoth_setsDown hs

theorem graceLeft_setsDown {s : State} (hs : Idle s) : SetsDown s (graceLeft s) := by
  unfold graceLeft
  split
  · split
    · exact setsDown_refl s
    · exact (clearForced_setsDown s).trans (releaseRequest_setsDown ((clearForced_setsDown s).idle hs))
  · exact setsDown_refl s

theorem graceTest_setsDown {s : State} (hs : Idle s) : SetsDown s (graceTest s) := by
  unfold graceTest
  split
  · exact setsDown_refl s
  · rename_i f hf
    simp only [hs.1, Option.isSome_none, Bool.false_eq_true, if_false, if_neg (hs.2 f.bay).1.1]
    split
    · split
      · exact (clearForced_setsDown s).trans (setPending_setsDown _ _ _)
      · exact setsDown_refl s
    · exact setsDown_refl s

/-- With the rail OFF a transfer's end selects nothing. -/
theorem endTransfer_setsDown {completed : Bool} {s : State} (hrail : s.ppc.railOn = false)
    (hs : ∀ b, AtRest (bayOf s b).state ∧ (bayOf s b).charge = false) : SetsDown (setTransfer none s) (endTransfer completed s) := by
  cases htransfer : s.ppc.transfer with
  | none =>
    have hsame : setTransfer none s = s := by rw [setTransfer, updPpc, ← htransfer]
    rw [hsame, endTransfer, htransfer]
    exact setsDown_refl s
  | some t =>
    let ended : State := arbitrate (raise (.transferDone t.source t.target t.method t.cause completed) (setTransfer none s))
    have hended : SetsDown (setTransfer none s) ended := (raise_setsDown _ _).trans (arbitrate_setsDown _)
    have hidle : Idle ended := hended.idle ⟨rfl, hs⟩
    have hselected : SetsDown (setTransfer none s) (selectSource ended) := by
      rw [selectSource, select_idle (.inl (by rw [hended.ppc]; exact hrail))]
      exact hended.trans (graceLeft_setsDown hidle)
    have hunselected : Idle (selectSource ended) := hselected.idle ⟨rfl, hs⟩
    have hpendings : SetsDown (setTransfer none s)
        (if (selectSource ended).ppc.hold then selectSource ended else evaluatePendings (selectSource ended)) := by
      split
      · exact hselected
      · exact hselected.trans (evaluatePendings_setsDown hunselected)
    simp only [endTransfer, htransfer]
    exact hpendings.trans (graceTest_setsDown (hpendings.idle ⟨rfl, hs⟩))

/-! ### The rail goes OFF (R31) -/

/-- A charge switch is closed in CHARGING alone (R17). -/
def ChargeSound (s : State) : Prop := ∀ b, (bayOf s b).charge = true → (bayOf s b).state = .charging

theorem SetsDown.chargeSound {s t : State} (h : SetsDown s t) (hs : ChargeSound s) : ChargeSound t := fun b hb => by
  obtain ⟨hc, hst⟩ := (h.bays b).charge hb
  exact hst.trans (hs b hc)

theorem ChargeSound.open {s : State} {b : Bay} (hs : ChargeSound s) (h : (bayOf s b).state ≠ .charging) : (bayOf s b).charge = false :=
  Bool.eq_false_iff.mpr fun hc => h (hs b hc)

theorem stopCharging_setsDown {b : Bay} {s : State} : SetsDown s (stopCharging b s) := by
  unfold stopCharging
  split
  · exact (openCharge_updBay_setsDown b s).trans
      ((enterBay_setsDown (by simp) (by simp) (by simp [AtRest])).trans (sessionStopped_setsDown _ _ _))
  · exact setsDown_refl s

theorem setDown_setsDown {b : Bay} {s : State} (hs : ChargeSound s) : SetsDown s (setDown b s) := by
  unfold setDown
  split
  · rename_i hst
    exact enterBay_setsDown (hs.open (by simp [hst])) (by unfold restState; split <;> simp) (restState_atRest s b)
  · exact stopCharging_setsDown

theorem setDown_state (b : Bay) (s : State) :
    (bayOf (setDown b s) b).state ≠ .supplying ∧ (bayOf (setDown b s) b).state ≠ .charging := by
  unfold setDown
  split
  · have hrest : restState s b ≠ .empty := by unfold restState; split <;> simp
    obtain ⟨hsupplying, hcharging, -⟩ := restState_atRest s b
    simp [enteredRecord, hrest, hsupplying, hcharging]
  · rename_i hsupplying
    unfold stopCharging
    split
    · have hkept (u : State) : bayOf (sessionStopped b (some .dcLoss) u) b = bayOf u b := bayOf_congr (by simp) b
      simp [hkept, openCharge, enteredRecord_plain]
    · rename_i hcharging
      exact ⟨hsupplying, hcharging⟩

theorem releaseReleasing_setsDown {b : Bay} {s : State} (hs : ChargeSound s) : SetsDown s (releaseReleasing b s) := by
  unfold releaseReleasing
  split
  · rename_i hst
    exact goReleased_setsDown (hs.open (by simp [hst]))
  · exact setsDown_refl s

/-- Released, or under the hold at rest with the pending mark (R35, R38). -/
theorem bayOf_goReleased (b : Bay) (s : State) :
    (s.ppc.hold = false → (bayOf (goReleased b s) b).state = .released)
      ∧ (s.ppc.hold = true → (bayOf (goReleased b s) b).pendingRelease = true
        ∧ (bayOf (goReleased b s) b).state = if alarmMark s b then .faulted .alarm else .standby) := by
  refine ⟨fun hhold => ?_, fun hhold => ?_⟩
  · simp [goReleased, hhold, enteredRecord_released]
  · have hrest : restState s b ≠ .empty := by unfold restState; split <;> simp
    simp [goReleased, hhold, enteredRecord, hrest]
    rfl

theorem releaseReleasing_state (b : Bay) (s : State) : (bayOf (releaseReleasing b s) b).state ≠ .releasing := by
  unfold releaseReleasing
  split
  · obtain ⟨hfree, hheld⟩ := bayOf_goReleased b s
    cases hhold : s.ppc.hold
    · simp [hfree hhold]
    · rw [(hheld hhold).2]
      split <;> simp
  · assumption

/-- Every switch opened, the rail OFF and the BLC told, before any bay is set down (R31). -/
def railOpened (reason : OffReason) (s : State) : State :=
  deliver (.blcRailChange false) (pathChanged s
    (updPpc (fun p => { p with railOn := false, offReason := reason, waiting := none }) (openAllSwitches s)))

theorem railOpened_ppc (reason : OffReason) (s : State) : (railOpened reason s).ppc = { s.ppc with
    railOn := false, offReason := reason, waiting := none, dcSwitch := false, bridgeTimer := none,
    bays := ⟨{ bayOf s .A with discharge := false }, { bayOf s .B with discharge := false }⟩ } := by
  have hoff : bridging (updPpc (fun p => { p with railOn := false, offReason := reason, waiting := none }) (openAllSwitches s)) = false := by
    simp [bridging]
  simp only [railOpened, deliver_ppc, pathChanged_ppc, hoff, Bool.false_eq_true, if_false]
  rfl

theorem railOpened_bay (reason : OffReason) (s : State) (b : Bay) :
    bayOf (railOpened reason s) b = { bayOf s b with discharge := false } := by
  cases b <;> simp [bayOf, railOpened_ppc, PerBay.get]

/-- The bays set down, before the transfer in flight is cleared. -/
def baysSetDown (s : State) : State := releaseReleasing .B (releaseReleasing .A (setDown .B (setDown .A s)))

theorem baysSetDown_setsDown {s : State} (hs : ChargeSound s) : SetsDown s (baysSetDown s) := by
  have hA : SetsDown s (setDown .A s) := setDown_setsDown hs
  have hB : SetsDown s (setDown .B (setDown .A s)) := hA.trans (setDown_setsDown (hA.chargeSound hs))
  have hrA : SetsDown s (releaseReleasing .A (setDown .B (setDown .A s))) := hB.trans (releaseReleasing_setsDown (hB.chargeSound hs))
  exact hrA.trans (releaseReleasing_setsDown (hrA.chargeSound hs))

theorem BaySetDown.not_loaded {r r' : BayRecord} (h : BaySetDown r r') (hr : r.state ≠ .supplying ∧ r.state ≠ .charging) :
    r'.state ≠ .supplying ∧ r'.state ≠ .charging :=
  h.state.elim (fun hk => hk ▸ hr) fun hk => ⟨hk.1, hk.2.1⟩

theorem BaySetDown.not_releasing {r r' : BayRecord} (h : BaySetDown r r') (hr : r.state ≠ .releasing) : r'.state ≠ .releasing :=
  h.state.elim (fun hk => hk ▸ hr) fun hk => hk.2.2

theorem baysSetDown_rest {s : State} (hs : ChargeSound s) (b : Bay) :
    AtRest (bayOf (baysSetDown s) b).state ∧ (bayOf (baysSetDown s) b).charge = false := by
  let down : State := setDown .B (setDown .A s)
  have hA : SetsDown s (setDown .A s) := setDown_setsDown hs
  have hB : SetsDown (setDown .A s) down := setDown_setsDown (hA.chargeSound hs)
  have hdown : ChargeSound down := (hA.trans hB).chargeSound hs
  have hrA : SetsDown down (releaseReleasing .A down) := releaseReleasing_setsDown hdown
  have hrB : SetsDown (releaseReleasing .A down) (baysSetDown s) := releaseReleasing_setsDown (hrA.chargeSound hdown)
  have hunloaded : (bayOf (baysSetDown s) b).state ≠ .supplying ∧ (bayOf (baysSetDown s) b).state ≠ .charging := by
    refine ((hrA.trans hrB).bays b).not_loaded ?_
    cases b
    · exact (hB.bays .A).not_loaded (setDown_state .A s)
    · exact setDown_state .B _
  have hreleased : (bayOf (baysSetDown s) b).state ≠ .releasing := by
    cases b
    · exact (hrB.bays .A).not_releasing (releaseReleasing_state .A down)
    · exact releaseReleasing_state .B _
  exact ⟨⟨hunloaded.1, hunloaded.2, hreleased⟩, ((hA.trans hB).trans (hrA.trans hrB)).chargeSound hs |>.open hunloaded.2⟩

theorem railOff_eq (reason : OffReason) (s : State) :
    railOff reason s = arbitrate (endTransfer false (baysSetDown (railOpened reason s))) := rfl

/-- What sets bays down sets them down with the transfer cleared as well. -/
theorem SetsDown.without_transfer {s t : State} (h : SetsDown s t) : SetsDown (setTransfer none s) (setTransfer none t) :=
  ⟨h.cc, by simp only [setTransfer, updPpc]; rw [h.ppc], h.forced, h.delivered, h.bays⟩

/-- After the switches have opened, rail OFF sets bays down, and leaves both at rest. -/
theorem railOff_setsDown {s : State} (reason : OffReason) (hs : ChargeSound s) :
    SetsDown (setTransfer none (railOpened reason s)) (railOff reason s) ∧ Idle (railOff reason s) := by
  have hsound : ChargeSound (railOpened reason s) := fun b => by simpa only [railOpened_bay] using hs b
  have hdown : SetsDown (railOpened reason s) (baysSetDown (railOpened reason s)) := baysSetDown_setsDown hsound
  have hrail : (baysSetDown (railOpened reason s)).ppc.railOn = false := by rw [hdown.ppc]; simp [railOpened_ppc]
  have hended := (endTransfer_setsDown (completed := false) hrail (baysSetDown_rest hsound)).trans (arbitrate_setsDown _)
  exact ⟨hdown.without_transfer.trans hended, hended.idle ⟨rfl, baysSetDown_rest hsound⟩⟩

/-- The record after the rail has gone OFF, where only rest and notices have followed. -/
theorem SetsDown.railDown {reason : OffReason} {s o u : State} (h : SetsDown (setTransfer none (railOpened reason o)) u) (hidle : Idle u)
    (hcc : o.cc = s.cc) (hppc : o.ppc = { s.ppc with forced := o.ppc.forced }) : u.cc = { s.cc with session := u.cc.session }
      ∧ u.ppc = { s.ppc with
          railOn := false, offReason := reason, dcSwitch := false, bridgeTimer := none, transfer := none, waiting := none,
          forced := u.ppc.forced, bays := u.ppc.bays }
      ∧ anyFeeding u = false ∧ bridging u = false ∧ Instr.blcRailChange false ∈ u.delivered
      ∧ (∀ b : Bay, (bayOf u b).identity = (bayOf s b).identity ∧ (bayOf u b).telemetry = (bayOf s b).telemetry
          ∧ (bayOf u b).alarms = (bayOf s b).alarms ∧ (bayOf u b).profile = (bayOf s b).profile)
      ∧ ∀ b : Bay, (bayOf u b).charge = false ∧ (bayOf u b).state ≠ .supplying ∧ (bayOf u b).state ≠ .charging
          ∧ (bayOf u b).state ≠ .releasing := by
  have hbay (b : Bay) : bayOf (setTransfer none (railOpened reason o)) b = { bayOf s b with discharge := false } := by
    have hkept : bayOf o b = bayOf s b := by simp only [bayOf]; rw [hppc]
    exact (railOpened_bay reason o b).trans (by rw [hkept])
  have hopen (b : Bay) : (bayOf u b).discharge = false := by rw [(h.bays b).discharge, hbay]
  have hpath : u.ppc = { s.ppc with
      railOn := false, offReason := reason, dcSwitch := false, bridgeTimer := none, transfer := none, waiting := none,
      forced := u.ppc.forced, bays := u.ppc.bays } := by
    refine h.ppc.trans ?_
    simp only [setTransfer, updPpc, railOpened_ppc]
    rw [hppc]
  refine ⟨?_, hpath, ?_, ?_, h.delivered _ (by simp [railOpened]), fun b => ?_, fun b => ?_⟩
  · refine h.cc.trans ?_
    simp [railOpened, hcc]
  · have hswitch : u.ppc.dcSwitch = false := by rw [hpath]
    simp [anyFeeding, hopen, hswitch]
  · have hrail : u.ppc.railOn = false := by rw [hpath]
    simp [bridging, hrail]
  · exact ⟨by rw [(h.bays b).identity, hbay], by rw [(h.bays b).telemetry, hbay], by rw [(h.bays b).alarms, hbay],
      by rw [(h.bays b).profile, hbay]⟩
  · obtain ⟨⟨hsupplying, hcharging, hreleasing⟩, hcharge⟩ := hidle.2 b
    exact ⟨hcharge, hsupplying, hcharging, hreleasing⟩

/-! ### The grace that ends with the rail (R38, R40) -/

/-- The state in which the rail goes OFF as a grace ends: the record empty. -/
theorem clearForced_ppc (s : State) : (clearForced s).ppc = { s.ppc with forced := none } := by simp [clearForced]

theorem railOffReleasing_none {s : State} (reason : OffReason) (h : s.ppc.forced = none) : railOffReleasing reason s = railOff reason s := by
  simp [railOffReleasing, h]

theorem railOffReleasing_some {s : State} {f : ForcedRelease} (reason : OffReason) (h : s.ppc.forced = some f) :
    railOffReleasing reason s = goReleased f.bay (railOff reason (clearForced s)) := by
  simp [railOffReleasing, h]

/-- The rail goes OFF with its grace: from the cleared record on, bays are set down, and the record stays empty. -/
theorem railOffReleasing_setsDown {s : State} (reason : OffReason) (hs : ChargeSound s) : ∃ o : State,
    o.cc = s.cc ∧ o.ppc = { s.ppc with forced := none } ∧ SetsDown (setTransfer none (railOpened reason o)) (railOffReleasing reason s)
      ∧ Idle (railOffReleasing reason s) := by
  cases hforced : s.ppc.forced with
  | none =>
    obtain ⟨hdown, hidle⟩ := railOff_setsDown reason hs
    rw [railOffReleasing_none reason hforced]
    exact ⟨s, rfl, by rw [← hforced], hdown, hidle⟩
  | some f =>
    have hcleared : ChargeSound (clearForced s) := (clearForced_setsDown s).chargeSound hs
    obtain ⟨hdown, hidle⟩ := railOff_setsDown reason hcleared
    have hreleased := hdown.trans (goReleased_setsDown (hidle.2 f.bay).2)
    rw [railOffReleasing_some reason hforced]
    exact ⟨clearForced s, by simp, clearForced_ppc s, hreleased, (goReleased_setsDown (hidle.2 f.bay).2).idle hidle⟩

/-- The bay of the grace is released, or under the hold at rest with its pending mark set. -/
theorem railOffReleasing_bay {s : State} {f : ForcedRelease} (reason : OffReason) (hs : ChargeSound s) (h : s.ppc.forced = some f) :
    (s.ppc.hold = false → (bayOf (railOffReleasing reason s) f.bay).state = .released)
      ∧ (s.ppc.hold = true → (bayOf (railOffReleasing reason s) f.bay).pendingRelease = true
        ∧ (bayOf (railOffReleasing reason s) f.bay).state = if alarmMark s f.bay then .faulted .alarm else .standby) := by
  have hcleared : ChargeSound (clearForced s) := (clearForced_setsDown s).chargeSound hs
  obtain ⟨hdown, hidle⟩ := railOff_setsDown reason hcleared
  obtain ⟨-, hppc, -, -, -, hpack, -⟩ := hdown.railDown hidle (s := s) (by simp) (by simp [clearForced_ppc])
  have hhold : (railOff reason (clearForced s)).ppc.hold = s.ppc.hold := by rw [hppc]
  have halarm : alarmMark (railOff reason (clearForced s)) f.bay = alarmMark s f.bay := by
    simp only [alarmMark, (hpack f.bay).2.2.1]
  have hgoes := bayOf_goReleased f.bay (railOff reason (clearForced s))
  rwa [hhold, halarm, ← railOffReleasing_some reason h] at hgoes

theorem railOffReleasing_forced {s : State} (reason : OffReason) (hs : ChargeSound s) : (railOffReleasing reason s).ppc.forced = none := by
  obtain ⟨o, -, hppc, hdown, -⟩ := railOffReleasing_setsDown reason hs
  have hopened : (setTransfer none (railOpened reason o)).ppc.forced = none := by simp [setTransfer, railOpened_ppc, hppc]
  exact hdown.forced.elim (fun h => h.trans hopened) id

/-- Settles O15. -/
theorem railOffOpensEverySwitch : Obligations.RailOffOpensEverySwitch := by
  intro s hcharge
  have hsound : ChargeSound s := fun b => hcharge (bayOf s b) (by cases b <;> simp)
  refine ⟨fun htimer => ⟨_, exec_effect (by simp) s, ?_⟩, fun f hforced => ⟨_, exec_effect (by simp) s, ?_⟩, fun tag hlink hrail => ?_⟩
  · rw [show effect .bridgeTimerExpiry s = graceLeft (railOff .bridgeExpired s) from if_pos htimer]
    obtain ⟨hdown, hidle⟩ := railOff_setsDown .bridgeExpired hsound
    have hleft := graceLeft_setsDown hidle
    exact ⟨by simp [keeps_iff], (hdown.trans hleft).railDown (hleft.idle hidle) rfl rfl⟩
  · rw [show effect .graceExpiry s = railOffReleasing .graceExpired s from if_pos (by simp [hforced])]
    obtain ⟨o, hcc, hppc, hdown, hidle⟩ := railOffReleasing_setsDown .graceExpired hsound
    exact ⟨⟨by simp [keeps_iff], hdown.railDown hidle hcc (by rw [hppc])⟩, railOffReleasing_forced _ hsound,
      railOffReleasing_bay _ hsound hforced⟩
  · let asked : State := acceptFrame (take (.rail tag [0]) s)
    have hoff : railAnswer [0] asked = answer .ok [] (railOffReleasing .host asked) := congrArg (answer .ok []) (if_pos hrail)
    have hasked : ChargeSound asked := hsound
    obtain ⟨o, hcc, hppc, hdown, hidle⟩ := railOffReleasing_setsDown .host hasked
    have hanswered : SetsDown (railOffReleasing .host asked) (respond tag 0x23 .ok [] (railOffReleasing .host asked)) :=
      setsDown_of_ppc (by simp) (by simp) (by simp)
    refine ⟨_, exec_request hlink (by simp) rfl hoff, ⟨by simp [keeps_iff, asked],
      (hdown.trans hanswered).railDown (hanswered.idle hidle) hcc (by rw [hppc]; rfl)⟩, ?_, fun f hforced => ?_⟩
    · simpa using railOffReleasing_forced .host hasked
    · have hhold : asked.ppc.hold = s.ppc.hold := rfl
      have halarm : alarmMark asked f.bay = alarmMark s f.bay := rfl
      have hreleased := railOffReleasing_bay .host hasked hforced
      rw [hhold, halarm] at hreleased
      simpa only [bayOf_respond] using hreleased

end Sys2Proof.Machine
end

section
/-! PROOFS. A pack removed: the bay that empties, and the transfer that a removed source calls for (sections 2.3, 2.5). -/

namespace Sys2Proof.Machine

/-! ### A switch that stands already (R13) -/

theorem updBay_same {b : Bay} {f : BayRecord → BayRecord} {s : State} (h : f (bayOf s b) = bayOf s b) : updBay b f s = s := by
  cases b
  · exact congrArg (fun r => { s with ppc := { s.ppc with bays := ⟨r, s.ppc.bays.b⟩ } }) h
  · exact congrArg (fun r => { s with ppc := { s.ppc with bays := ⟨s.ppc.bays.a, r⟩ } }) h

theorem driveSwitch_same {x : Source} {v : Bool} {s : State} (h : switchClosed s x = v) : driveSwitch x v s = s := by
  subst h
  rcases x with _ | b
  · rfl
  · exact updBay_same (f := fun r => { r with discharge := (bayOf s b).discharge }) rfl

/-- Where neither switch nor rail has changed, the bridge timer that bridging calls for stands and nothing is told. -/
theorem pathChanged_same {s : State} (h : bridging s = true ∨ s.ppc.bridgeTimer = none) : pathChanged s s = s := by
  have htimer : (if bridging s then (if bridging s then s.ppc.bridgeTimer else some 0) else none) = s.ppc.bridgeTimer := by
    cases hbridging : bridging s
    · simp [h.resolve_left (by simp [hbridging])]
    · simp
  have hkept : updPpc (fun p => { p with bridgeTimer := s.ppc.bridgeTimer }) s = s := rfl
  simp only [pathChanged, htimer, hkept]
  simp [tellBudgetIf]

theorem setSwitch_same {x : Source} {v : Bool} {s : State} (hswitch : switchClosed s x = v)
    (h : bridging s = true ∨ s.ppc.bridgeTimer = none) : setSwitch x v s = s := by
  rw [setSwitch, driveSwitch_same hswitch, pathChanged_same h]

/-! ### The source record with a bay emptied (R15, R22) -/

/-- The forced-release record as the bay of a grace leaves the load (R40). -/
def forcedWithout (b : Bay) (s : State) : Option ForcedRelease := if s.ppc.forced.map ForcedRelease.bay = some b then none else s.ppc.forced

theorem forcedWithout_other {b : Bay} {s : State} (h : s.ppc.forced.map ForcedRelease.bay ≠ some b) : forcedWithout b s = s.ppc.forced :=
  if_neg h

theorem forcedWithout_none {b : Bay} {s : State} (h : s.ppc.forced = none) : forcedWithout b s = none := by
  rw [forcedWithout_other (by simp [h]), h]

theorem clearForcedOf_ppc (b : Bay) (s : State) : (clearForcedOf b s).ppc = { s.ppc with forced := forcedWithout b s } := by
  by_cases hb : s.ppc.forced.map ForcedRelease.bay = some b
  · obtain ⟨f, hf, hbay⟩ := Option.map_eq_some_iff.1 hb
    simp [clearForcedOf, forcedWithout, hf, hbay, clearForced_ppc]
  · have hkept : clearForcedOf b s = s := by
      cases hforced : s.ppc.forced with
      | none => exact clearForcedOf_empty hforced b
      | some f =>
        have hf : f.bay ≠ b := by simpa [hforced] using hb
        simp [clearForcedOf, hforced, hf]
    rw [hkept, forcedWithout_other hb]

theorem enteredRecord_empty {r : BayRecord} (hdischarge : r.discharge = false) (hcharge : r.charge = false) :
    enteredRecord .empty r = bayAtReset := by
  simp [enteredRecord, hdischarge, hcharge, bayAtReset]

/-- A bay's pack is gone: both switches open, the bay EMPTY, FORCED_REMOVAL raised and its grace ended (R22). -/
def packRemoved (b : Bay) (s : State) : State :=
  clearForcedOf b (raise (.forcedRemoval b (bayOf s b).state)
    (enterBay b .empty (setSwitch (.bay b) false (updBay b (fun r => { r with charge := false }) s))))

theorem forcedRemoval_eq (b : Bay) (s : State) : forcedRemoval b s =
    if isTransferTarget s b then targetLost .removal (sessionStopped b none (packRemoved b s))
    else if isTransferSource s b then
      match (sessionStopped b none (packRemoved b s)).ppc.transfer with
      | some t => if t.phase = .overlap then endTransfer true (sessionStopped b none (packRemoved b s))
        else sessionStopped b none (packRemoved b s)
      | none => sessionStopped b none (packRemoved b s)
    else if (bayOf s b).discharge then unplannedTransfer (.bay b) .removal (sessionStopped b none (packRemoved b s))
    else sessionStopped b none (packRemoved b s) := rfl

/-- The bridge timer as a bay's switch opens, the other sources standing. -/
def timerWithout (b : Bay) (s : State) : Option Nat :=
  if s.ppc.railOn = true ∧ s.ppc.dcSwitch = false ∧ (bayOf s b.other).discharge = false then
    (if bridging s then s.ppc.bridgeTimer else some 0)
  else none

theorem anyFeeding_bay (b : Bay) (s : State) : anyFeeding s = (s.ppc.dcSwitch || (bayOf s b).discharge || (bayOf s b.other).discharge) := by
  cases b
  · rfl
  · exact Bool.or_right_comm _ _ _

theorem setSwitch_open_bay (b : Bay) (s : State) : (setSwitch (.bay b) false s).ppc = { s.ppc with
    bridgeTimer := timerWithout b s, bays := s.ppc.bays.set b { bayOf s b with discharge := false } } := by
  have hbridging : bridging (driveSwitch (.bay b) false s) =
      decide (s.ppc.railOn = true ∧ s.ppc.dcSwitch = false ∧ (bayOf s b.other).discharge = false) := by
    cases hrail : s.ppc.railOn <;> cases hdc : s.ppc.dcSwitch <;> simp [bridging, anyFeeding_bay b, driveSwitch, hrail, hdc]
  simp only [setSwitch, pathChanged_ppc, hbridging, timerWithout, decide_eq_true_eq]
  simp [driveSwitch, bayOf]

theorem packRemoved_ppc (b : Bay) (s : State) : (packRemoved b s).ppc = { s.ppc with
    bridgeTimer := timerWithout b s, forced := forcedWithout b s, bays := s.ppc.bays.set b bayAtReset } := by
  let opened : State := updBay b (fun r => { r with charge := false }) s
  have hopened : (setSwitch (.bay b) false opened).ppc = { s.ppc with
      bridgeTimer := timerWithout b s, bays := s.ppc.bays.set b { bayOf s b with charge := false, discharge := false } } := by
    have hbridging : bridging opened = bridging s := by simp [opened, bridging, anyFeeding_bay b]
    rw [setSwitch_open_bay]
    simp [timerWithout, hbridging, opened]
  simp only [packRemoved, clearForcedOf_ppc, forcedWithout, raise_frame, enterBay_ppc, hopened, opened]
  simp [enteredRecord_empty]

@[simp] theorem packRemoved_frame (b : Bay) (s : State) :
    (packRemoved b s).settling = s.settling ∧ (packRemoved b s).icu = s.icu ∧ (packRemoved b s).bu = s.bu
      ∧ (packRemoved b s).blc = s.blc ∧ (packRemoved b s).shm = s.shm ∧ (packRemoved b s).dl = s.dl ∧ (packRemoved b s).ts = s.ts
      ∧ (packRemoved b s).freeIndex = s.freeIndex ∧ (packRemoved b s).pending = s.pending := by simp [packRemoved]

theorem packRemoved_cc (b : Bay) (s : State) : (packRemoved b s).cc = { s.cc with charged := s.cc.charged.set b false } := by
  simp [packRemoved]

theorem packRemoved_lu (b : Bay) (s : State) : (packRemoved b s).lu = (raise (.forcedRemoval b (bayOf s b).state) s).lu := by
  simpa [packRemoved] using raise_lu_of (by simp) (by simp)

theorem bayOf_packRemoved_same (b : Bay) (s : State) : bayOf (packRemoved b s) b = bayAtReset := by simp [bayOf, packRemoved_ppc]

theorem bayOf_packRemoved_other (b : Bay) (s : State) : bayOf (packRemoved b s) b.other = bayOf s b.other := by
  simp [bayOf, packRemoved_ppc]

theorem sessionActive_packRemoved (b x : Bay) (s : State) : sessionActive (packRemoved b s) x = sessionActive s x := by
  simp [sessionActive, packRemoved_cc]

/-- With no session of the bay, the session does not stop with its pack. -/
theorem sessionStopped_packRemoved {b : Bay} {s : State} (h : sessionActive s b = false) :
    sessionStopped b none (packRemoved b s) = packRemoved b s :=
  sessionStopped_idle (by rw [sessionActive_packRemoved, h]) none

/-! ### No source left (R23, R29) -/

theorem feedingBay_none {s : State} (h : anyFeeding s = false) : feedingBay s = none := by
  obtain ⟨⟨-, hA⟩, hB⟩ : (s.ppc.dcSwitch = false ∧ (bayOf s .A).discharge = false) ∧ (bayOf s .B).discharge = false := by
    simpa [anyFeeding] using h
  simp [feedingBay, hA, hB]

@[simp] theorem bayOf_setWaiting (w : Option WaitCause) (s : State) (b : Bay) : bayOf (setWaiting w s) b = bayOf s b := by
  cases b <;> simp [bayOf, setWaiting]

@[simp] theorem bayOf_setTransfer (t : Option Transfer) (s : State) (b : Bay) : bayOf (setTransfer t s) b = bayOf s b := by
  cases b <;> simp [bayOf, setTransfer]

theorem startGap_eq (x : Option Source) (y : Source) (cause : Cause) (s : State) : startGap x y cause s =
    { s with ppc := { s.ppc with waiting := none, transfer := some ⟨x, y, .bridge, .bridge, false, cause, 0⟩ } } := rfl

theorem setWaiting_same {s : State} {w : Option WaitCause} (h : s.ppc.waiting = w) : setWaiting w s = s := by
  subst h
  rfl

/-- While no bay feeds no transfer waits. -/
theorem dropStaleWaiting_unfed {s : State} (h : feedingBay s = none) : dropStaleWaiting s = setWaiting none s := by
  cases hwaiting : s.ppc.waiting with
  | none => simp [dropStaleWaiting, hwaiting, setWaiting_same]
  | some w => cases w <;> simp [dropStaleWaiting, hwaiting, h]

/-- A source lost while no other feeds: an unplanned transfer to the target of R23. -/
theorem unplannedTransfer_starts {x y : Source} {cause : Cause} {s : State} (hcharging : ∀ b, (bayOf s b).state ≠ .charging)
    (hfeeding : anyFeeding s = false) (hrail : s.ppc.railOn = true) (hy : gapTarget (setWaiting none s) = some y) :
    unplannedTransfer x cause s = startGap (some x) y cause (setWaiting none s) := by
  have hunfed : anyFeeding (setWaiting none s) = false := hfeeding
  simp [unplannedTransfer, stopAllCharging_idle hcharging, dropStaleWaiting_unfed (feedingBay_none hfeeding), hunfed, hrail, hy]

/-- A source lost while no other feeds, and with no target: POWER_FAIL_WARNING. -/
theorem unplannedTransfer_warns {x : Source} {cause : Cause} {s : State} (hcharging : ∀ b, (bayOf s b).state ≠ .charging)
    (hfeeding : anyFeeding s = false) (hrail : s.ppc.railOn = true) (hnone : gapTarget (setWaiting none s) = none) :
    unplannedTransfer x cause s = raise (.powerFailWarning none) (setWaiting none s) := by
  have hunfed : anyFeeding (setWaiting none s) = false := hfeeding
  simp [unplannedTransfer, stopAllCharging_idle hcharging, dropStaleWaiting_unfed (feedingBay_none hfeeding), hunfed, hrail, hnone]

theorem gapTarget_dc {s : State} (hdc : dcPresent s = true) (h : attachPending s = false) : gapTarget s = some .dc := by
  simp [gapTarget, hdc, h]

theorem gapTarget_bay {s : State} {b : Bay} (hdc : dcPresent s = false) (hb : lowestBay s (eligible s) = some b) :
    gapTarget s = some (.bay b) := by
  simp [gapTarget, hdc, hb]

theorem gapTarget_none {s : State} (hdc : dcPresent s = false) (h : ∀ b, eligible s b = false) : gapTarget s = none := by
  simp [gapTarget, hdc, lowestBay_none h]

/-- A bay that neither stands by nor charges is no target. -/
theorem eligible_eq_false {s : State} {b : Bay} (h : (bayOf s b).state ≠ .standby ∧ (bayOf s b).state ≠ .charging) :
    eligible s b = false := by
  simp [eligible, h.1, h.2]

/-- Eligibility reads the bay's record and P41. -/
theorem eligible_congr {s t : State} {b : Bay} (hbay : bayOf t b = bayOf s b) (hts : t.ts = s.ts) : eligible t b = eligible s b := by
  simp only [eligible, chargeOf, hbay, paramN_congr hts]
  rfl

/-! ### A session that stops with its pack (R86) -/

theorem handList_mem {l : ChargerList} {kind : ListKind} {writes : List (Nat × Nat)} {s : State} (h : l ∈ s.bbc.lists) :
    l ∈ (handList kind writes s).bbc.lists := by
  unfold handList
  split
  · exact List.mem_append_left _ h
  · exact h

theorem chooseAttempt_mem {l : ChargerList} {s : State} (h : l ∈ s.bbc.lists) : l ∈ (chooseAttempt s).bbc.lists := by
  unfold chooseAttempt
  split
  · exact h
  · split
    · unfold startAttempt
      split
      · exact handList_mem h
      · exact h
    · exact h

/-- The end of a session hands the stop list while DC is PRESENT. -/
theorem endSession_hands_stop {s : State} (hdc : dcPresent s = true) : ⟨.stop, [(0x33, 0)], false⟩ ∈ (endSession s).bbc.lists := by
  have hhanded : ⟨.stop, [(0x33, 0)], false⟩ ∈ (handStop (tellBudget (setSession .none s))).bbc.lists := by
    have hpresent : dcPresent (tellBudget (setSession .none s)) = true := hdc
    simp [handStop, handList, hpresent]
  have hchooses : arbitrate (handStop (tellBudget (setSession .none s))) = chooseAttempt (handStop (tellBudget (setSession .none s))) := by
    simp [arbitrate]
  rw [endSession, hchooses]
  exact chooseAttempt_mem hhanded

theorem endSession_tells (s : State) : Instr.budgetRecompute ∈ (endSession s).delivered := by simp [endSession]

/-! ### PRES falling (R15, R18, R22) -/

/-- A bay with open switches empties: its record is cleared, and nothing is told. -/
theorem enterBay_empty_cleared {b : Bay} {s : State} (hdischarge : (bayOf s b).discharge = false) (hcharge : (bayOf s b).charge = false) :
    bayOf (enterBay b .empty s) b = bayOf State.reset b := by
  rw [bayOf_enterBay_same, enteredRecord_empty hdischarge hcharge]
  cases b <;> rfl

theorem enterBay_empty_quiet {b : Bay} {s : State} (hlost : (bayOf s b).telemetryLost = false) (hst : (bayOf s b).state ≠ .releasing) :
    (enterBay b .empty s).delivered = s.delivered := enterBay_quiet hst (by simp) (.inr hlost)

theorem bayAtReset_eq (b : Bay) : bayOf State.reset b = bayAtReset := by cases b <;> rfl

/-- Neither source feeds once the single feeding bay's pack is gone. -/
theorem packRemoved_feeding {b : Bay} {s : State} (hrail : s.ppc.railOn = true) (hdcSwitch : s.ppc.dcSwitch = false)
    (hdischarge : (bayOf s b).discharge = true) (hother : (bayOf s b.other).discharge = false) :
    (packRemoved b s).ppc = { s.ppc with
      bridgeTimer := some 0, forced := forcedWithout b s, bays := s.ppc.bays.set b bayAtReset } := by
  rw [packRemoved_ppc]
  simp [timerWithout, hrail, hdcSwitch, hother, bridging, anyFeeding_bay b, hdischarge]

/-- With the feeding bay EMPTY the target is DC, else the other bay if eligible (R23). -/
theorem gapTarget_packRemoved {b : Bay} {s : State} : gapTarget (setWaiting none (packRemoved b s)) =
    if dcPresent s then some .dc else if eligible s b.other then some (.bay b.other) else none := by
  let gone : State := setWaiting none (packRemoved b s)
  have hpresent : dcPresent gone = dcPresent s := by simp [gone, dcPresent, setWaiting, packRemoved_ppc]
  have hempty : eligible gone b = false := eligible_eq_false (by
    rw [show bayOf gone b = _ from bayOf_packRemoved_same b s]; simp [bayAtReset])
  have hother : eligible gone b.other = eligible s b.other := eligible_congr (bayOf_packRemoved_other b s) (by simp [gone])
  cases hdc : dcPresent s
  · cases heligible : eligible s b.other
    · exact gapTarget_none (hpresent.trans hdc) fun x => by
        rcases bay_cases b x with rfl | rfl
        · exact hempty
        · exact hother.trans heligible
    · exact gapTarget_bay (hpresent.trans hdc) (lowestBay_some (hother.trans heligible) fun h =>
        absurd h (by rw [other_other]; exact Bool.eq_false_iff.mp hempty))
  · exact gapTarget_dc (hpresent.trans hdc) rfl

/-- Settles O10. -/
theorem presenceLostEmptiesBay : Obligations.PresenceLostEmptiesBay := by
  intro b s hlost
  have heffect : effect (.ppcPresFalling b) s = presFell b (take (.ppcPresFalling b) s) := rfl
  refine ⟨fun hdischarge hcharge => ⟨fun hst => ⟨_, exec_effect (by simp) s, ?_⟩, fun hst htarget => ⟨_, exec_effect (by simp) s, ?_⟩,
    fun hst htransfer hforced htimer hbridging hsession => ⟨_, exec_effect (by simp) s, ?_⟩⟩,
    fun hst hdischarge hcharge hrail hdcSwitch hother hocharging htransfer hsession => ⟨_, exec_effect (by simp) s, ?_⟩,
    fun i v hst hdischarge hrail hdcSwitch hdc htransfer hforced htimer hsession => ⟨_, exec_effect (by simp) s, ?_⟩⟩
  · have hplain : effect (.ppcPresFalling b) s = enterBay b .empty (take (.ppcPresFalling b) s) := by
      rcases hst with h | h <;> simp [heffect, presFell, h]
    have hleft : (bayOf s b).state ≠ .releasing := by rcases hst with h | h <;> simp [h]
    rw [hplain]
    refine ⟨by simp [keeps_iff], by simp [onlyBayRecord_iff], enterBay_empty_cleared (by simpa) (by simpa), ?_⟩
    simp [enterBay_empty_quiet, hlost, hleft]
  · have hplain : effect (.ppcPresFalling b) s = raise (.bayRemoved b) (enterBay b .empty (take (.ppcPresFalling b) s)) := by
      have hnot : isTransferTarget (take (.ppcPresFalling b) s) b = false := htarget
      rcases hst with h | ⟨r, h⟩ <;> simp [heffect, presFell, plainRemoval, h, hnot]
    have hleft : (bayOf s b).state ≠ .releasing := by rcases hst with h | ⟨r, h⟩ <;> simp [h]
    rw [hplain]
    refine ⟨by simp [keeps_iff], by simp [onlyBayRecord_iff], ?_, raise_lu_of (by simp) (by simp), ?_⟩
    · rw [bayOf_raise, enterBay_empty_cleared (by simpa) (by simpa)]
    · simp [enterBay_empty_quiet, hlost, hleft]
  · have hremoved : effect (.ppcPresFalling b) s =
        raise (.forcedRemoval b .standby) (enterBay b .empty (take (.ppcPresFalling b) s)) := by
      have hopen : updBay b (fun r => { r with charge := false }) (take (.ppcPresFalling b) s) = take (.ppcPresFalling b) s :=
        updBay_same (by rw [bayOf_take, ← hcharge])
      have hsame : setSwitch (.bay b) false (take (.ppcPresFalling b) s) = take (.ppcPresFalling b) s :=
        setSwitch_same hdischarge (.inr htimer)
      have hpack : packRemoved b (take (.ppcPresFalling b) s) = raise (.forcedRemoval b .standby) (enterBay b .empty (take (.ppcPresFalling b) s)) := by
        rw [packRemoved, hopen, hsame, clearForcedOf_empty (by simpa using hforced), bayOf_take, hst]
      have hstops := sessionStopped_packRemoved (s := take (.ppcPresFalling b) s) hsession
      rw [hpack] at hstops
      simp only [heffect, presFell, bayOf_take, hst, forcedRemoval_eq, hpack, hstops]
      simp [isTransferTarget, isTransferSource, htransfer, hdischarge]
    have hleft : (bayOf s b).state ≠ .releasing := by simp [hst]
    rw [hremoved]
    refine ⟨by simp [keeps_iff], by simp [onlyBayRecord_iff], ?_, raise_lu_of (by simp) (by simp), ?_⟩
    · rw [bayOf_raise, enterBay_empty_cleared (by simpa) (by simpa)]
    · simp [enterBay_empty_quiet, hlost, hleft]
  · let gone : State := packRemoved b (take (.ppcPresFalling b) s)
    have hremoved : effect (.ppcPresFalling b) s = unplannedTransfer (.bay b) .removal gone := by
      have hstops := sessionStopped_packRemoved (s := take (.ppcPresFalling b) s) hsession
      simp only [heffect, presFell, bayOf_take, hst, forcedRemoval_eq, hstops]
      simp [isTransferTarget, isTransferSource, htransfer, hdischarge, gone]
    have hgone : gone.ppc = { s.ppc with bridgeTimer := some 0, forced := forcedWithout b s, bays := s.ppc.bays.set b bayAtReset } :=
      packRemoved_feeding (s := take (.ppcPresFalling b) s) hrail hdcSwitch hdischarge hother
    have hsame : bayOf gone b = bayOf State.reset b := (bayOf_packRemoved_same b _).trans (bayAtReset_eq b).symm
    have hkept : bayOf gone b.other = bayOf s b.other := bayOf_packRemoved_other b (take (.ppcPresFalling b) s)
    have hlu : gone.lu = (raise (.forcedRemoval b .supplying) s).lu := by
      rw [show gone.lu = _ from packRemoved_lu b (take (.ppcPresFalling b) s), bayOf_take, hst]
      exact raise_lu_of (by simp) (by simp)
    have hfeeding : anyFeeding gone = false := by
      simp [anyFeeding_bay b, hgone, hdcSwitch, hkept, hother, hsame, bayAtReset_eq, bayAtReset]
    have hcharging (x : Bay) : (bayOf gone x).state ≠ .charging := by
      rcases bay_cases b x with rfl | rfl
      · simp [hsame, bayAtReset_eq, bayAtReset]
      · simpa [hkept] using hocharging
    have hrailOn : gone.ppc.railOn = true := by simp [hgone, hrail]
    have htarget : gapTarget (setWaiting none gone) = if dcPresent s then some .dc else if eligible s b.other then some (.bay b.other) else none :=
      gapTarget_packRemoved (s := take (.ppcPresFalling b) s)
    have hbridging : bridging gone = true := by simp [bridging, hfeeding, hrailOn]
    have hkeeps : KeepsAllBut [.ppc, .bbc, .cc, .lu, .delivered] s gone := by simp [keeps_iff, gone]
    have hts : gone.ts = s.ts := by simp [gone]
    rw [hremoved]
    clear_value gone
    cases hgap : gapTarget (setWaiting none gone) with
    | none =>
      rw [unplannedTransfer_warns hcharging hfeeding hrailOn hgap]
      have hwarned : KeepsAllBut [.lu, .ppc] gone (raise (.powerFailWarning none) (setWaiting none gone)) := by
        simp [keeps_iff, setWaiting]
      refine ⟨keeps_mono (keeps_trans hkeeps hwarned) (by decide), by simpa using hsame, by simpa using hkept, ?_, fun y hy => ?_,
        fun _ _ => ⟨by simp [setWaiting, hgone, htransfer], raise_lu_of (by simpa [setWaiting] using hlu) (by simpa [setWaiting] using hts)⟩⟩
      · exact (bridging_congr (s := setWaiting none gone) (by simp)).trans hbridging
      · rw [htarget] at hgap
        rcases hy with ⟨-, hdc⟩ | ⟨-, hdc, heligible⟩
        · simp [hdc] at hgap
        · simp [hdc, heligible] at hgap
    | some y' =>
      rw [unplannedTransfer_starts hcharging hfeeding hrailOn hgap, startGap_eq]
      have hstarted (p : Ppc) : KeepsAllBut [.ppc] gone { setWaiting none gone with ppc := p } := by simp [keeps_iff, setWaiting]
      refine ⟨keeps_mono (keeps_trans hkeeps (hstarted _)) (by decide), hsame, hkept, hbridging, fun y hy => ⟨?_, hlu⟩, fun hdc heligible => ?_⟩
      · have hsame' : y' = y := by
          rw [htarget] at hgap
          rcases hy with ⟨rfl, hdc⟩ | ⟨rfl, hdc, heligible⟩
          · simpa [hdc] using hgap.symm
          · simpa [hdc, heligible] using hgap.symm
        subst hsame'
        simp only [setWaiting, updPpc, hgone]
        rfl
      · simp [htarget, hdc, heligible] at hgap
  · let gone : State := packRemoved b (take (.ppcPresFalling b) s)
    have hactive : sessionActive gone b = true := by
      rw [show sessionActive gone b = sessionActive s b from sessionActive_packRemoved b b (take (.ppcPresFalling b) s)]
      simp [sessionActive, hsession]
    have hremoved : effect (.ppcPresFalling b) s = endSession gone := by
      simp only [heffect, presFell, bayOf_take, hst, forcedRemoval_eq]
      simp [isTransferTarget, isTransferSource, htransfer, hdischarge, gone, sessionStopped, hactive]
    have hppc : gone.ppc = { s.ppc with bays := s.ppc.bays.set b bayAtReset } := by
      rw [show gone.ppc = _ from packRemoved_ppc b (take (.ppcPresFalling b) s)]
      simp [timerWithout, hdcSwitch, htimer, forcedWithout_none, hforced]
    have hcc : gone.cc = { s.cc with charged := s.cc.charged.set b false } := packRemoved_cc b (take (.ppcPresFalling b) s)
    have hlu : gone.lu = (raise (.forcedRemoval b .charging) s).lu := by
      rw [show gone.lu = _ from packRemoved_lu b (take (.ppcPresFalling b) s), bayOf_take, hst]
      exact raise_lu_of (by simp) (by simp)
    have hkeeps : KeepsAllBut [.ppc, .bbc, .cc, .lu, .delivered] s (endSession gone) := by simp [keeps_iff, gone]
    have hpresent : dcPresent gone = true := by simpa [dcPresent, hppc] using hdc
    rw [hremoved]
    clear_value gone
    refine ⟨hkeeps, ?_, ?_, ?_, endSession_not_active gone, endSession_hands_stop hpresent, endSession_tells gone, by simpa using hlu⟩
    · simp [onlyBayRecord_iff, hppc, bayOf]
    · rw [bayAtReset_eq]
      simp [hppc, bayOf]
    · rw [endSession_cc, hcc]

end Sys2Proof.Machine
end

section
/-! PROOFS. Monitor readings: the table of DC presence, DC attached to a feeding bay, and DC lost (sections 2.1, 2.4, 2.5). -/

namespace Sys2Proof.Machine

/-! ### A reading (R12, R14) -/

/-- The state with a reading stored and DC presence moved. -/
def withReading (vdc va vb vres : Nat) (p : DcPresence) (s : State) : State :=
  { s with ppc := { s.ppc with
      vdc := vdc, va := va, vb := vb, vres := vres, reserveReady := decide (paramN s 12 ≤ vres), dc := p } }

/-- A reading that does not make the reserve ready moves DC presence by the table, and a change of it is followed. -/
theorem monitorReading_eq {vdc va vb vres : Nat} {s : State} (h : s.ppc.reserveReady = true ∨ vres < paramN s 12) :
    monitorReading vdc va vb vres s =
      let t := withReading vdc va vb vres (nextPresence s.ppc.dc (decide (paramN s 39 ≤ vdc))) s
      if !dcPresent s && dcPresent t then dcArrived t else if dcPresent s && !dcPresent t then dcGone t else t := by
  have hready : (!s.ppc.reserveReady && (storeReadings vdc va vb vres s).ppc.reserveReady) = false := by
    rcases h with h | h <;> simp [storeReadings, h]
  simp only [monitorReading, hready, Bool.false_eq_true, if_false]
  rfl

theorem dcPresent_iff (s : State) : dcPresent s = true ↔ ∃ n, s.ppc.dc = .present n := by
  unfold dcPresent
  split <;> simp_all

theorem nextPresence_eq (p : DcPresence) (low vdc : Nat) : nextPresence p (decide (low ≤ vdc)) =
    match p with
    | .absent => if low ≤ vdc then .qualifying 0 else .absent
    | .qualifying e => if low ≤ vdc then (if ms 200 ≤ e then .present 0 else .qualifying e) else .absent
    | .present n => if low ≤ vdc then .present 0 else if n = 0 then .present 1 else .absent := by
  cases p with
  | absent => by_cases h : low ≤ vdc <;> simp [nextPresence, h]
  | qualifying e => by_cases h : low ≤ vdc <;> simp [nextPresence, h]
  | present n =>
    by_cases h : low ≤ vdc
    · simp [nextPresence, h]
    · cases n <;> simp [nextPresence, h]

/-- A reading that leaves presence PRESENT or not as it was is stored, and no more. -/
theorem monitorReading_same {vdc va vb vres : Nat} {s : State} {p : DcPresence} (h : s.ppc.reserveReady = true ∨ vres < paramN s 12)
    (hp : nextPresence s.ppc.dc (decide (paramN s 39 ≤ vdc)) = p) (hsame : dcPresent s = true ↔ ∃ n, p = .present n) :
    monitorReading vdc va vb vres s = withReading vdc va vb vres p s := by
  have hpresent : dcPresent (withReading vdc va vb vres p s) = dcPresent s := by
    rw [Bool.eq_iff_iff, dcPresent_iff, hsame]
    rfl
  rw [monitorReading_eq h, hp]
  simp [hpresent]

theorem monitorReading_arrives {vdc va vb vres e : Nat} {s : State} (h : s.ppc.reserveReady = true ∨ vres < paramN s 12)
    (hdc : s.ppc.dc = .qualifying e) (he : ms 200 ≤ e) (hv : paramN s 39 ≤ vdc) :
    monitorReading vdc va vb vres s = dcArrived (withReading vdc va vb vres (.present 0) s) := by
  have hnext : nextPresence s.ppc.dc (decide (paramN s 39 ≤ vdc)) = .present 0 := by simp [hdc, nextPresence, hv, he]
  rw [monitorReading_eq h, hnext]
  simp [dcPresent, hdc, withReading]

theorem monitorReading_goes {vdc va vb vres n : Nat} {s : State} (h : s.ppc.reserveReady = true ∨ vres < paramN s 12)
    (hdc : s.ppc.dc = .present n) (hn : 1 ≤ n) (hv : vdc < paramN s 39) :
    monitorReading vdc va vb vres s = dcGone (withReading vdc va vb vres .absent s) := by
  have hnext : nextPresence s.ppc.dc (decide (paramN s 39 ≤ vdc)) = .absent := by
    rw [nextPresence_eq, hdc]
    simp [Nat.not_le.mpr hv, Nat.ne_of_gt hn]
  rw [monitorReading_eq h, hnext]
  simp [dcPresent, hdc, withReading]

/-! ### A planned BRIDGE transfer starts (R26, R28) -/

/-- The transfer recorded and its source's switch open. -/
def bridgeStarted (b : Bay) (y : Source) (cause : Cause) (s : State) : State :=
  setSwitch (.bay b) false (setTransfer (some ⟨some (.bay b), y, .bridge, .bridge, true, cause, 0⟩) (setWaiting none s))

theorem bridgeStarted_ppc {b : Bay} (y : Source) (cause : Cause) {s : State} (hrail : s.ppc.railOn = true) (hdcSwitch : s.ppc.dcSwitch = false)
    (hdischarge : (bayOf s b).discharge = true) (hother : (bayOf s b.other).discharge = false) :
    (bridgeStarted b y cause s).ppc = { s.ppc with
      transfer := some ⟨some (.bay b), y, .bridge, .bridge, true, cause, 0⟩, waiting := none, bridgeTimer := some 0,
      bays := s.ppc.bays.set b { bayOf s b with discharge := false } } := by
  rw [bridgeStarted, setSwitch_open_bay]
  simp [timerWithout, bridging, anyFeeding_bay b, hother, hdischarge, hrail, hdcSwitch]

@[simp] theorem bridgeStarted_frame (b : Bay) (y : Source) (cause : Cause) (s : State) :
    (bridgeStarted b y cause s).settling = s.settling ∧ (bridgeStarted b y cause s).icu = s.icu ∧ (bridgeStarted b y cause s).bbc = s.bbc
      ∧ (bridgeStarted b y cause s).cc = s.cc ∧ (bridgeStarted b y cause s).bu = s.bu ∧ (bridgeStarted b y cause s).blc = s.blc
      ∧ (bridgeStarted b y cause s).shm = s.shm ∧ (bridgeStarted b y cause s).dl = s.dl ∧ (bridgeStarted b y cause s).ts = s.ts
      ∧ (bridgeStarted b y cause s).lu = s.lu ∧ (bridgeStarted b y cause s).freeIndex = s.freeIndex
      ∧ (bridgeStarted b y cause s).pending = s.pending := by simp [bridgeStarted]

/-- From a SUPPLYING bay: the bay takes its rest state (R27, R81). -/
theorem startTransfer_bridge_supplying {b : Bay} {y : Source} {cause : Cause} {s : State} (hy : clearTarget y s = s)
    (hst : (bayOf s b).state = .supplying) :
    startTransfer (.bay b) y .bridge cause s = arbitrate (enterBay b (restState s b) (bridgeStarted b y cause s)) := by
  have hrest : restState (bridgeStarted b y cause s) b = restState s b := by
    simp only [restState, alarmMark, bridgeStarted, bayOf_setSwitch_same, bayOf_setTransfer, bayOf_setWaiting]
    rfl
  simp only [startTransfer, hy, leaveLoad]
  rw [if_pos (by simpa using hst)]
  exact congrArg (fun st => arbitrate (enterBay b st (bridgeStarted b y cause s))) hrest

/-- From a RELEASING bay: the bay stays RELEASING. -/
theorem startTransfer_bridge_releasing {b : Bay} {y : Source} {cause : Cause} {s : State} (hy : clearTarget y s = s)
    (hst : (bayOf s b).state = .releasing) : startTransfer (.bay b) y .bridge cause s = bridgeStarted b y cause s := by
  simp only [startTransfer, hy, leaveLoad]
  rw [if_neg (by simp [hst])]
  rfl

/-! ### DC attached (R14, R23) -/

theorem feedingBay_some {s : State} {b : Bay} (hb : (bayOf s b).discharge = true) (ho : (bayOf s b.other).discharge = false) :
    feedingBay s = some b := by
  cases b
  · simp [feedingBay, hb]
  · have hA : (bayOf s .A).discharge = false := ho
    simp [feedingBay, hb, hA]

/-- With no transfer waiting, selection is the choice of R23. -/
theorem select_chooses {s : State} (hrail : s.ppc.railOn = true) (htransfer : s.ppc.transfer = none) (hwaiting : s.ppc.waiting = none) :
    select s = chooseSource s := by
  have hkept : dropStaleWaiting s = s := by simp [dropStaleWaiting, hwaiting]
  simp [select, hrail, htransfer, hkept, retryWaiting, hwaiting]

theorem attachPending_eq_false {s : State} (h : s.ppc.waiting = none) : attachPending s = false := by simp [attachPending, h]

/-- DC PRESENT and off, with a bay that feeds and no transfer waiting: a transfer to DC is sought. -/
theorem chooseSource_attach {s : State} {b : Bay} (hdc : dcPresent s = true) (hwaiting : s.ppc.waiting = none)
    (hdcSwitch : s.ppc.dcSwitch = false) (hfeeding : feedingBay s = some b) :
    chooseSource s = seekTransfer b .dc .dcAttach .dcAttach s := by
  simp [chooseSource, hdc, attachPending_eq_false hwaiting, hdcSwitch, hfeeding]

theorem transferMethod_overlap {s : State} {x y : Source} (h : ((voltageOf s x : Int) - voltageOf s y).natAbs ≤ paramN s 11) :
    transferMethod s x y = some .overlap := if_pos h

theorem transferMethod_bridge {s : State} {x y : Source} (h : paramN s 11 < ((voltageOf s x : Int) - voltageOf s y).natAbs)
    (hready : s.ppc.reserveReady = true) : transferMethod s x y = some .bridge :=
  (if_neg (Nat.not_le.mpr h)).trans (if_pos hready)

theorem transferMethod_congr {s t : State} (hppc : t.ppc = s.ppc) (hts : t.ts = s.ts) (x y : Source) :
    transferMethod t x y = transferMethod s x y := by
  have hvoltage (z : Source) : voltageOf t z = voltageOf s z := by
    rcases z with _ | b
    · simp only [voltageOf, hppc]
    · cases b <;> simp only [voltageOf, hppc]
  simp only [transferMethod, hvoltage, paramN_congr hts, hppc]

theorem seekTransfer_starts {s : State} {b : Bay} {y : Source} {cause : Cause} {w : WaitCause} {m : Method}
    (h : transferMethod s (.bay b) y = some m) : seekTransfer b y cause w s = startTransfer (.bay b) y m cause s := by
  simp [seekTransfer, h]

/-- DC's arrival selects, where no grace runs. -/
theorem dcArrived_selects {s : State} (h : s.ppc.forced = none) :
    dcArrived s = graceLeft (select (raise (.dcAttached s.ppc.vdc) s)) := by
  rw [dcArrived, graceTest_empty (by simpa using h), selectSource]

/-- DC arrives while one bay feeds: a BRIDGE transfer to it starts and the bay is STANDBY (R23, R28). -/
theorem dcArrived_attaches {b : Bay} {s : State} (hdc : dcPresent s = true) (hrail : s.ppc.railOn = true) (htransfer : s.ppc.transfer = none)
    (hwaiting : s.ppc.waiting = none) (hforced : s.ppc.forced = none) (hdcSwitch : s.ppc.dcSwitch = false)
    (hst : (bayOf s b).state = .supplying) (hdischarge : (bayOf s b).discharge = true) (hother : (bayOf s b.other).discharge = false)
    (halarm : alarmMark s b = false) (hmethod : transferMethod s (.bay b) .dc = some .bridge) :
    dcArrived s = arbitrate (enterBay b .standby (bridgeStarted b .dc .dcAttach (raise (.dcAttached s.ppc.vdc) s))) := by
  let raised : State := raise (.dcAttached s.ppc.vdc) s
  have hppc : raised.ppc = s.ppc := by simp [raised]
  have hts : raised.ts = s.ts := by simp [raised]
  have hbay (x : Bay) : bayOf raised x = bayOf s x := bayOf_congr hppc x
  have hmethod' : transferMethod raised (.bay b) .dc = some .bridge := (transferMethod_congr hppc hts _ _).trans hmethod
  have hrest : restState raised b = .standby := by
    have hclear : alarmMark raised b = false := by simpa only [alarmMark, hbay] using halarm
    simp [restState, hclear]
  have hattached : select raised = arbitrate (enterBay b .standby (bridgeStarted b .dc .dcAttach raised)) := by
    rw [select_chooses (by rw [hppc, hrail]) (by rw [hppc, htransfer]) (by rw [hppc, hwaiting]),
      chooseSource_attach (by simpa only [dcPresent, hppc] using hdc) (by rw [hppc, hwaiting]) (by rw [hppc, hdcSwitch])
        (feedingBay_some (by rw [hbay, hdischarge]) (by rw [hbay, hother])),
      seekTransfer_starts hmethod', startTransfer_bridge_supplying rfl (by rw [hbay, hst]), hrest]
  have hstarted := bridgeStarted_ppc (b := b) (s := raised) .dc .dcAttach (by rw [hppc, hrail]) (by rw [hppc, hdcSwitch])
    (by rw [hbay, hdischarge]) (by rw [hbay, hother])
  rw [dcArrived_selects hforced, hattached, graceLeft_empty]
  simp [hstarted, hppc, hforced]

/-! ### DC lost (R14, R84) -/

/-- DC's switch open after DC_DETACHED, the charger told (R14, R84). -/
def dcOut (s : State) : State := setSwitch .dc false (tellBudget (chargerLosesDc (raise (.dcDetached s.ppc.vdc) s)))

/-- With no transfer waiting, DC's loss ends a transfer towards it, bridges, or selects. -/
theorem dcGone_eq {s : State} (h : s.ppc.waiting = none) : dcGone s =
    if s.ppc.transfer.map (fun t => t.target == .dc) = some true then targetLost .dcLoss (stopAllCharging (dcOut s))
    else if s.ppc.dcSwitch then unplannedTransfer .dc .dcLoss (dcOut s) else selectSource (stopAllCharging (dcOut s)) := by
  have hattach : attachPending (raise (.dcDetached s.ppc.vdc) s) = false := attachPending_eq_false (by simpa using h)
  simp only [dcGone, hattach, Bool.false_eq_true, if_false]
  cases htransfer : s.ppc.transfer with
  | none => simp [dcOut, htransfer]
  | some t =>
    by_cases ht : t.target = .dc
    · simp [dcOut, htransfer, ht]
    · simp [dcOut, htransfer, ht]

/-- The bridge timer as DC's switch opens, the bays standing. -/
def timerWithoutDc (s : State) : Option Nat :=
  if s.ppc.railOn = true ∧ (bayOf s .A).discharge = false ∧ (bayOf s .B).discharge = false then
    (if bridging s then s.ppc.bridgeTimer else some 0)
  else none

theorem setSwitch_open_dc (s : State) :
    (setSwitch .dc false s).ppc = { s.ppc with bridgeTimer := timerWithoutDc s, dcSwitch := false } := by
  have hbridging : bridging (driveSwitch .dc false s) =
      decide (s.ppc.railOn = true ∧ (bayOf s .A).discharge = false ∧ (bayOf s .B).discharge = false) := by
    cases hrail : s.ppc.railOn
    · simp [bridging, driveSwitch, hrail]
    · have hA : bayOf (driveSwitch .dc false s) .A = bayOf s .A := rfl
      have hB : bayOf (driveSwitch .dc false s) .B = bayOf s .B := rfl
      simp only [bridging, anyFeeding, hA, hB]
      simp [driveSwitch, hrail]
  simp only [setSwitch, pathChanged_ppc, hbridging, timerWithoutDc, decide_eq_true_eq]
  rfl

theorem dcOut_ppc (s : State) : (dcOut s).ppc = { s.ppc with bridgeTimer := timerWithoutDc s, dcSwitch := false } := by
  have hkept : (tellBudget (chargerLosesDc (raise (.dcDetached s.ppc.vdc) s))).ppc = s.ppc := by simp
  rw [dcOut, setSwitch_open_dc, hkept]
  simp only [timerWithoutDc, bridging_congr hkept, bayOf_congr hkept, hkept]

theorem dcOut_lu (s : State) : (dcOut s).lu = (raise (.dcDetached s.ppc.vdc) s).lu := by simp [dcOut]

@[simp] theorem dcOut_frame (s : State) :
    (dcOut s).settling = s.settling ∧ (dcOut s).icu = s.icu ∧ (dcOut s).bu = s.bu ∧ (dcOut s).blc = s.blc ∧ (dcOut s).shm = s.shm
      ∧ (dcOut s).dl = s.dl ∧ (dcOut s).ts = s.ts ∧ (dcOut s).freeIndex = s.freeIndex ∧ (dcOut s).pending = s.pending := by
  simp [dcOut]

@[simp] theorem bayOf_dcOut (s : State) (b : Bay) : bayOf (dcOut s) b = bayOf s b := by
  simp only [bayOf, dcOut_ppc]

/-- The charger's fault is cleared and a starting attempt ends, its lists withdrawn (R84). -/
theorem chargerLosesDc_eq (s : State) : (chargerLosesDc s).cc = { s.cc with session := (chargerLosesDc s).cc.session, fault := false, failedLists := 0 }
    ∧ (∀ b i v, (chargerLosesDc s).cc.session ≠ .starting b i v)
    ∧ (chargerLosesDc s).bbc = { s.bbc with lists := withdrawn (fun _ => true) (chargerInFlight s) s.bbc.lists } := by
  cases hsession : s.cc.session with
  | none => simp [chargerLosesDc, hsession, withdrawAll]
  | starting b i v => simp [chargerLosesDc, hsession, withdrawAll, setSession]
  | active b i v => simp [chargerLosesDc, hsession, withdrawAll]

theorem withdrawn_all_free (lists : List ChargerList) : withdrawn (fun _ => true) false lists = [] := by
  cases lists <;> simp [withdrawn]

theorem dcOut_charger (s : State) : (dcOut s).cc = { s.cc with session := (dcOut s).cc.session, fault := false, failedLists := 0 }
    ∧ (∀ b i v, (dcOut s).cc.session ≠ .starting b i v)
    ∧ (dcOut s).bbc = { s.bbc with lists := (dcOut s).bbc.lists }
    ∧ ((∀ t, s.bbc.inFlight = some t → t.owner ≠ .charger) → (dcOut s).bbc.lists = []) := by
  obtain ⟨hcc, hsession, hbbc⟩ := chargerLosesDc_eq (raise (.dcDetached s.ppc.vdc) s)
  have hcc' : (dcOut s).cc = (chargerLosesDc (raise (.dcDetached s.ppc.vdc) s)).cc := by simp [dcOut]
  have hbbc' : (dcOut s).bbc = (chargerLosesDc (raise (.dcDetached s.ppc.vdc) s)).bbc := by simp [dcOut]
  refine ⟨by rw [hcc', hcc]; simp, fun b i v => by rw [hcc']; exact hsession b i v, by rw [hbbc', hbbc]; simp, fun hfree => ?_⟩
  have hnot : chargerInFlight (raise (.dcDetached s.ppc.vdc) s) = false := chargerInFlight_eq_false (by simpa using hfree)
  rw [hbbc', hbbc, hnot]
  exact withdrawn_all_free _

/-- Settles O13. -/
theorem readingsQualifyDcAndAttach : Obligations.ReadingsQualifyDcAndAttach := by
  refine ⟨fun vdc va vb vres s => ⟨fun hs => ?_, fun hs p hp hready hsame => ?_⟩,
    fun b e vdc va vb vres s hs hdc he hv hreserve hready hrail htransfer hwaiting hforced hdcSwitch hst hdischarge hother halarm hfar =>
      ⟨_, exec_effect (by simp) s, ?_⟩,
    fun n vdc va vb vres s hs hdc hn hv hready htransfer hwaiting hforced hbays => ?_⟩
  · rw [exec_effect (by simp)]
    simp [effect, afterSettle, hs]
  · have hnext : nextPresence s.ppc.dc (decide (paramN s 39 ≤ vdc)) = p := (nextPresence_eq _ _ _).trans hp.symm
    rw [exec_effect (by simp), show effect (.sourceMonitorReading vdc va vb vres) s = _ from afterSettle_open hs _,
      monitorReading_same hready hnext hsame]
    rfl
  · let taken : State := withReading vdc va vb vres (.present 0) s
    let attached : State := bridgeStarted b .dc .dcAttach (raise (.dcAttached vdc) taken)
    have hready' : taken.ppc.reserveReady = true := decide_eq_true hreserve
    have hfar' : paramN taken 11 < ((voltageOf taken (.bay b) : Int) - voltageOf taken .dc).natAbs := by
      cases b
      · exact hfar
      · exact hfar
    have harrived : effect (.sourceMonitorReading vdc va vb vres) s = arbitrate (enterBay b .standby attached) := by
      rw [show effect (.sourceMonitorReading vdc va vb vres) s = _ from afterSettle_open hs _, monitorReading_arrives (.inl hready) hdc he hv]
      exact dcArrived_attaches (s := taken) rfl hrail htransfer hwaiting hforced hdcSwitch hst hdischarge hother halarm
        (transferMethod_bridge hfar' hready')
    have hraised : (raise (.dcAttached vdc) taken).ppc = taken.ppc := by simp
    have hattached : attached.ppc = { taken.ppc with
        transfer := some ⟨some (.bay b), .dc, .bridge, .bridge, true, .dcAttach, 0⟩, waiting := none, bridgeTimer := some 0,
        bays := s.ppc.bays.set b { bayOf s b with discharge := false } } := by
      refine (bridgeStarted_ppc (s := raise (.dcAttached vdc) taken) .dc .dcAttach ?_ ?_ ?_ ?_).trans ?_
      · rw [hraised]; exact hrail
      · rw [hraised]; exact hdcSwitch
      · rw [bayOf_raise]; exact hdischarge
      · rw [bayOf_raise]; exact hother
      · rw [hraised, bayOf_raise]
        rfl
    have hlu : attached.lu = (raise (.dcAttached vdc) s).lu := by
      rw [← raise_lu_of (t := taken) (s := s) rfl rfl]
      simp [attached]
    have hkeeps : KeepsAllBut [.ppc, .lu, .delivered] s attached := by simp [keeps_iff, attached, taken, withReading]
    have hcc : attached.cc = s.cc := by simp [attached, taken, withReading]
    rw [harrived]
    clear_value attached
    have hmoved : KeepsAllBut [.ppc, .bbc, .cc, .delivered] attached (arbitrate (enterBay b .standby attached)) := by simp [keeps_iff]
    have hsame : bayOf attached b = { bayOf s b with discharge := false } := by simp [bayOf, hattached]
    have hkept : bayOf attached b.other = bayOf s b.other := by simp [bayOf, hattached]
    refine ⟨keeps_mono (keeps_trans hkeeps hmoved) (by decide), ?_, ?_, ?_, ?_, ?_, by simpa using hlu⟩
    · rw [(arbitrate_moved _).cc]
      simp [hcc]
    · simp [hattached, taken, withReading, hwaiting, hready, hreserve]
    · simp [enteredRecord_plain, hsame]
    · simp [hkept]
    · simp [bridging, anyFeeding_bay b, enteredRecord_plain, hsame, hkept, hattached, taken, withReading, hrail, hdcSwitch, hother]
  · intro lost
    let taken : State := withReading vdc va vb vres .absent s
    let out : State := dcOut taken
    have hgone : effect (.sourceMonitorReading vdc va vb vres) s =
        if s.ppc.dcSwitch then unplannedTransfer .dc .dcLoss out else selectSource (stopAllCharging out) := by
      have hnone : ¬ taken.ppc.transfer.map (fun t => t.target == .dc) = some true := by simp [taken, withReading, htransfer]
      rw [show effect (.sourceMonitorReading vdc va vb vres) s = _ from afterSettle_open hs _, monitorReading_goes hready hdc hn hv,
        show dcGone taken = _ from dcGone_eq hwaiting, if_neg hnone]
      rfl
    have hpath : out.ppc = { taken.ppc with bridgeTimer := timerWithoutDc taken, dcSwitch := false } := dcOut_ppc taken
    have hbay (b : Bay) : bayOf out b = bayOf s b := bayOf_dcOut taken b
    have hcharging (b : Bay) : (bayOf out b).state ≠ .charging := by rw [hbay]; exact (hbays b).2
    have hswitch : out.ppc.dcSwitch = false := by rw [hpath]
    have hfeeding : anyFeeding out = false := by simp [anyFeeding, hswitch, hbay, hbays]
    have hlu : out.lu = (raise (.dcDetached vdc) s).lu := (dcOut_lu taken).trans (raise_lu_of rfl rfl)
    have hkeeps : KeepsAllBut [.ppc, .bbc, .cc, .lu, .delivered] s out := by simp [keeps_iff, out, taken, withReading]
    have hcharger := dcOut_charger taken
    have hcharger := dcOut_charger taken
    have hwait : out.ppc.waiting = none := by rw [hpath]; exact hwaiting
    obtain ⟨hcc, hsession, hbbc, hlists⟩ := dcOut_charger taken
    rw [show dcOut taken = out from rfl] at hcc hsession hbbc hlists
    clear_value out
    have ended (u : State) (timer : Option Nat) (tr : Option Transfer) (lu : Lu) (hu : effect (.sourceMonitorReading vdc va vb vres) s = u)
        (hmoved : KeepsAllBut [.ppc, .lu] out u) (htimer : timerWithoutDc taken = timer)
        (hppc : u.ppc = { out.ppc with transfer := tr }) (hulu : u.lu = lu) : lost timer tr lu := by
      have hmovedcc : u.cc = out.cc := hmoved .cc (by decide)
      have hmovedbbc : u.bbc = out.bbc := hmoved .bbc (by decide)
      refine ⟨u, by rw [exec_effect (by simp), hu], keeps_mono (keeps_trans hkeeps hmoved) (by decide), ?_, ?_, ?_, ?_, ?_, hulu⟩
      · rw [hppc, hpath, htimer]
        rfl
      · rw [hmovedcc]; exact hcc
      · rw [hmovedcc]; exact hsession
      · rw [hmovedbbc]; exact hbbc
      · rw [hmovedbbc]; exact hlists
    have hwaitless : setWaiting none out = out := setWaiting_same hwait
    have hts : out.ts = s.ts := hkeeps .ts (by decide)
    have heligible (b : Bay) : eligible out b = eligible s b := eligible_congr (hbay b) hts
    have hcharge (b : Bay) : chargeOf out b = chargeOf s b := by simp only [chargeOf, hbay]
    have habsent : dcPresent out = false := by simp [dcPresent, hpath, taken, withReading]
    have hforced' : out.ppc.forced = none := by rw [hpath]; exact hforced
    have hdischarge (b : Bay) : (bayOf taken b).discharge = false := (hbays b).1
    have hbridged (hrail : s.ppc.railOn = true) (hswitched : s.ppc.dcSwitch = true) : timerWithoutDc taken = some 0 := by
      have hrail' : taken.ppc.railOn = true := hrail
      have hswitched' : taken.ppc.dcSwitch = true := hswitched
      simp [timerWithoutDc, hdischarge, hrail', bridging, anyFeeding, hswitched']
    refine ⟨fun hrail hswitched => ⟨fun b hb hlower => ?_, fun hnone => ?_⟩, fun hrail => ?_⟩
    · have hgap : gapTarget (setWaiting none out) = some (.bay b) := by
        rw [hwaitless]
        exact gapTarget_bay habsent (lowestBay_some (by rw [heligible, hb]) (by simpa only [heligible, hcharge] using hlower))
      have hrail' : out.ppc.railOn = true := by rw [hpath]; exact hrail
      rw [if_pos hswitched, unplannedTransfer_starts hcharging hfeeding hrail' hgap, hwaitless] at hgone
      refine ended _ _ _ _ hgone (by simp [keeps_iff, startGap_eq]) (hbridged hrail hswitched) ?_ hlu
      simp [startGap_eq, hwait]
    · have hgap : gapTarget (setWaiting none out) = none := by
        rw [hwaitless]
        exact gapTarget_none habsent fun b => by rw [heligible, hnone]
      have hrail' : out.ppc.railOn = true := by rw [hpath]; exact hrail
      rw [if_pos hswitched, unplannedTransfer_warns hcharging hfeeding hrail' hgap, hwaitless] at hgone
      refine ended _ _ _ _ hgone (by simp [keeps_iff]) (hbridged hrail hswitched) ?_ (raise_lu_of hlu (by simpa using hts))
      simp [hpath, taken, withReading, htransfer]
    · have hrail' : out.ppc.railOn = false := by rw [hpath]; exact hrail
      have hquiet : selectSource out = out := by rw [selectSource, select_idle (.inl hrail'), graceLeft_empty hforced']
      have hstays : effect (.sourceMonitorReading vdc va vb vres) s = out := by
        rw [hgone, stopAllCharging_idle hcharging, hquiet]
        split
        · rw [unplannedTransfer, stopAllCharging_idle hcharging, dropStaleWaiting_unfed (feedingBay_none hfeeding), hwaitless]
          simp [hrail', hquiet]
        · rfl
      have htimer : timerWithoutDc taken = none := by simp [timerWithoutDc, show taken.ppc.railOn = false from hrail]
      exact ended out _ _ _ hstays (keeps_refl _ _) htimer (by simp [hpath, taken, withReading, htransfer]) hlu

end Sys2Proof.Machine
end

section
/-! PROOFS. The release of a feeding bay: transferred by P11, refused, or forced; the end of a grace (section 2.6). -/

namespace Sys2Proof.Machine

/-! ### The alternative source (R36) -/

theorem alternative_dc {s : State} {b : Bay} (hdc : dcPresent s = true) (h : attachPending s = false) : alternative s b = some .dc := by
  simp [alternative, hdc, h]

theorem alternative_bay {s : State} {b : Bay} (hdc : dcPresent s = false) (hst : (bayOf s b.other).state = .standby)
    (halarm : alarmMark s b.other = false) (hlost : (bayOf s b.other).telemetryLost = false) (htel : (bayOf s b.other).telemetry.isSome)
    (hcharge : paramN s 14 ≤ chargeOf s b.other) : alternative s b = some (.bay b.other) := by
  have hclear : anyAlarm (bayOf s b.other).alarms = false := halarm
  simp [alternative, hdc, hst, hclear, hlost, htel, hcharge]

theorem alternative_none {s : State} {b : Bay} (hdc : dcPresent s = false)
    (h : (bayOf s b.other).state ≠ .standby ∧ (bayOf s b.other).state ≠ .charging ∨ alarmMark s b.other = true
      ∨ (bayOf s b.other).telemetryLost = true ∨ chargeOf s b.other < paramN s 14) : alternative s b = none := by
  have hnot : ((bayOf s b.other).state == .standby || (bayOf s b.other).state == .charging) = false ∨ anyAlarm (bayOf s b.other).alarms = true
      ∨ (bayOf s b.other).telemetryLost = true ∨ decide (paramN s 14 ≤ chargeOf s b.other) = false := by
    simpa [alarmMark] using h
  rcases hnot with h | h | h | h <;> simp [alternative, hdc, h]

/-! ### A release's transfer starts (R26, R27, R28, R36) -/

/-- The releasing bay's record, and the grace of the bay ended (R40). -/
def releaseBegun (b : Bay) (s : State) : State := enterBay b .releasing (clearForcedOf b s)

theorem releaseBegun_ppc (b : Bay) (s : State) : (releaseBegun b s).ppc = { s.ppc with
    forced := forcedWithout b s,
    bays := s.ppc.bays.set b { bayOf s b with state := .releasing, refusal := false, holdTimer := none, lapseTimer := none } } := by
  simp [releaseBegun, clearForcedOf_ppc, enteredRecord_plain, bayOf]

@[simp] theorem releaseBegun_frame (b : Bay) (s : State) :
    (releaseBegun b s).settling = s.settling ∧ (releaseBegun b s).icu = s.icu ∧ (releaseBegun b s).cc = s.cc
      ∧ (releaseBegun b s).bu = s.bu ∧ (releaseBegun b s).blc = s.blc ∧ (releaseBegun b s).shm = s.shm ∧ (releaseBegun b s).dl = s.dl
      ∧ (releaseBegun b s).ts = s.ts ∧ (releaseBegun b s).lu = s.lu ∧ (releaseBegun b s).freeIndex = s.freeIndex
      ∧ (releaseBegun b s).pending = s.pending := by simp [releaseBegun]

theorem bayOf_releaseBegun_same (b : Bay) (s : State) : bayOf (releaseBegun b s) b =
    { bayOf s b with state := .releasing, refusal := false, holdTimer := none, lapseTimer := none } := by simp [bayOf, releaseBegun_ppc]

theorem bayOf_releaseBegun_other (b : Bay) (s : State) : bayOf (releaseBegun b s) b.other = bayOf s b.other := by
  simp [bayOf, releaseBegun_ppc]

theorem seekRelease_starts {s : State} {b : Bay} {y : Source} {m : Method} (hy : alternative s b = some y)
    (hm : transferMethod s (.bay b) y = some m) :
    seekRelease b s = (startTransfer (.bay b) y m .release (releaseBegun b s), .started) := by
  simp [seekRelease, hy, hm, releaseBegun]

theorem seekRelease_none {s : State} {b : Bay} (h : alternative s b = none) : seekRelease b s = (s, .noAlternative) := by
  simp [seekRelease, h]

/-- A target that does not charge is not taken out of charging. -/
theorem clearTarget_idle {s : State} {y : Source} (h : ∀ b, y = .bay b → (bayOf s b).state ≠ .charging) : clearTarget y s = s := by
  rcases y with _ | b
  · rfl
  · exact stopCharging_idle (h b rfl)

/-- OVERLAP with DC as target: DC's switch closes. -/
theorem startTransfer_overlap_dc (b : Bay) (cause : Cause) (s : State) : (startTransfer (.bay b) .dc .overlap cause s).ppc = { s.ppc with
    transfer := some ⟨some (.bay b), .dc, .overlap, .overlap, true, cause, 0⟩, waiting := none, dcSwitch := true, bridgeTimer := none } :=
  setSwitch_close .dc _

/-- OVERLAP with the other bay as target: it feeds, SUPPLYING. -/
theorem startTransfer_overlap_bay {b x : Bay} {cause : Cause} {s : State} (hx : (bayOf s x).state ≠ .charging) :
    (startTransfer (.bay b) (.bay x) .overlap cause s).ppc = { s.ppc with
      transfer := some ⟨some (.bay b), .bay x, .overlap, .overlap, true, cause, 0⟩, waiting := none, bridgeTimer := none,
      bays := s.ppc.bays.set x { bayOf s x with state := .supplying, discharge := true, lapseTimer := none } } := by
  have hidle : stopCharging x s = s := stopCharging_idle hx
  simp only [startTransfer, clearTarget, hidle, feed, enterBay_ppc, setSwitch_close]
  simp [driveSwitch, setTransfer, setWaiting, enteredRecord_supplying, bayOf]

theorem startTransfer_overlap_keeps {x y : Source} {cause : Cause} {s : State} (hy : clearTarget y s = s) :
    KeepsAllBut [.ppc, .bbc, .delivered] s (startTransfer x y .overlap cause s) := by
  rcases y with _ | b
  · simp [keeps_iff, startTransfer, clearTarget, feed, setTransfer, setWaiting]
  · have hidle : stopCharging b s = s := hy
    simp [keeps_iff, startTransfer, clearTarget, hidle, feed, setTransfer, setWaiting]

/-! ### The request of a feeding bay (R36) -/

/-- Outside the hold and any transfer, a SUPPLYING bay's request starts the transfer that its alternative allows. -/
theorem releaseRequest_starts {s : State} {b : Bay} {y : Source} {m : Method} (hhold : s.ppc.hold = false) (htransfer : s.ppc.transfer = none)
    (hst : (bayOf s b).state = .supplying) (hy : alternative s b = some y) (hm : transferMethod s (.bay b) y = some m) :
    releaseRequest b s = (startTransfer (.bay b) y m .release (releaseBegun b s), .ok) := by
  simp [releaseRequest, hhold, isTransferTarget, isTransferSource, htransfer, hst, releaseSupplying, seekRelease_starts hy hm]

theorem releaseRequest_refused {s : State} {b : Bay} (hhold : s.ppc.hold = false) (htransfer : s.ppc.transfer = none)
    (hst : (bayOf s b).state = .supplying) (hy : alternative s b = none) :
    releaseRequest b s = (refuseRelease b .noAlternative s, .noAlternative) := by
  simp [releaseRequest, hhold, isTransferTarget, isTransferSource, htransfer, hst, releaseSupplying, seekRelease_none hy]

/-- The record of a SUPPLYING bay whose release is refused (R36, R39). -/
def refusedRecord (rel : Bool) (r : BayRecord) : BayRecord :=
  { r with refusal := true, holdTimer := if rel then some (r.holdTimer.getD 0) else none }

theorem refuseRelease_supplying {s : State} {b : Bay} (reason : RefusalReason) (hhold : s.ppc.hold = false)
    (hst : (bayOf s b).state = .supplying) :
    refuseRelease b reason s = updBay b (refusedRecord (filtered s (relOf b))) (raise (.releaseRefused b reason) s) := by
  simp [refuseRelease, hhold, hst]
  rfl

/-- A refusal that stands already has its hold timer. -/
theorem runHoldTimer_refused (b : Bay) (s : State) :
    runHoldTimer b (updBay b (refusedRecord (filtered s (relOf b))) s) = updBay b (refusedRecord (filtered s (relOf b))) s := by
  have hrel : filtered (updBay b (refusedRecord (filtered s (relOf b))) s) (relOf b) = filtered s (relOf b) := filtered_congr (by simp) _
  unfold runHoldTimer
  rw [hrel]
  split
  · rename_i hrefused
    have hasserted : filtered s (relOf b) = true := by simpa using (Bool.and_eq_true_iff.mp hrefused).2
    exact updBay_same (by simp [refusedRecord, hasserted])
  · rfl

/-! ### The transfer of a release, read off its record -/

/-- OVERLAP: what a release towards DC or a STANDBY bay leaves. -/
theorem release_overlap {b : Bay} {y : Source} {s : State}
    (hy : y = .dc ∨ y = .bay b.other ∧ (bayOf s b.other).state = .standby) :
    let u := startTransfer (.bay b) y .overlap .release (releaseBegun b s)
    KeepsAllBut [.ppc, .bbc, .delivered] s u
      ∧ u.ppc = { s.ppc with
          transfer := some ⟨some (.bay b), y, .overlap, .overlap, true, .release, 0⟩, waiting := none,
          dcSwitch := s.ppc.dcSwitch || y == .dc, bridgeTimer := none, bays := u.ppc.bays, forced := forcedWithout b s }
      ∧ bayOf u b = { bayOf s b with state := .releasing, refusal := false, holdTimer := none, lapseTimer := none }
      ∧ switchClosed u y = true
      ∧ (y = .dc → bayOf u b.other = bayOf s b.other)
      ∧ (y = .bay b.other → bayOf u b.other = { bayOf s b.other with state := .supplying, discharge := true, lapseTimer := none }) := by
  have hbegun : KeepsAllBut [.ppc, .bbc, .delivered] s (releaseBegun b s) := by simp [keeps_iff]
  rcases hy with rfl | ⟨rfl, hst⟩
  · have hppc := startTransfer_overlap_dc b .release (releaseBegun b s)
    rw [releaseBegun_ppc] at hppc
    refine ⟨keeps_mono (keeps_trans hbegun (startTransfer_overlap_keeps rfl)) (by decide), ?_, ?_, ?_, fun _ => ?_, fun h => absurd h (by simp)⟩
    · simp [hppc]
    · simp [bayOf, hppc]
    · simp [switchClosed, hppc]
    · simp [bayOf, hppc]
  · have hother : (bayOf (releaseBegun b s) b.other).state ≠ .charging := by simp [bayOf_releaseBegun_other, hst]
    have hppc := startTransfer_overlap_bay (b := b) (cause := .release) hother
    rw [bayOf_releaseBegun_other, releaseBegun_ppc] at hppc
    refine ⟨keeps_mono (keeps_trans hbegun (startTransfer_overlap_keeps (stopCharging_idle hother))) (by decide), ?_, ?_, ?_, fun h => absurd h (by simp), fun _ => ?_⟩
    · simp [hppc]
    · simp [bayOf, hppc]
    · simp [switchClosed, bayOf, hppc]
    · simp [bayOf, hppc]

/-- BRIDGE: what a release towards DC or a STANDBY bay leaves. -/
theorem release_bridge {b : Bay} {y : Source} {s : State} (hrail : s.ppc.railOn = true) (hdischarge : (bayOf s b).discharge = true)
    (hdcSwitch : s.ppc.dcSwitch = false) (hother : (bayOf s b.other).discharge = false)
    (hy : y = .dc ∨ y = .bay b.other ∧ (bayOf s b.other).state = .standby) :
    let u := startTransfer (.bay b) y .bridge .release (releaseBegun b s)
    KeepsAllBut [.ppc, .bbc, .delivered] s u
      ∧ u.ppc = { s.ppc with
          transfer := some ⟨some (.bay b), y, .bridge, .bridge, true, .release, 0⟩, waiting := none,
          bridgeTimer := some 0, bays := u.ppc.bays, forced := forcedWithout b s }
      ∧ bayOf u b = { bayOf s b with
          state := .releasing, refusal := false, holdTimer := none, lapseTimer := none, discharge := false }
      ∧ bridging u = true ∧ bayOf u b.other = bayOf s b.other := by
  have hsame := bayOf_releaseBegun_same b s
  have hkept := bayOf_releaseBegun_other b s
  have hclear : clearTarget y (releaseBegun b s) = releaseBegun b s := clearTarget_idle fun x hx => by
    rcases hy with rfl | ⟨rfl, hst⟩
    · exact absurd hx (by simp)
    · obtain rfl : b.other = x := by simpa using hx
      simp [hkept, hst]
  have hppc := bridgeStarted_ppc (b := b) (s := releaseBegun b s) y .release (by simp [releaseBegun_ppc, hrail])
    (by simp [releaseBegun_ppc, hdcSwitch]) (by simp [hsame, hdischarge]) (by simp [hkept, hother])
  rw [hsame, releaseBegun_ppc] at hppc
  have hstarted := startTransfer_bridge_releasing (cause := .release) hclear (by simp [hsame] : (bayOf (releaseBegun b s) b).state = .releasing)
  intro u
  have hu : u = bridgeStarted b y .release (releaseBegun b s) := hstarted
  rw [hu]
  have hsame' : bayOf (bridgeStarted b y .release (releaseBegun b s)) b = { bayOf s b with
      state := .releasing, refusal := false, holdTimer := none, lapseTimer := none, discharge := false } := by simp [bayOf, hppc]
  have hkept' : bayOf (bridgeStarted b y .release (releaseBegun b s)) b.other = bayOf s b.other := by simp [bayOf, hppc]
  refine ⟨by simp [keeps_iff], by simp [hppc], hsame', ?_, hkept'⟩
  simp [bridging, anyFeeding_bay b, hsame', hkept', hother, hppc, hrail, hdcSwitch]

/-! ### The test of a grace (R40) -/

theorem graceTest_starts {s : State} {f : ForcedRelease} {y : Source} {m : Method} (hforced : s.ppc.forced = some f)
    (hhold : s.ppc.hold = false) (htransfer : s.ppc.transfer = none) (hst : (bayOf s f.bay).state = .supplying)
    (hy : alternative s f.bay = some y) (hm : transferMethod s (.bay f.bay) y = some m) :
    graceTest s = startTransfer (.bay f.bay) y m .release (releaseBegun f.bay s) := by
  simp [graceTest, hforced, hhold, htransfer, hst, seekRelease_starts hy hm]

theorem graceTest_held {s : State} {f : ForcedRelease} (hforced : s.ppc.forced = some f) (hhold : s.ppc.hold = true)
    (hy : (alternative s f.bay).isSome) : graceTest s = setPending f.bay true (clearForced s) := by
  simp [graceTest, hforced, hhold, hy]

/-- The transfer in flight from the bay becomes its release. -/
theorem graceTest_turns {s : State} {f : ForcedRelease} {t : Transfer} (hforced : s.ppc.forced = some f) (hhold : s.ppc.hold = false)
    (htransfer : s.ppc.transfer = some t) (hsource : t.source = some (.bay f.bay)) (hst : (bayOf s f.bay).state = .supplying)
    (hy : (alternative s f.bay).isSome) : graceTest s =
      updPpc (fun p => { p with transfer := p.transfer.map fun t => { t with cause := .release } }) (releaseBegun f.bay s) := by
  have hkept : (bayOf (clearForcedOf f.bay s) f.bay).state ≠ .releasing := by
    have hbay : bayOf (clearForcedOf f.bay s) f.bay = bayOf s f.bay := by simp only [bayOf, clearForcedOf_ppc]
    simp [hbay, hst]
  have hturned : turnIntoRelease f.bay s =
      updPpc (fun p => { p with transfer := p.transfer.map fun t => { t with cause := .release } }) (releaseBegun f.bay s) := by
    simp only [turnIntoRelease, if_neg hkept]
    rfl
  have htests : (isTransferSource s f.bay && (bayOf s f.bay).state == .supplying && (alternative s f.bay).isSome) = true := by
    simp [isTransferSource, htransfer, hsource, hst, hy]
  simp only [graceTest, hforced, hhold, htransfer, Option.isSome_some, htests, Bool.false_eq_true, if_false, if_true, hturned]

/-- A clean block for a STANDBY bay without alarms is stored, and the other bay's grace is tested. -/
theorem pathTelemetry_grace {x : Bay} {tel : Telemetry} {s : State} {f : ForcedRelease} (hst : (bayOf s x).state = .standby)
    (halarm : alarmMark s x = false) (hclean : anyAlarm tel.alarms = false) (hforced : s.ppc.forced = some f) (hf : f.bay = x.other) :
    pathTelemetry x tel s = graceTest (updBay x (cleanRecord tel) s) := by
  have hstored : takeAlarms x tel s = updBay x (cleanRecord tel) s := by
    rw [takeAlarms_clean hclean, show anyAlarm (bayOf s x).alarms = false from halarm]
    simp
  have hcalls : callsSelection s (updBay x (cleanRecord tel) s) x tel = false := by simp [callsSelection, cleanRecord, hst]
  simp only [pathTelemetry, hst, hstored, hcalls, Bool.false_eq_true, if_false]
  simp [graceTestFor, hforced, hf]

theorem alternative_isSome_of_bay {s : State} {b : Bay} (hst : (bayOf s b.other).state = .standby)
    (halarm : alarmMark s b.other = false) (hlost : (bayOf s b.other).telemetryLost = false) (htel : (bayOf s b.other).telemetry.isSome)
    (hcharge : paramN s 14 ≤ chargeOf s b.other) : (alternative s b).isSome := by
  have hclear : anyAlarm (bayOf s b.other).alarms = false := halarm
  simp only [alternative]
  split
  · rfl
  · simp [hst, hclear, hlost, htel, hcharge]

/-- Settles O12. -/
theorem feedingReleaseTransfersOrIsForced : Obligations.FeedingReleaseTransfersOrIsForced := by
  refine ⟨fun b y s hhold htransfer hst hdischarge hrail hy => ?_, fun b s hhold htransfer hst hdc hother => ?_, fun b s => ?_,
    fun b e s he => ?_, fun b f tel s hforced hf hst hdischarge hrail hother halarm hlost hclean => ?_⟩
  · let asked : State := take (.ppcRelRising b) s
    have hasked : KeepsAllBut [.delivered] s asked := by simp [keeps_iff, asked]
    have halternative : alternative asked b = some y := by
      rcases hy with ⟨rfl, hdc, hattach⟩ | ⟨rfl, hdc, hother, halarm, hlost, htel, hcharge⟩
      · exact alternative_dc (s := asked) hdc hattach
      · exact alternative_bay (s := asked) hdc hother halarm hlost htel hcharge
    have htarget : y = .dc ∨ y = .bay b.other ∧ (bayOf asked b.other).state = .standby :=
      hy.imp And.left fun h => ⟨h.1, h.2.2.1⟩
    refine ⟨fun hnear => ⟨_, exec_effect (by simp) s, ?_⟩, fun hfar hready hdcSwitch hother => ⟨_, exec_effect (by simp) s, ?_⟩⟩
    · have hmethod : transferMethod asked (.bay b) y = some .overlap := transferMethod_overlap (s := asked) hnear
      obtain ⟨hkeeps, hppc, hbay, hfacts⟩ := release_overlap (b := b) (s := asked) htarget
      have hstarts : effect (.ppcRelRising b) s = startTransfer (.bay b) y .overlap .release (releaseBegun b asked) := by
        simp only [effect, relRose]
        rw [releaseRequest_starts (s := asked) hhold htransfer hst halternative hmethod]
        exact runHoldTimer_idle (by rw [hbay])
      rw [hstarts]
      exact ⟨keeps_mono (keeps_trans hasked hkeeps) (by decide), hppc, hbay, hfacts⟩
    · have hmethod : transferMethod asked (.bay b) y = some .bridge := transferMethod_bridge (s := asked) hfar hready
      obtain ⟨hkeeps, hppc, hbay, hfacts⟩ := release_bridge (b := b) (s := asked) hrail hdischarge hdcSwitch hother htarget
      have hstarts : effect (.ppcRelRising b) s = startTransfer (.bay b) y .bridge .release (releaseBegun b asked) := by
        simp only [effect, relRose]
        rw [releaseRequest_starts (s := asked) hhold htransfer hst halternative hmethod]
        exact runHoldTimer_idle (by rw [hbay])
      rw [hstarts]
      exact ⟨keeps_mono (keeps_trans hasked hkeeps) (by decide), hppc, hbay, hfacts⟩
  · intro refused
    let pressed : State := take (.ppcRelRising b) s
    have hrefused (t : State) (hrequest : releaseRequest b t = (refuseRelease b .noAlternative t, .noAlternative))
        (hrefuses : refuseRelease b .noAlternative t = refused t) : releaseRequest b t = (refused t, .noAlternative) := by
      rw [hrequest, hrefuses]
    refine ⟨?_, fun tag hlink => ?_⟩
    · have hrequest := hrefused pressed (releaseRequest_refused (s := pressed) hhold htransfer hst (alternative_none (s := pressed) hdc hother))
        (refuseRelease_supplying (s := pressed) .noAlternative hhold hst)
      rw [exec_effect (by simp)]
      simp only [effect, relRose]
      rw [show releaseRequest b (take (.ppcRelRising b) s) = _ from hrequest]
      have hruns := runHoldTimer_refused b (raise (.releaseRefused b .noAlternative) pressed)
      rw [filtered_raise] at hruns
      exact congrArg (fun u => Host.Outcome.next (finish u)) hruns
    · let asked : State := take (.bayRelease tag [if b = .A then 0 else 1]) s
      have hrequest := hrefused (acceptFrame asked)
        (releaseRequest_refused (s := acceptFrame asked) hhold htransfer hst (alternative_none (s := acceptFrame asked) hdc hother))
        (refuseRelease_supplying (s := acceptFrame asked) .noAlternative hhold hst)
      rw [exec_bayRelease hlink hrequest]
      have hcommutes : refused (acceptFrame asked) = acceptFrame (refused asked) := by
        simp only [refused, raise_acceptFrame]
        rfl
      rw [hcommutes]
      rfl
  · rw [exec_effect (by simp)]
    rfl
  · intro run
    refine ⟨fun hforced => ?_, fun hforced => ?_⟩
    · have hfills : effect (.releaseHoldTimerExpiry b) s = fillForced b run := by
        simp only [effect, holdExpired, he]
        exact if_pos (by simp [hforced])
      have hfilled := raise_change (.powerFailWarning (some b)) (s := run) (t := updPpc (fun p => { p with forced := some ⟨b, 0⟩ }) run) rfl rfl
      rw [exec_effect (by simp), hfills, fillForced, hfilled, raise_eq _ run]
      rfl
    · have hstays : effect (.releaseHoldTimerExpiry b) s = run := by
        simp only [effect, holdExpired, he]
        exact if_neg (by simp [Option.isSome_iff_ne_none.mp hforced])
      rw [exec_effect (by simp), hstays]
  · let taken : State := take (.ppcTelemetry b.other tel) s
    let stored : State := updBay b.other (cleanRecord tel) taken
    have htested : effect (.ppcTelemetry b.other tel) s = graceTest stored :=
      pathTelemetry_grace (s := taken) hother halarm hclean hforced (by simpa using hf)
    have hppc : stored.ppc = { s.ppc with bays := s.ppc.bays.set b.other (cleanRecord tel (bayOf s b.other)) } := rfl
    have hsame : bayOf stored b = bayOf s b := by
      simpa [stored, taken, -bayOf_updBay_other] using bayOf_updBay_other b.other (cleanRecord tel) taken
    have hrecord : bayOf stored b.other = cleanRecord tel (bayOf s b.other) := by simp [stored, taken]
    have hts : stored.ts = s.ts := rfl
    have hkeeps : KeepsAllBut [.ppc, .delivered] s stored := by simp [keeps_iff, stored, taken]
    have hdelivered : stored.delivered = s.delivered.erase (.ppcTelemetry b.other tel) := by simp [stored, taken]
    have hst' : (bayOf stored b.other).state = .standby := by simp [hrecord, cleanRecord, hother]
    have halarm' : alarmMark stored b.other = false := by
      rw [alarmMark, hrecord]
      exact Bool.eq_false_iff.mpr fun h => absurd (anyAlarm_cleanRecord h) (Bool.eq_false_iff.mp halarm)
    have hlost' : (bayOf stored b.other).telemetryLost = false := by simp [hrecord, cleanRecord, hlost]
    have htel' : (bayOf stored b.other).telemetry = some tel := by simp [hrecord, cleanRecord]
    have hcharge' : chargeOf stored b.other = tel.charge := by simp [chargeOf, htel']
    have hwithout : forcedWithout b stored = none := by simp [forcedWithout, hppc, hforced, hf]
    subst hf
    clear_value stored
    refine ⟨fun hhold htransfer hdc hcharge hnear => ?_, fun hhold hcase => ?_, fun tr hhold htransfer hsource hdc hattach => ?_⟩
    · have halternative : alternative stored f.bay = some (.bay f.bay.other) :=
        alternative_bay (by simpa [dcPresent, hppc] using hdc) hst' halarm' hlost' (by simp [htel']) (by rw [hcharge', paramN_congr hts]; exact hcharge)
      have hmethod : transferMethod stored (.bay f.bay) (.bay f.bay.other) = some .overlap := by
        refine transferMethod_overlap ?_
        rw [paramN_congr hts]
        refine le_of_eq_of_le ?_ hnear
        cases f.bay <;> simp [voltageOf, hppc, Bay.other]
      obtain ⟨hoverlap, hpath, hbay, -, -, hfed⟩ := release_overlap (b := f.bay) (s := stored) (.inr ⟨rfl, hst'⟩)
      refine ⟨_, exec_effect (by simp) s, ?_⟩
      rw [htested, graceTest_starts (by simp [hppc, hforced]) (by simp [hppc, hhold]) (by simp [hppc, htransfer]) (by rw [hsame, hst]) halternative hmethod]
      refine ⟨keeps_mono (keeps_trans hkeeps hoverlap) (by decide), ?_, ?_, ?_, ?_, ?_⟩
      · refine hpath.trans ?_
        simp [hppc, hwithout]
      · rw [hbay, hsame]
      · rw [hfed rfl]
      · rw [hfed rfl]
      · rw [hfed rfl, ← htel']
    · have halternative : (alternative stored f.bay).isSome := by
        rcases hcase with ⟨hdc, hattach⟩ | hcharge
        · rw [alternative_dc (by simpa [dcPresent, hppc] using hdc) (by simpa [attachPending, hppc] using hattach)]
          rfl
        · exact alternative_isSome_of_bay hst' halarm' hlost' (by simp [htel']) (by rw [hcharge', paramN_congr hts]; exact hcharge)
      refine ⟨_, exec_effect (by simp) s, ?_⟩
      rw [htested, graceTest_held (by simp [hppc, hforced]) (by simp [hppc, hhold]) halternative]
      have hcleared (x : Bay) : bayOf (clearForced stored) x = bayOf stored x := by simp only [bayOf, clearForced_ppc]
      refine ⟨keeps_mono (keeps_trans hkeeps (?_ : KeepsAllBut [.ppc, .delivered] stored _)) (by decide), ?_, ?_, ?_, ?_⟩
      · simp [keeps_iff]
      · simp [setPending, clearForced_ppc, hppc]
      · rw [bayOf_setPending_same, hcleared, hsame]
      · rw [bayOf_setPending_other, hcleared, hst']
      · simp [clearForced, tellBudgetIf_eq, hppc, hforced, hdelivered]
    · have halternative : (alternative stored f.bay).isSome := by
        rw [alternative_dc (by simpa [dcPresent, hppc] using hdc) (by simpa [attachPending, hppc] using hattach)]
        rfl
      refine ⟨_, exec_effect (by simp) s, ?_⟩
      rw [htested, graceTest_turns (by simp [hppc, hforced]) (by simp [hppc, hhold]) (by simp [hppc, htransfer]) hsource (by rw [hsame, hst]) halternative]
      refine ⟨keeps_mono (keeps_trans hkeeps (?_ : KeepsAllBut [.ppc, .bbc, .delivered] stored _)) (by decide), ?_, ?_, ?_⟩
      · simp [keeps_iff]
      · simp [releaseBegun_ppc, hppc, htransfer, hwithout]
      · exact (bayOf_releaseBegun_same f.bay stored).trans (by rw [hsame])
      · exact (congrArg BayRecord.state (bayOf_releaseBegun_other f.bay stored)).trans hst'

end Sys2Proof.Machine
end

section
/-! PROOFS. How a transfer ends, and how it loses its target or its source (section 2.5). -/

namespace Sys2Proof.Machine

/-! ### Selection that finds the load well fed (R23) -/

theorem select_onDc {s : State} (htransfer : s.ppc.transfer = none) (hwaiting : s.ppc.waiting = none) (hdc : dcPresent s = true)
    (hdcSwitch : s.ppc.dcSwitch = true) : select s = s := by
  cases hrail : s.ppc.railOn
  · exact select_idle (.inl hrail)
  · rw [select_chooses hrail htransfer hwaiting]
    simp [chooseSource, hdc, attachPending_eq_false hwaiting, hdcSwitch]

/-- Without DC, a feeding bay above P41 and without an alarm keeps the load. -/
theorem select_onBay {s : State} {b : Bay} (htransfer : s.ppc.transfer = none) (hwaiting : s.ppc.waiting = none) (hdc : dcPresent s = false)
    (hb : (bayOf s b).discharge = true) (ho : (bayOf s b.other).discharge = false) (halarm : alarmMark s b = false)
    (hcharge : paramN s 41 < chargeOf s b) : select s = s := by
  cases hrail : s.ppc.railOn
  · exact select_idle (.inl hrail)
  · have hkeeps : giveUpLoad b s = s := by
      have hlow : ((bayOf s b).telemetry.isSome && decide (chargeOf s b ≤ paramN s 41)) = false := by simp [Nat.not_le.mpr hcharge]
      simp [giveUpLoad, hlow, halarm, raiseIf]
    rw [select_chooses hrail htransfer hwaiting]
    simp [chooseSource, hdc, feedingBay_some hb ho, hkeeps]

/-! ### The end of a transfer (R26) -/

/-- With no grace and no pending mark, and a load that selection leaves, TRANSFER_DONE is raised and arbitration follows. -/
theorem endTransfer_settled {s : State} {t : Transfer} {completed : Bool} (htransfer : s.ppc.transfer = some t) (hforced : s.ppc.forced = none)
    (hpending : ∀ b, (bayOf s b).pendingRelease = false)
    (hselect : ∀ r : State, r.ppc = { s.ppc with transfer := none } → r.ts = s.ts → select r = r) : endTransfer completed s =
    arbitrate (raise (.transferDone t.source t.target t.method t.cause completed) (setTransfer none s)) := by
  let ended : State := arbitrate (raise (.transferDone t.source t.target t.method t.cause completed) (setTransfer none s))
  have hppc : ended.ppc = { s.ppc with transfer := none } := by simp [ended, setTransfer]
  have hforced' : ended.ppc.forced = none := by rw [hppc]; exact hforced
  have hselected : selectSource ended = ended := by
    rw [selectSource, hselect ended hppc (by simp [ended]), graceLeft_empty hforced']
  have hevaluated : evaluatePendings ended = ended := evaluatePendings_none fun b => by rw [hppc]; exact hpending b
  simp only [endTransfer, htransfer]
  rw [show selectSource (arbitrate (raise (.transferDone t.source t.target t.method t.cause completed) (setTransfer none s))) = _ from hselected,
    hevaluated, ite_self, graceTest_empty hforced']

/-- What the end of a transfer leaves, of the parts that it can move. -/
theorem endTransfer_parts (n : Notice) (s : State) : (arbitrate (raise n (setTransfer none s))).ppc = { s.ppc with transfer := none }
    ∧ (arbitrate (raise n (setTransfer none s))).cc = { s.cc with session := (arbitrate (raise n (setTransfer none s))).cc.session }
    ∧ KeepsAllBut [.ppc, .bbc, .cc, .lu] s (arbitrate (raise n (setTransfer none s)))
    ∧ (arbitrate (raise n (setTransfer none s))).lu = (raise n s).lu := by
  refine ⟨by simp [setTransfer], ?_, by simp [keeps_iff, setTransfer], ?_⟩
  · rw [(arbitrate_moved _).cc]
    simp [setTransfer]
  · simpa using raise_lu_of (by simp [setTransfer]) (by simp [setTransfer])

/-- The pending marks once one bay's record has changed to one without a mark. -/
theorem pendingRelease_set {b : Bay} {s t : State} {r : BayRecord} (hbays : t.ppc.bays = s.ppc.bays.set b r) (hr : r.pendingRelease = false)
    (ho : (bayOf s b.other).pendingRelease = false) (x : Bay) : (bayOf t x).pendingRelease = false := by
  rcases bay_cases b x with rfl | rfl
  · simpa [bayOf, hbays] using hr
  · simpa [bayOf, hbays] using ho

/-- The source of an OVERLAP towards DC is set to rest and the transfer completes (R27). -/
theorem completeOverlap_rests {b : Bay} {t : Transfer} {s : State} (hsource : t.source = some (.bay b)) (hst : (bayOf s b).state = .supplying) :
    completeOverlap t s = endTransfer true (enterBay b (restState s b) (setSwitch (.bay b) false s)) := by
  have hrest : restState (setSwitch (.bay b) false s) b = restState s b := by
    simp only [restState, alarmMark, bayOf_setSwitch_same]
    rfl
  simp [completeOverlap, hsource, openSource, sourceEnds, hst, hrest]

theorem restState_plain (s : State) (b : Bay) : restState s b ≠ .empty ∧ restState s b ≠ .supplying ∧ restState s b ≠ .released := by
  unfold restState
  split <;> simp

/-- A transfer that ends with DC feeding, one bay's record having changed. -/
theorem endTransfer_onDc {b : Bay} {r : BayRecord} {t : Transfer} {s v : State} (htransfer : s.ppc.transfer = some t)
    (hwaiting : s.ppc.waiting = none) (hforced : s.ppc.forced = none) (hdc : dcPresent s = true)
    (hv : v.ppc = { s.ppc with dcSwitch := true, bridgeTimer := none, bays := s.ppc.bays.set b r })
    (hkeeps : KeepsAllBut [.ppc, .bbc, .cc, .lu, .delivered] s v) (hr : r.pendingRelease = false)
    (ho : (bayOf s b.other).pendingRelease = false) :
    KeepsAllBut [.ppc, .bbc, .cc, .lu, .delivered] s (endTransfer true v)
      ∧ (endTransfer true v).cc = { v.cc with session := (endTransfer true v).cc.session }
      ∧ (endTransfer true v).ppc =
          { s.ppc with transfer := none, dcSwitch := true, bridgeTimer := none, bays := s.ppc.bays.set b r }
      ∧ bridging (endTransfer true v) = false ∧ bayOf (endTransfer true v) b = r ∧ bayOf (endTransfer true v) b.other = bayOf s b.other
      ∧ (endTransfer true v).lu = (raise (.transferDone t.source t.target t.method t.cause true) v).lu := by
  have hsettled := endTransfer_settled (s := v) (completed := true) (by rw [hv]; exact htransfer) (by rw [hv]; exact hforced)
    (pendingRelease_set (s := s) (by rw [hv]) hr ho)
    fun u hu _ => select_onDc (by rw [hu]) (by rw [hu, hv]; exact hwaiting) (by simpa only [dcPresent, hu, hv] using hdc) (by rw [hu, hv])
  obtain ⟨hppc, hcc, hmoved, hlu⟩ := endTransfer_parts (.transferDone t.source t.target t.method t.cause true) v
  rw [← hsettled] at hppc hcc hmoved hlu
  rw [hv] at hppc
  refine ⟨keeps_mono (keeps_trans hkeeps hmoved) (by decide), hcc, hppc, ?_, ?_, ?_, hlu⟩
  · simp [bridging, anyFeeding, hppc]
  · simp [bayOf, hppc]
  · simp [bayOf, hppc]

/-! ### A transfer loses its target or its source (R32, R33) -/

/-- In a BRIDGE with the load unfed, the transfer becomes unplanned towards the target of R23. -/
theorem targetLost_bridge {cause : Cause} {t : Transfer} {y : Source} {s : State} (htransfer : s.ppc.transfer = some t)
    (hphase : t.phase = .bridge) (hcharging : ∀ b, (bayOf s b).state ≠ .charging) (hwaiting : s.ppc.waiting = none)
    (hfeeding : anyFeeding s = false) (hy : gapTarget s = some y ∨ gapTarget s = none ∧ ∃ b, sourceAgain t s = some b ∧ y = .bay b) :
    targetLost cause s = retarget t y cause s := by
  have hkept : dropStaleWaiting (stopAllCharging s) = s := by
    rw [stopAllCharging_idle hcharging, dropStaleWaiting_unfed (feedingBay_none hfeeding), setWaiting_same hwaiting]
  simp only [targetLost, htransfer, hphase, hkept]
  rcases hy with hgap | ⟨hgap, b, hagain, rfl⟩
  · simp [hgap]
  · simp [hgap, hagain]

theorem retarget_eq (t : Transfer) (y : Source) (cause : Cause) (s : State) : retarget t y cause s = { s with ppc := { s.ppc with
    transfer := some ⟨if t.source = some y then none else t.source, y, .bridge, .bridge, false, cause, 0⟩, waiting := none } } := rfl

/-- The source of an OVERLAP is removed: the transfer completes. -/
theorem forcedRemoval_source {b : Bay} {t : Transfer} {s : State} (htransfer : s.ppc.transfer = some t) (hsource : t.source = some (.bay b))
    (htarget : t.target = .dc) (hphase : t.phase = .overlap) (hsession : sessionActive s b = false) :
    forcedRemoval b s = endTransfer true (packRemoved b s) := by
  have hgone : (packRemoved b s).ppc.transfer = some t := by rw [packRemoved_ppc]; exact htransfer
  simp only [forcedRemoval_eq, sessionStopped_packRemoved hsession, hgone]
  simp [isTransferTarget, isTransferSource, htransfer, hsource, htarget, hphase]

theorem forcedRemoval_target {b : Bay} {s : State} (htarget : isTransferTarget s b = true) (hsession : sessionActive s b = false) :
    forcedRemoval b s = targetLost .removal (packRemoved b s) := by
  simp [forcedRemoval_eq, sessionStopped_packRemoved hsession, htarget]

/-- DC's second low reading takes a transfer towards DC its target. -/
theorem reading_loses_target {vdc va vb vres : Nat} {t : Transfer} {s : State} (hs : s.settling = none) (hdc : s.ppc.dc = .present 1)
    (hv : vdc < paramN s 39) (hready : s.ppc.reserveReady = true ∨ vres < paramN s 12) (hcharging : ∀ b, (bayOf s b).state ≠ .charging)
    (hwaiting : s.ppc.waiting = none) (htransfer : s.ppc.transfer = some t) (htarget : t.target = .dc) :
    effect (.sourceMonitorReading vdc va vb vres) s = targetLost .dcLoss (dcOut (withReading vdc va vb vres .absent s)) := by
  let taken : State := withReading vdc va vb vres .absent s
  have htargets : taken.ppc.transfer.map (fun t => t.target == .dc) = some true := by simp [taken, withReading, htransfer, htarget]
  have hidle : stopAllCharging (dcOut taken) = dcOut taken := stopAllCharging_idle fun b => by
    have hbay : bayOf (dcOut taken) b = bayOf s b := bayOf_dcOut taken b
    rw [show (dcOut taken).ppc.bays.get b = bayOf s b from hbay]
    exact hcharging b
  rw [show effect (.sourceMonitorReading vdc va vb vres) s = _ from afterSettle_open hs _, monitorReading_goes hready hdc (Nat.le_refl 1) hv,
    show dcGone taken = _ from dcGone_eq hwaiting, if_pos htargets, hidle]

/-- An OVERLAP whose target is lost is not completed; a release's source seeks again. -/
theorem targetLost_overlap {cause : Cause} {t : Transfer} {s : State} (htransfer : s.ppc.transfer = some t) (hphase : t.phase = .overlap)
    (hcause : t.cause ≠ .release) : targetLost cause s = endTransfer false s := by
  simp only [targetLost, htransfer, hphase]
  split
  · rename_i h _
    exact absurd h hcause
  · rfl

theorem targetLost_release {cause : Cause} {t : Transfer} {b : Bay} {s : State} (htransfer : s.ppc.transfer = some t) (hphase : t.phase = .overlap)
    (hcause : t.cause = .release) (hsource : t.source = some (.bay b)) : targetLost cause s = releaseAgain b (endTransfer false s) := by
  simp only [targetLost, htransfer, hphase, hcause, hsource]

/-- A release that finds no alternative any more is refused late, its bay SUPPLYING again. -/
theorem releaseAgain_refused {b : Bay} {s : State} (hhold : s.ppc.hold = false) (htransfer : s.ppc.transfer = none) (h : alternative s b = none) :
    releaseAgain b s = updBay b (refusedRecord (filtered s (relOf b))) (raise (.releaseRefused b .sourceLost) (enterBay b .supplying s)) := by
  have hnot : isTransferSource s b = false := by simp [isTransferSource, htransfer]
  simp only [releaseAgain, hhold, hnot, seekRelease_none h, Bool.false_eq_true, if_false]
  rw [refuseRelease_supplying .sourceLost (by simpa using hhold) (by simp [enteredRecord_supplying]), filtered_enterBay]

/-- Settles O14. -/
theorem transfersEndOrLoseAnEnd : Obligations.TransfersEndOrLoseAnEnd := by
  unfold Obligations.TransfersEndOrLoseAnEnd
  intro still lowReading read
  refine ⟨fun b m c e s htransfer hrail hdcSwitch hdc hst hdischarge hother hstill hA hB => ⟨_, exec_effect (by simp) s, ?_⟩,
    fun b m e s htransfer hrail hdcSwitch hdc hst hdischarge hother hstill hhold hA hB => ⟨_, exec_effect (by simp) s, ?_⟩,
    fun b m c e vdc va vb vres s hlow hstill htransfer hrail hdischarge hother halarm hcharge hA hB => ?_,
    fun b t s htransfer hphase htarget hstill hst hcharge hocharging hrail hfeeding hdc hsession => ⟨_, exec_effect (by simp) s, ?_⟩,
    fun b t vdc va vb vres s hlow hstill htransfer hphase htarget hsource hst hrail hfeeding hnone => ⟨_, exec_effect (by simp) s, ?_⟩,
    fun b m c e s htransfer hstill hst hcharge hrail hdcSwitch hdc hother hopending hsession => ⟨_, exec_effect (by simp) s, ?_⟩⟩
  · obtain ⟨hwaiting, hforced⟩ := hstill
    obtain ⟨hrestE, hrestS, hrestR⟩ := restState_plain s b
    let rested : State := enterBay b (restState s b) (setSwitch (.bay b) false s)
    have heffect : effect .overlapComplete s = endTransfer true rested := by
      simp only [effect, overlapEnds, htransfer]
      exact completeOverlap_rests rfl hst
    have hpending (x : Bay) : (bayOf s x).pendingRelease = false := by cases x <;> assumption
    have hppc : rested.ppc = { s.ppc with dcSwitch := true, bridgeTimer := none, bays := s.ppc.bays.set b { bayOf s b with
        state := restState s b, discharge := false, refusal := false, holdTimer := none, lapseTimer := none } } := by
      simp [rested, setSwitch_open_bay, timerWithout, hdcSwitch, enteredRecord_plain hrestE hrestS hrestR]
    have hkeeps : KeepsAllBut [.ppc, .bbc, .delivered] s rested := by simp [keeps_iff, rested, hrestE]
    have hcc : rested.cc = s.cc := hkeeps .cc (by decide)
    rw [heffect]
    clear_value rested
    obtain ⟨hmoved, hucc, hupath, hbridging, hsame, hkept, hlu⟩ :=
      endTransfer_onDc htransfer hwaiting hforced hdc hppc (keeps_mono hkeeps (by decide)) (hpending b) (hpending b.other)
    refine ⟨hmoved, by rw [hucc, hcc], ?_, hbridging, hsame, hkept, hlu.trans (raise_lu_of (hkeeps .lu (by decide)) (hkeeps .ts (by decide)))⟩
    rw [hupath, ← hdcSwitch]
  · obtain ⟨hwaiting, hforced⟩ := hstill
    let released : State := raise (.releaseGranted b) (enterBay b .released (setSwitch .dc true s))
    have heffect : effect .bridgeTargetClose s = endTransfer true released := by
      simp [effect, bridgeCloses, htransfer, completeBridge, takesBack, feed, sourceEnds, hst, goReleased, setSwitch_close, driveSwitch, hhold,
        released]
    have hpending (x : Bay) : (bayOf s x).pendingRelease = false := by cases x <;> assumption
    have hppc : released.ppc = { s.ppc with dcSwitch := true, bridgeTimer := none, bays := s.ppc.bays.set b { bayOf s b with
        state := .released, refusal := false, holdTimer := none, lapseTimer := some 0 } } := by
      simp [released, setSwitch_close, driveSwitch, enteredRecord_released, bayOf]
    have hkeeps : KeepsAllBut [.ppc, .bbc, .lu, .delivered] s released := by simp [keeps_iff, released]
    have hcc : released.cc = s.cc := hkeeps .cc (by decide)
    have hts : released.ts = s.ts := hkeeps .ts (by decide)
    have hgranted : released.lu = (raise (.releaseGranted b) s).lu := raise_lu_of (by simp) (by simp)
    rw [heffect]
    clear_value released
    obtain ⟨hmoved, hucc, hupath, hbridging, hsame, hkept, hlu⟩ :=
      endTransfer_onDc htransfer hwaiting hforced hdc hppc (keeps_mono hkeeps (by decide)) (hpending b) (hpending b.other)
    exact ⟨hmoved, by rw [hucc, hcc], by rw [hupath], hbridging, hkept, hsame,
      hlu.trans (raise_lu_of hgranted (by simpa using hts))⟩
  · obtain ⟨hwaiting, hforced⟩ := hstill
    obtain ⟨hs, hdc, hv, hready, hcharging⟩ := hlow
    intro aborted ends
    let taken : State := withReading vdc va vb vres .absent s
    let out : State := dcOut taken
    have hlost : effect (.sourceMonitorReading vdc va vb vres) s = targetLost .dcLoss out :=
      reading_loses_target hs hdc hv hready hcharging hwaiting htransfer rfl
    have hpath : out.ppc = { read vdc va vb vres s with bridgeTimer := none } := by
      have htimer : timerWithoutDc taken = none := by
        have hfed : ¬ ((bayOf taken .A).discharge = false ∧ (bayOf taken .B).discharge = false) := fun ⟨hA, hB⟩ => by
          cases b
          · exact absurd hdischarge (by rw [show bayOf s .A = bayOf taken .A from rfl, hA]; simp)
          · exact absurd hdischarge (by rw [show bayOf s .B = bayOf taken .B from rfl, hB]; simp)
        exact if_neg fun h => hfed h.2
      rw [show out.ppc = _ from dcOut_ppc taken, htimer]
      rfl
    have hbay (x : Bay) : bayOf out x = bayOf s x := bayOf_dcOut taken x
    have hkeeps : KeepsAllBut [.ppc, .bbc, .cc, .lu, .delivered] s out := by simp [keeps_iff, out, taken, withReading]
    have hts : out.ts = s.ts := hkeeps .ts (by decide)
    have hicu : out.icu = s.icu := hkeeps .icu (by decide)
    have hlu : out.lu = (raise (.dcDetached vdc) s).lu := (dcOut_lu taken).trans (raise_lu_of rfl rfl)
    have hcc : out.cc = { s.cc with session := out.cc.session, fault := false, failedLists := 0 } := (dcOut_charger taken).1
    clear_value out
    let ended : State := endTransfer false out
    have hsettled : ended = arbitrate (raise (.transferDone (some (.bay b)) .dc m c false) (setTransfer none out)) := by
      refine endTransfer_settled (s := out) (by rw [hpath]; exact htransfer) (by rw [hpath]; exact hforced)
        (fun x => by rw [hbay]; cases x <;> assumption) fun r hr hrts => ?_
      have hrbay (x : Bay) : bayOf r x = bayOf s x := by
        rw [← hbay]
        simp only [bayOf, hr]
      exact select_onBay (by rw [hr]) (by rw [hr, hpath]; exact hwaiting) (by simp [dcPresent, hr, hpath, read]) (by rw [hrbay]; exact hdischarge)
        (by rw [hrbay]; exact hother) (by simpa only [alarmMark, hrbay] using halarm)
        (by simpa only [chargeOf, hrbay, paramN_congr (hrts.trans hts)] using hcharge)
    obtain ⟨heppc, hecc, hekeeps, helu⟩ := endTransfer_parts (.transferDone (some (.bay b)) .dc m c false) out
    rw [← hsettled] at heppc hecc hekeeps helu
    rw [hpath] at heppc
    have hekeeps' : KeepsAllBut [.ppc, .bbc, .cc, .lu, .delivered] s ended := keeps_mono (keeps_trans hkeeps hekeeps) (by decide)
    have hecc' : ended.cc = { s.cc with session := ended.cc.session, fault := false, failedLists := 0 } := by rw [hecc, hcc]
    have helu' : ended.lu = aborted.lu := helu.trans (raise_lu_of hlu (by simpa using hts))
    have hebay (x : Bay) : bayOf ended x = bayOf s x := by
      simp only [bayOf, heppc]
      rfl
    have haborts (h : c ≠ .release) : effect (.sourceMonitorReading vdc va vb vres) s = ended := by
      rw [hlost, targetLost_overlap (by rw [hpath]; exact htransfer) rfl h]
    have hseeks (h : c = .release) : effect (.sourceMonitorReading vdc va vb vres) s = releaseAgain b ended := by
      rw [hlost, targetLost_release (by rw [hpath]; exact htransfer) rfl h rfl]
    clear_value ended
    refine ⟨fun hcause hst => ⟨ended, ?_, hekeeps', hecc', ?_, helu'⟩, fun hcause hst hhold hnone => ?_⟩
    · rw [exec_effect (by simp), haborts hcause]
    · have hbays : s.ppc.bays.set b (bayOf s b) = s.ppc.bays := set_get _ _
      rw [heppc, hbays]
    · have hends : effect (.sourceMonitorReading vdc va vb vres) s = updBay b (refusedRecord (filtered ended (relOf b)))
          (raise (.releaseRefused b .sourceLost) (enterBay b .supplying ended)) := by
        rw [hseeks hcause]
        refine releaseAgain_refused (by rw [heppc]; exact hhold) (by rw [heppc]) (alternative_none (by simp [dcPresent, heppc, read]) ?_)
        simpa only [alarmMark, chargeOf, hebay, paramN_congr (hekeeps' .ts (by decide))] using hnone
      have hrel : filtered ended (relOf b) = filtered s (relOf b) := filtered_congr (hekeeps' .icu (by decide)) _
      rw [hrel] at hends
      refine ⟨_, (exec_effect (by simp) s).trans (by rw [hends]), ?_, ?_, ?_, ?_⟩
      · refine keeps_mono (keeps_trans hekeeps' (?_ : KeepsAllBut [.ppc, .bbc, .lu, .delivered] ended _)) (by decide)
        simp [keeps_iff]
      · have hucc : (updBay b (refusedRecord (filtered s (relOf b))) (raise (.releaseRefused b .sourceLost) (enterBay b .supplying ended))).cc
            = ended.cc := by simp
        rw [hucc]
        exact hecc'
      · simp [heppc, enteredRecord_supplying, refusedRecord, read, bayOf]
      · have hstood : ended.ts = s.ts := hekeeps' .ts (by decide)
        have hets : ended.ts = aborted.ts := by simp [aborted, hstood]
        exact raise_lu_of (by simpa using helu') (by simpa using hets)
  · obtain ⟨hwaiting, hforced⟩ := hstill
    have htargeted : isTransferTarget s b = true := by simp [isTransferTarget, htransfer, htarget]
    have hbridging : bridging s = true := by simp [bridging, hrail, hfeeding]
    obtain ⟨⟨hdcSwitch, hdischarge⟩, hother⟩ : (s.ppc.dcSwitch = false ∧ (bayOf s b).discharge = false) ∧ (bayOf s b.other).discharge = false := by
      simpa [anyFeeding_bay b] using hfeeding
    let pulled : State := take (.ppcPresFalling b) s
    have hremoved : ∃ gone : State, effect (.ppcPresFalling b) s = targetLost .removal gone
        ∧ KeepsAllBut [.ppc, .bbc, .cc, .lu, .delivered] s gone
        ∧ gone.ppc = { s.ppc with bays := s.ppc.bays.set b (bayOf State.reset b) }
        ∧ gone.lu = (raise (if (bayOf s b).state = .standby then .forcedRemoval b .standby else .bayRemoved b) s).lu := by
      rcases hst with hstandby | ⟨r, hfaulted⟩
      · refine ⟨packRemoved b pulled, ?_, by simp [keeps_iff, pulled], ?_, ?_⟩
        · rw [← forcedRemoval_target (s := pulled) htargeted hsession]
          simp [effect, presFell, hstandby, pulled]
        · rw [show (packRemoved b pulled).ppc = _ from packRemoved_ppc b pulled, bayAtReset_eq]
          have htimer : timerWithout b pulled = s.ppc.bridgeTimer :=
            (if_pos ⟨hrail, hdcSwitch, hother⟩).trans (if_pos hbridging)
          have hnone : forcedWithout b pulled = s.ppc.forced := (forcedWithout_none (s := pulled) hforced).trans hforced.symm
          rw [htimer, hnone]
          rfl
        · rw [show (packRemoved b pulled).lu = _ from packRemoved_lu b pulled, if_pos hstandby, bayOf_take, hstandby]
          exact raise_lu_of rfl rfl
      · refine ⟨raise (.bayRemoved b) (enterBay b .empty pulled), ?_, by simp [keeps_iff, pulled], ?_, ?_⟩
        · have htargeted' : isTransferTarget pulled b = true := htargeted
          simp only [effect, presFell, bayOf_take, hfaulted, plainRemoval]
          exact if_pos htargeted'
        · have hempty : enteredRecord .empty (bayOf s b) = bayOf State.reset b := by
            rw [enteredRecord_empty hdischarge hcharge, bayAtReset_eq]
          have hbay : s.ppc.bays.get b = bayOf s b := rfl
          simp [pulled, hbay, hempty]
        · rw [if_neg (by simp [hfaulted])]
          exact raise_lu_of (by simp [pulled]) (by simp [pulled])
    obtain ⟨gone, heffect, hkeeps, hppc, hlu⟩ := hremoved
    have hsame : bayOf gone b = bayOf State.reset b := by simp only [bayOf, hppc, get_set_same]
    have hkept : bayOf gone b.other = bayOf s b.other := by simp only [bayOf, hppc, get_set_other]
    have hcharging (x : Bay) : (bayOf gone x).state ≠ .charging := by
      rcases bay_cases b x with rfl | rfl
      · simp [hsame, bayAtReset_eq, bayAtReset]
      · simpa [hkept] using hocharging
    have hunfed : anyFeeding gone = false := by
      simp [anyFeeding_bay b, hsame, hkept, hother, hppc, hdcSwitch, bayAtReset_eq, bayAtReset]
    have hgap : gapTarget gone = some .dc :=
      gapTarget_dc (by simpa only [dcPresent, hppc] using hdc) (attachPending_eq_false (by rw [hppc]; exact hwaiting))
    rw [heffect, targetLost_bridge (by rw [hppc]; exact htransfer) hphase hcharging (by rw [hppc]; exact hwaiting) hunfed (.inl hgap), retarget_eq]
    refine ⟨keeps_mono (keeps_trans hkeeps (?_ : KeepsAllBut [.ppc] gone _)) (by decide), ?_, hlu⟩
    · simp [keeps_iff]
    · simp [hppc, hwaiting]
  · obtain ⟨hwaiting, hforced⟩ := hstill
    obtain ⟨hs, hdc, hv, hready, hcharging⟩ := hlow
    let taken : State := withReading vdc va vb vres .absent s
    let out : State := dcOut taken
    have hlost : effect (.sourceMonitorReading vdc va vb vres) s = targetLost .dcLoss out :=
      reading_loses_target hs hdc hv hready hcharging hwaiting htransfer htarget
    obtain ⟨⟨hdcSwitch, hA⟩, hB⟩ : (s.ppc.dcSwitch = false ∧ (bayOf s .A).discharge = false) ∧ (bayOf s .B).discharge = false := by
      simpa [anyFeeding] using hfeeding
    have hpath : out.ppc = read vdc va vb vres s := by
      have hbridging : bridging taken = true := by
        have hunfed : anyFeeding taken = false := hfeeding
        have hon : taken.ppc.railOn = true := hrail
        simp [bridging, hunfed, hon]
      have htimer : timerWithoutDc taken = s.ppc.bridgeTimer := (if_pos ⟨hrail, hA, hB⟩).trans (if_pos hbridging)
      rw [show out.ppc = _ from dcOut_ppc taken, htimer]
      rfl
    have hbay (x : Bay) : bayOf out x = bayOf s x := bayOf_dcOut taken x
    have hkeeps : KeepsAllBut [.ppc, .bbc, .cc, .lu, .delivered] s out := by simp [keeps_iff, out, taken, withReading]
    have hlu : out.lu = (raise (.dcDetached vdc) s).lu := (dcOut_lu taken).trans (raise_lu_of rfl rfl)
    clear_value out
    have hunfed : anyFeeding out = false := by simp [anyFeeding, hbay, hA, hB, hpath, read]
    have hgap : gapTarget out = none := gapTarget_none (by simp [dcPresent, hpath, read]) fun x => by
      rw [eligible_congr (hbay x) (hkeeps .ts (by decide)), hnone]
    have hagain : sourceAgain t out = some b := by simp [sourceAgain, hsource, hbay, hst]
    rw [hlost, targetLost_bridge (by rw [hpath]; exact htransfer) hphase (fun x => by rw [hbay]; exact hcharging x) (by rw [hpath]; exact hwaiting)
      hunfed (.inr ⟨hgap, b, hagain, rfl⟩), retarget_eq]
    refine ⟨keeps_mono (keeps_trans hkeeps (?_ : KeepsAllBut [.ppc] out _)) (by decide), ?_, hlu⟩
    · simp [keeps_iff]
    · simp [hpath, read, hsource, hwaiting]
  · obtain ⟨hwaiting, hforced⟩ := hstill
    let gone : State := packRemoved b (take (.ppcPresFalling b) s)
    have heffect : effect (.ppcPresFalling b) s = endTransfer true gone := by
      have hforcedRemoval : effect (.ppcPresFalling b) s = forcedRemoval b (take (.ppcPresFalling b) s) := by
        rcases hst with h | h <;> simp [effect, presFell, h]
      exact hforcedRemoval.trans (forcedRemoval_source (s := take (.ppcPresFalling b) s) htransfer rfl rfl rfl hsession)
    have hppc : gone.ppc = { s.ppc with dcSwitch := true, bridgeTimer := none, bays := s.ppc.bays.set b (bayOf State.reset b) } := by
      rw [show gone.ppc = _ from packRemoved_ppc b (take (.ppcPresFalling b) s), bayAtReset_eq]
      simp [timerWithout, hdcSwitch, forcedWithout_none, hforced]
    have hkeeps : KeepsAllBut [.ppc, .bbc, .cc, .lu, .delivered] s gone := by simp [keeps_iff, gone]
    have hlu : gone.lu = (raise (.forcedRemoval b (bayOf s b).state) s).lu := by
      rw [show gone.lu = _ from packRemoved_lu b (take (.ppcPresFalling b) s), bayOf_take]
      exact raise_lu_of (by simp) (by simp)
    have hts : gone.ts = s.ts := hkeeps .ts (by decide)
    rw [heffect]
    clear_value gone
    obtain ⟨hmoved, -, hupath, -, -, -, hulu⟩ :=
      endTransfer_onDc htransfer hwaiting hforced hdc hppc hkeeps (by rw [bayAtReset_eq]; rfl) hopending
    refine ⟨hmoved, ?_, hulu.trans (raise_lu_of hlu (by simpa using hts))⟩
    rw [hupath, ← hdcSwitch]

end Sys2Proof.Machine
end
